-- ==== Sys2Proof/Word.lean ====
section
/-! DEFINITION. The word, the byte and the key-value list that the model's state is made of. -/

namespace Sys2Proof

/-- A register word (R2). -/
abbrev Word := BitVec 32

/-- A byte of memory. -/
abbrev Byte := BitVec 8

/-- A finite map from numbers, held as a list of pairs with strictly rising keys. -/
abbrev KMap (α : Type) := List (Nat × α)

end Sys2Proof
end

