-- ==== Sys2Proof/Machine/TypesCan.lean ====
section
/-! DEFINITION. The data of the CAN and LIN channels (spec/07). -/

namespace Sys2Proof.Machine

/-- A CAN frame: the identifier as MB_ID holds it, an 11-bit one in bits [28:18] (R147). -/
structure CanFrame where
  id : Nat
  ide : Bool := false
  rtr : Bool := false
  fdf : Bool := false
  brs : Bool := false
  esi : Bool := false
  xlf : Bool := false
  sec : Bool := false
  vcid : Nat := 0
  sdt : Nat := 0
  af : Nat := 0
  /-- data length in bytes; a remote frame has a length and no data -/
  len : Nat := 0
  data : List Byte := []
  deriving DecidableEq, Repr

/-- MB_STATE.CODE (R147). -/
inductive MbCode where
  | disabled | txIdle | txPending | txActive | txDone | txCancelled | txFailed | rxEmpty | rxFull
  deriving DecidableEq, Repr

/-- A gateway write held while the buffer is TX_ACTIVE (R149): the new words and whether it requests. -/
structure HeldWrite where
  words : KMap Word
  req : Bool
  deriving DecidableEq, Repr

/-- One message buffer (R147): `words` holds the words from offset 0x08 up. -/
structure Mb where
  code : MbCode := .disabled
  cancelLate : Bool := false
  overrun : Bool := false
  launchLate : Bool := false
  attempts : Nat := 0
  seq : Nat := 0
  words : KMap Word := []
  held : Option HeldWrite := none
  cancelPending : Bool := false
  /-- its launch time has been reached (R162) -/
  eligible : Bool := false
  /-- a direction committed while it was pending or active (R158) -/
  newDir : Option Nat := none
  deriving DecidableEq, Repr

/-- What a channel is sending (R157). -/
inductive TxSource where
  | buffer (mb : Nat)
  /-- the head of this message queue (R155) -/
  | stream (queue : Nat)
  deriving DecidableEq, Repr

/-- The frame a channel is sending (R157). -/
structure CanTx where
  source : TxSource
  frame : CanFrame
  stamp : Nat
  deriving DecidableEq, Repr

/-- One entry of the stay-awake log (R164). -/
structure SalEntry where
  ide : Bool
  key : Nat
  firstMs : Nat
  count : Nat
  deriving DecidableEq, Repr

/-- One CAN channel: `ctrl` to `tdc` are the configuration in effect (R146). DESIGN CHOICE: notes/assumptions/8.md. -/
structure CanChan where
  ctrl : Word := 0
  nbt : Word := 0x1F1F7E00
  dbt : Word := 0x07071E00
  xbt : Word := 0x00000100
  tdc : Word := 0x80000020
  /-- a committed change waits for bus idle -/
  pendingCfg : Bool := false
  /-- LOCAL_TIME from which the channel takes part in bus activity -/
  ready : Option Nat := none
  tec : Nat := 0
  rec' : Nat := 0
  busOff : Bool := false
  recovering : Bool := false
  /-- recovery began -/
  recAt : Nat := 0
  warn : Bool := false
  woke : Bool := false
  tx : Option CanTx := none
  mbs : KMap Mb := []
  /-- transmit stream: CODE, ATTEMPTS, CANCEL_LATE, SEQ and a pending cancel (R155) -/
  stream : Mb := { code := .txIdle }
  txDone : List Nat := []
  salArmed : Bool := false
  salSince : Nat := 0
  salFull : Bool := false
  sal : List SalEntry := []
  tdcv : Nat := 0
  /-- the secondary sample point of the data phase, in CAN clock cycles (R145) -/
  ssp : Nat := 0
  deriving DecidableEq, Repr

/-- LIN_STAT.STATE (R173). -/
inductive LinState where
  | off | sleep | awake | waking
  deriving DecidableEq, Repr

/-- LIN_STAT.LAST_ERR (R173). -/
inductive LinErr where
  | none | bit | checksum | parity | framing | sync | noResponse | incomplete | collision
  deriving DecidableEq, Repr

/-- A LIN frame in progress (R170). -/
structure LinFrame where
  fid : Nat
  stamp : Nat
  /-- header sent by this channel as master -/
  master : Bool
  /-- bit rate of the frame: BAUD, or what a slave measured (R168) -/
  rate : Nat
  /-- the stop bit of the protected identifier ends here, and a publish buffer's DATA are latched (R169) -/
  idEnd : Nat
  /-- the data latched, none before `idEnd`, and their checksum -/
  data : Option (List Byte) := none
  sum : Byte := 0
  /-- a slave that stays silent -/
  silent : Bool := false
  /-- go-to-sleep command -/
  sleepCmd : Bool := false
  /-- the entry is EVENT_TRIGGERED, with its collision table -/
  coll : Option Nat := none
  deriving DecidableEq, Repr

/-- One LIN frame buffer (R169). -/
structure LinBuf where
  new : Bool := false
  updated : Bool := false
  err : LinErr := .none
  seq : Nat := 0
  dataLo : Word := 0
  dataHi : Word := 0
  stamp : Nat := 0
  deriving DecidableEq, Repr

/-- One LIN channel (R168 to R171). -/
structure LinChan where
  state : LinState := .off
  lastErr : LinErr := .none
  wakeFail : Bool := false
  /-- table in use; 7 is stopped -/
  sched : Nat := 7
  /-- place within the table, and the entry in progress -/
  place : Nat := 0
  entry : Nat := 0
  /-- table asked for by LIN_CMD, from the next slot -/
  want : Option Nat := none
  /-- the collision table that runs once, and its place -/
  collRun : Option (Nat × Nat) := none
  sleepAsked : Bool := false
  frame : Option LinFrame := none
  bufs : KMap LinBuf := []
  /-- LOCAL_TIME of the last bus activity -/
  lastBus : Nat := 0
  /-- wake-up signals sent without an answer, and the time of the last -/
  wakes : Nat := 0
  wakeAt : Nat := 0
  /-- LIN_CMD.WAKE is not accepted before this time -/
  wakeBlock : Nat := 0
  /-- the slot in progress ends here (R170) -/
  slotEnd : Nat := 0
  /-- a master's schedule resumes at this time -/
  resumeAt : Option Nat := none
  deriving DecidableEq, Repr

/-- Every CAN and LIN channel. -/
structure Buses where
  can : KMap CanChan := []
  lin : KMap LinChan := []
  deriving DecidableEq, Repr

end Sys2Proof.Machine
end

