-- ==== Sys2Proof/Machine/TypesCore.lean ====
section
/-! DEFINITION. The data of the coherent state, the pages and events, the time unit and the partitions
(spec/01, 02, 12, 13). -/

namespace Sys2Proof.Machine

/-- Cause of a refused access: the codes of EVT_VIOL_INFO.CAUSE (R44), and the bus errors that are no violation
(R16, R17, R25 and the like). -/
inductive BusCause where
  | notOwner | size | unmapped | partnerWrite | partnerDown
  | stageLogFull | notHolder | sealed | refused | ecc
  deriving DecidableEq, Repr

/-- How the last bus access completed: the model's own field, read by nothing the module does.
DESIGN CHOICE: notes/assumptions/7.md. -/
inductive Resp where
  | none
  | ok (data : Nat)
  /-- a read that ends so returns 0 (R44) -/
  | busError (cause : BusCause) (data : Nat := 0)
  deriving DecidableEq, Repr

/-- One record of the violation FIFO (R44). -/
structure Violation where
  part : Nat
  requester : Nat
  write : Bool
  cause : BusCause
  addr : Nat
  time : Nat
  deriving DecidableEq, Repr

/-- PAGE_STATE.STATE (R40). -/
inductive PageMode where
  | active | quiescing | quiesced | resetting
  deriving DecidableEq, Repr

/-- PAGE_STATE.FAULT (R40). -/
inductive PageFault where
  | none | drainTimeout | resetNotQuiesced | commandInvalid | squashed
  deriving DecidableEq, Repr

/-- What stopped a page that is QUIESCING or QUIESCED (R47): the count of PAGE_INFLIGHT and the block's own rules
depend on it. -/
inductive StopKind where
  | none | quiesce | drain | squash
  deriving DecidableEq, Repr

/-- The header state of one page (R40, R47, R32). -/
structure Page where
  mode : PageMode := .active
  fault : PageFault := .none
  stop : StopKind := .none
  resetPending : Bool := false
  /-- end of T_d, LOCAL_TIME (R47) -/
  deadline : Option Nat := none
  /-- LOCAL_TIME of entry to RESETTING -/
  resetSince : Nat := 0
  epochSeen : Nat := 0
  /-- the page holds a snapshot (R32) -/
  held : Bool := false
  snapTime : Nat := 0
  deriving DecidableEq, Repr

/-- State of the copy of a generation table set that is not ACTIVE (R12). -/
inductive OtherCopy where
  | spare | draining | resync
  deriving DecidableEq, Repr

/-- The generation table sets (R12). -/
inductive SetId where
  | sw | gw | part
  deriving DecidableEq, Repr

/-- A generation table set: two copies, keyed by window address, the colour of the ACTIVE one, the state of the other
and the holder of staged edits (R12, R17). -/
structure GenSet where
  copy0 : KMap Word := []
  copy1 : KMap Word := []
  /-- false: copy 0 is ACTIVE -/
  colour : Bool := false
  other : OtherCopy := .spare
  /-- LOCAL_TIME at which the other copy took its state -/
  since : Nat := 0
  holder : Option Nat := none
  deriving DecidableEq, Repr

/-- One entry of the stage log (R16). -/
structure LogEntry where
  set : SetId
  addr : Nat
  val : Word
  part : Nat
  deriving DecidableEq, Repr

/-- A staged table region (R15): `since` holds the entries written after the last switch while the spare copy is
being resynchronised. -/
structure Region where
  active : KMap Word := []
  spare : KMap Word := []
  dirty : Bool := false
  resync : Bool := false
  since : List Nat := []
  /-- LOCAL_TIME of the last switch -/
  switched : Nat := 0
  deriving DecidableEq, Repr

/-- COH_STATUS.RESULT (R36). -/
inductive CommitResult where
  | none | applied | refusedDrain | refusedTime | refusedPending | refusedScope | refusedKey | cancelled
  | refusedPair | refusedMode
  deriving DecidableEq, Repr

/-- Where a pair-coherent or joint commit stands on the unit that initiated it (R397). -/
inductive PairStage where
  | none | prepared | accepted | verdictGiven | go
  deriving DecidableEq, Repr

/-- A scheduled commit (R24, R397). -/
structure PendingCommit where
  time : Nat
  all : Bool
  pairMode : Bool := false
  stage : PairStage := .none
  /-- the REASON of the partner's VERDICT, once it is here -/
  verdict : Option Nat := none
  /-- this unit's drain verdict, once evaluated -/
  ownDrain : Option Bool := none
  /-- staged words the PREPARE counted -/
  count : Nat := 0
  /-- this unit is the partner, sealed by the initiator's PREPARE -/
  fromPartner : Bool := false
  deriving DecidableEq, Repr

/-- The copies of the COH page that are banked per partition (R36). -/
structure CohBank where
  timeLo : Word := 0
  timeHi : Word := 0
  result : CommitResult := .none
  skipped : Bool := false
  sealedWrite : Bool := false
  lastEpoch : Nat := 0
  pending : Option PendingCommit := none
  snapTime : Nat := 0
  evStatus : Word := 0
  evEnable : Word := 0
  deriving DecidableEq, Repr

/-- The coherence page (R19, R35, R36). -/
structure Coh where
  epoch : Nat := 0
  lastLt : Nat := 0
  banks : KMap CohBank := []
  /-- owners of the taken semaphores (R35) -/
  sems : KMap Nat := []
  deriving DecidableEq, Repr

/-- State of a gPTP domain (R295). -/
inductive DomState where
  | free | synced | holdover
  deriving DecidableEq, Repr

/-- One entry of the transmit stamp FIFO (R306). -/
structure TxStamp where
  port : Nat
  msgType : Nat
  seqId : Nat
  time : Nat
  deriving DecidableEq, Repr

/-- A domain clock (R293): `d` and `slewLeft` count units of 2^-40 * 10^-9 ns, so that a step of either kind is a whole
number of units. -/
structure DomClock where
  /-- D in units of 2^-40 ns (R293) -/
  d : Int := 0
  /-- what a slew has advanced below that unit, in units of 2^-40 * 10^-9 ns -/
  rest : Int := 0
  /-- ns that a STEP adds at the next 2 ns step (R294) -/
  stepBy : Int := 0
  slewLeft : Int := 0
  adjOfs : Word := 0
  state : DomState := .free
  lastAdjust : Nat := 0
  holdSince : Nat := 0
  stamps : List TxStamp := []
  deriving DecidableEq, Repr

/-- A two-step Sync whose Follow_Up has not yet arrived or been sent (R304): the number of its relay, its slave port and
the ports it is relayed on. -/
structure AwaitedFollowUp where
  dom : Nat
  serial : Nat
  port : Nat
  ports : List Nat
  seqId : Nat
  since : Nat
  /-- the correction of each egress port, in units of 2^-16 ns -/
  corrections : List (Nat × Int)
  /-- its Follow_Up has arrived -/
  arrived : Bool := false
  deriving DecidableEq, Repr

/-- The time unit (R291 to R299). -/
structure Clock where
  lt : Nat := 0
  /-- the module has no supply, or is held in power-on reset (R443) -/
  held : Bool := false
  /-- LOCAL_TIME recorded at entry to PARK or DORMANT (R292) -/
  parkAt : Nat := 0
  dom0 : DomClock := {}
  dom1 : DomClock := {}
  /-- PHASE of R297, in units of 2^-40 * 10^-9 ns, as PTP_SLEW_LEFT is held -/
  phase : Int := 0
  switching : Bool := false
  abruptLast : Bool := false
  stepTime : Nat := 0
  stepNs : Int := 0
  followUps : List AwaitedFollowUp := []
  /-- the number of the next relay of a Sync -/
  nextRelay : Nat := 0
  deriving DecidableEq, Repr

/-- PART_PSTAT.STATE (R329). -/
inductive PartState where
  | off | stopped | running | resetting
  deriving DecidableEq, Repr

/-- PART_PSTAT.PHASE (R329). -/
inductive PartPhase where
  | none | drain | squash | clean
  deriving DecidableEq, Repr

/-- Reset causes (R329). -/
inductive ResetCause where
  | none | command | disabled | lockstep | cluster | activation | pin
  deriving DecidableEq, Repr

/-- One partition (R322): `scope` is the PART table under which the scope of a reset was fixed (R323). -/
structure Part where
  state : PartState := .off
  phase : PartPhase := .none
  cause : ResetCause := .none
  restart : Bool := false
  start : Nat := 0
  drainEnd : Nat := 0
  timeout : Bool := false
  squashed : Bool := false
  scope : KMap Word := []
  deriving DecidableEq, Repr

/-- PART_CMD_STAT.RESULT (R329). -/
inductive PartCmdResult where
  | none | accepted | refusedKey | refusedState | refusedTarget
  deriving DecidableEq, Repr

/-- The PART page and the cores (R313, R329). DESIGN CHOICE: notes/assumptions/62.md. -/
structure Parts where
  table : KMap Part := []
  cmdTarget : Nat := 0
  cmdResult : PartCmdResult := .none
  lastPart : Nat := 0
  lastCause : ResetCause := .none
  lastTimeout : Bool := false
  lastSquashed : Bool := false
  lastTime : Nat := 0
  /-- the partition running on each core, 0 to 9, and since when -/
  current : KMap (Nat × Nat) := []
  /-- the monitor is being reloaded (R328) -/
  clusterDown : Bool := false
  /-- RESET_N holds the processors (R440, R455) -/
  pinHeld : Bool := false
  deriving DecidableEq, Repr

/-- The DRAM controller (R330). -/
structure Dramc where
  pos : Nat := 0
  /-- the next granule is due at this LOCAL_TIME, in units of 2^-28 ns -/
  due : Nat := 0
  periodCorr : Nat := 0
  periodRaised : Bool := false
  errValid : Bool := false
  errMore : Bool := false
  errPart : Nat := 0
  errReq : Nat := 0
  errWrite : Bool := false
  errAddr : Nat := 0
  errTime : Nat := 0
  ready : Bool := false
  deriving DecidableEq, Repr

end Sys2Proof.Machine
end

