-- ==== Sys2Proof/Machine/TypesPower.lean ====
section
/-! DEFINITION. The data of Encke, the wake logic and the zone sleep protocol (spec/14). -/

namespace Sys2Proof.Machine

/-- The six power states (R331). -/
inductive PwrState where
  | run | idle | nap | drowse | park | dormant
  deriving DecidableEq, Repr

/-- A partition's banked need (R337, R351); `lo` is the low word written and not yet in effect. -/
structure Need where
  lo : Word := 0xFFFFFFFF
  time : Nat := 0xFFFFFFFFFFFFFFFF
  lat : Word := 0
  deriving DecidableEq, Repr

/-- Causes of PWR_WAKE_CAUSE (R351). -/
inductive WakeCause where
  | none | wakeLine | wakeInput | digitalInput | can | lin | timer | afterCommit | software
  deriving DecidableEq, Repr

/-- PWR_ZSP_STAT.STATE (R343). -/
inductive ZspState where
  | awake | ready | notReady | committed | asleep
  deriving DecidableEq, Repr

/-- The zone sleep protocol engine and the wake record (R343 to R350). -/
structure Zsp where
  state : ZspState := .awake
  round : Nat := 0
  reason : Nat := 0
  latched : Option (WakeCause × Nat) := none
  /-- the first wake request since the QUERY of the round -/
  request : Option (WakeCause × Nat) := none
  tc : Nat := 0
  block : Nat := 0
  /-- LOCAL_TIME of the first READY answer since the last wake -/
  firstReady : Option Nat := none
  salDone : Bool := false
  maxDone : Bool := false
  awakeSince : Nat := 0
  /-- the external buses are silent from T_c (R346) -/
  silent : Bool := false
  /-- the WAKE lines are to be driven from this time, or have been driven since -/
  driveFrom : Option Nat := none
  driving : Option Nat := none
  /-- a WAKE_REASON is still to be sent on CAN and on Ethernet -/
  reasonCan : Bool := false
  reasonEth : Bool := false
  cause : WakeCause := .none
  orig : WakeCause := .none
  index : Nat := 0
  valid : Bool := false
  wakeLt : Nat := 0
  /-- the last message acted on and whether it came over Ethernet, so that its copy on the other bearer is not -/
  seen : Option (List Byte × Bool) := none
  deriving DecidableEq, Repr

/-- What limits Encke's choice: PWR_KNOWN and PWR_KNOWN_SRC (R336, R351). -/
structure Known where
  time : Nat := 0xFFFFFFFFFFFFFFFF
  src : Nat := 0
  part : Nat := 0
  index : Nat := 0
  deriving DecidableEq, Repr

/-- Encke and the sleep protocol. -/
structure Power where
  state : PwrState := .run
  target : Option PwrState := none
  /-- an exit is in progress -/
  exiting : Bool := false
  /-- LOCAL_TIME at which the entry or exit in progress began -/
  began : Nat := 0
  last : PwrState := .run
  /-- the module has returned to RUN since `last` was reached -/
  returned : Bool := true
  known : Known := {}
  exitAt : Option Nat := none
  executing : Bool := true
  noDrowse : Nat := 0
  slow : Bool := false
  /-- residence in ns by state, up to `resAt` -/
  res : KMap Nat := []
  resAt : Nat := 0
  needs : KMap Need := []
  zsp : Zsp := {}
  deriving DecidableEq, Repr

end Sys2Proof.Machine
end

