-- ==== Sys2Proof/Machine/TypesPool.lean ====
section
/-! DEFINITION. The data of the cell pool, its queues and the trace recorder (spec/09). -/

namespace Sys2Proof.Machine

/-- State of a bank (R224). -/
inductive BankState where
  | off | active | draining | paused
  deriving DecidableEq, Repr

/-- One bank: its state and the cells of it in use, ascending (R207, R224). -/
structure PoolBank where
  state : BankState := .off
  taken : List Nat := []
  deriving DecidableEq, Repr

/-- WR_STATUS.RESULT (R213). -/
inductive WrResult where
  | none | committed | rewound | droppedFull | droppedPool | droppedLong | droppedOpen | droppedAge | droppedState
  | emptyCommit
  deriving DecidableEq, Repr

/-- A PTP frame whose fields are set at transmission (R304, R305). -/
inductive PtpEdit where
  | none
  /-- a Sync relayed for a domain: ingress stamp of R302 and whether it is two-step -/
  | relay (dom : Nat) (ingress : Nat) (twoStep : Bool) (serial : Nat)
  /-- a relayed Follow_Up, corrected by its egress port's own figure for the Sync of the same relay -/
  | followUp (dom serial : Nat)
  /-- a frame of a domain's transmit queue -/
  | txq (dom : Nat)
  deriving DecidableEq, Repr

/-- What a packet of a stream queue carries beside its bytes (R187, R194, R308). -/
structure CopyMeta where
  /-- the frame whose cells it shares -/
  frame : Nat := 0
  /-- frame length including FCS; for an arriving cut-through frame the length of R189 -/
  len : Nat := 0
  /-- cells charged to the queue (R220) -/
  charge : Nat := 0
  ingress : Nat := 0
  /-- its tail has not arrived (R177) -/
  arriving : Bool := false
  /-- it was in transmission when its queue was squashed (R204, R325) -/
  squashed : Bool := false
  /-- a transmission has begun (R218) -/
  begun : Bool := false
  /-- it must be ended with the inverted FCS (R195, R212) -/
  stomped : Bool := false
  /-- bytes that MACsec adds on the wire (R200) -/
  sec : Nat := 0
  /-- the launch time and whether its base is SYNC_TIME (R308) -/
  launch : Option (Nat × Bool) := none
  /-- the launch copy has become eligible (R308) -/
  eligible : Bool := true
  ptp : PtpEdit := .none
  tc : Nat := 0
  stream : Option Nat := none
  /-- a mirror copy, which is not mirrored again -/
  mirror : Bool := false
  /-- the egress mirror session stage 3 read for its port (R178, R197) -/
  txMirror : Option (Word × Word) := none
  /-- colour of the frame's SW generation, for the mirror copies made of it -/
  sw : Bool := false
  /-- ingress port -/
  port : Nat := 0
  deriving DecidableEq, Repr

/-- A packet (R210, R212): `freed` cells of `cells` have returned to the free list. -/
structure Packet where
  writer : Nat := 0
  part : Nat := 0
  born : Nat := 0
  data : List Byte := []
  popped : Nat := 0
  gap : Nat := 0
  /-- the indices of its cells, in order (R207) -/
  cells : List Nat := []
  freed : Nat := 0
  /-- colour of the PART generation it was stamped with (R27) -/
  colour : Option Bool := none
  /-- read words that held an uncorrectable error -/
  errs : List Nat := []
  dead : Bool := false
  /-- its words are claimed by a transmitting consumer (R218) -/
  claimed : Bool := false
  /-- the instant at which it became visible (R219) -/
  seen : Option Nat := none
  copy : Option CopyMeta := none
  deriving DecidableEq, Repr

/-- A reader's latch (R215). -/
structure Latch where
  data : List Byte := []
  tag : Word := 0x800
  deriving DecidableEq, Repr

/-- One queue (R209): open packets and results by writer, latches by reader. -/
structure Queue where
  visible : List Packet := []
  opens : KMap Packet := []
  results : KMap WrResult := []
  gap : Nat := 0
  latches : KMap Latch := []
  deriving DecidableEq, Repr

/-- The cells of a switch frame, shared by its copies, and its SW colour (R187, R27). -/
structure FrameStore where
  cells : List Nat := []
  freed : Nat := 0
  colour : Bool := false
  deriving DecidableEq, Repr

/-- The trace recorder (R226 to R228): `records` are the offset and the length of every record not yet overwritten,
oldest first. -/
structure Trace where
  wptr : Nat := 0
  records : List (Nat × Nat) := []
  wrapped : Bool := false
  frozen : Bool := false
  /-- bytes still to write after a FREEZE -/
  posting : Option Nat := none
  /-- a commit of the QMGR page has judged the ring (R226) -/
  judged : Bool := false
  next : Nat := 0
  deriving DecidableEq, Repr

/-- The pool. -/
structure Pool where
  banks : KMap PoolBank := []
  queues : KMap Queue := []
  frames : KMap FrameStore := []
  nextFrame : Nat := 0
  /-- active and staged values of QMGR_QCFG_A and QMGR_QCFG_B by message queue (R230) -/
  cfgA : KMap Word := []
  cfgB : KMap Word := []
  stagedA : KMap Word := []
  stagedB : KMap Word := []
  trace : Trace := {}
  deriving DecidableEq, Repr

end Sys2Proof.Machine
end

