-- ==== Sys2Proof/Machine/TypesSwitch.lean ====
section
/-! DEFINITION. The data of the Ethernet switch (spec/08). -/

namespace Sys2Proof.Machine

/-- The MACsec findings of a protected frame (R200 to R202): the SecTAG's AN, SCI and packet number, and whether the ICV
is right. PRESUMED: notes/assumptions/30.md. -/
structure SecTag where
  an : Fin 4
  sci : Option Nat
  pn : Nat
  icvOk : Bool
  deriving DecidableEq, Repr

/-- What arrives at a port: the whole frame, or a cut-through frame's first 128 bytes and later its rest. Bytes run from
the destination address to the end without FCS; `tag` is the SecTAG that MACsec receive removed from the frame. -/
inductive EthRx where
  | whole (stamp : Nat) (frame : List Byte) (fcsOk : Bool) (tag : Option SecTag)
  | head (stamp : Nat) (bytes : List Byte)
  | tail (bytes : List Byte) (fcsOk : Bool)
  deriving DecidableEq, Repr

/-- One flow meter's runtime state (R184): bucket levels in bits times 10^-9, and its counts. -/
structure Meter where
  committed : Option Nat := none
  excess : Option Nat := none
  since : Nat := 0
  red : Bool := false
  greenCount : Nat := 0
  yellowCount : Nat := 0
  redCount : Nat := 0
  deriving DecidableEq, Repr

/-- One recovery function (R196). -/
structure Recovery where
  /-- TakeAny: no frame has been accepted since the reset -/
  fresh : Bool := true
  last : Nat := 0
  history : List Bool := []
  lastFrame : Nat := 0
  passed : Nat := 0
  discarded : Nat := 0
  outOfOrder : Nat := 0
  lost : Nat := 0
  resets : Nat := 0
  deriving DecidableEq, Repr

/-- One generation function (R196). -/
structure GenFn where
  next : Nat := 0
  numbered : Nat := 0
  deriving DecidableEq, Repr

/-- Where a host frame comes from: host transmit queue `q` of P22 to P24 (R199), or the transmit queue of a gPTP domain
(R305). -/
inductive HostSrc where
  | port (n : Fin 27) (q : Fin 8)
  | txq (dom : Fin 2)
  deriving DecidableEq, Repr

/-- What stage 3 decided for a frame (R178, R183). -/
structure Decision where
  port : Nat
  stamp : Nat
  /-- the frame as received, without FCS; `len` counts the FCS -/
  bytes : List Byte
  len : Nat
  colour : Bool
  vid : Nat
  vlan0 : Word
  vlan1 : Word
  stream : Option Nat
  /-- words 12 to 15 of the action block (R182) -/
  act : Word × Word × Word × Word
  tc : Nat
  /-- the mirror sessions the frame is copied to, by their two words -/
  mirrors : List (Word × Word)
  rec0 : Word
  gen0 : Word
  launch : Option (Nat × Bool)
  yellow : Bool := false
  /-- the priority its port gives an untagged frame -/
  defPcp : Nat := 0
  /-- the trace queue -/
  trace : Option Nat := none
  /-- the egress mirror session of each port that has one -/
  txMirrors : KMap (Word × Word) := []
  /-- a word of the frame held an uncorrectable error (R212) -/
  bad : Bool := false
  deriving DecidableEq, Repr

/-- A frame between its head and its tail (R177, R195), with what stage 3 decided for it. `cut` says that stages 4 and 5
have run on its head, for the cut-through copies in `queues`, and `dead` that it is dropped when its tail has come. -/
structure Arriving where
  frame : Nat
  stamp : Nat
  bytes : List Byte
  decision : Option Decision := none
  cut : Bool := false
  dead : Bool := false
  queues : List Nat := []
  seq : Option Nat := none
  strip : Bool := false
  /-- the whole egress set of stage 5 -/
  ports : List Nat := []
  deriving DecidableEq, Repr

/-- SWP_PREEMPT_STAT.VERIFY (R206). -/
inductive Verify where
  | disabled | initial | verifying | succeeded | failed
  deriving DecidableEq, Repr

/-- One port (R206). -/
structure Port where
  up : Bool := false
  downs : Nat := 0
  rate : Nat := 0
  sqi : Nat := 0
  plcaAct : Bool := false
  role : Bool := false
  verify : Verify := .disabled
  active : Bool := false
  /-- the gate entry in force, whether the list runs, and the gate states -/
  running : Bool := false
  entry : Nat := 0
  gates : Nat := 0xFF
  hold : Bool := false
  /-- the list's old values run until this SYNC_TIME (R191) -/
  oldUntil : Option Nat := none
  /-- credits of the eight shapers in bits times 10^-6, and the instant they hold for (R192) -/
  credits : KMap Int := []
  creditAt : Nat := 0
  /-- the queue whose frame is on the wire, and the preempted one -/
  sending : Option Nat := none
  preempted : Option Nat := none
  sendStart : Nat := 0
  /-- bytes of the frame sent before `sendStart`, and the first bit of its destination address -/
  sentBytes : Nat := 0
  da : Nat := 0
  /-- the same of the preempted frame -/
  cutBytes : Nat := 0
  cutDa : Nat := 0
  pn : Nat := 1
  /-- lowest acceptable packet number by receive channel and association (R202) -/
  low : KMap Nat := []
  arriving : Option Arriving := none
  rxBytes : Nat := 0
  txBytes : Nat := 0
  /-- firmware of the external PHY, and a new part that waits for a loss of the link (R419) -/
  fw : List Byte := []
  fwNext : Option (List Byte) := none
  deriving DecidableEq, Repr

/-- The switch. -/
structure Switch where
  ports : KMap Port := []
  meters : KMap Meter := []
  recs : KMap Recovery := []
  gens : KMap GenFn := []
  polSel : Word × Word × Word × Bool := (0, 0, 0, false)
  frerSel : List Word := []
  deriving DecidableEq, Repr

end Sys2Proof.Machine
end

