-- ==== Sys2Proof/Syntax.lean ====
section
/-! DEFINITION. The commands: one constructor per row of spec/opcode_table.json. A software command carries its access
(instant, partition, requester); an event carries its instant and what was measured or received with it. -/

namespace Sys2Proof

open Sys2Proof.Machine

/-- A software access: LOCAL_TIME in ns at which it arrives, the partition whose identity it carries and its requester
number (R34). -/
structure Acc where
  t : Nat
  part : Fin 32
  req : Fin 20
  deriving DecidableEq, Repr

/-- What the ECC of a memory finds: of DRAM at an access or a scrub step (R311, R330), of the cells that a command reads
(R212), of the tables that a command consults (R205, R288). DESIGN CHOICE: notes/assumptions/64.md. -/
inductive EccFound where
  | clean | corrected | uncorrectable
  deriving DecidableEq, Repr

/-- A memory access: a data read, an instruction fetch or a write (R318). -/
inductive MemOp where
  | read (bytes : Nat)
  | fetch (bytes : Nat)
  | write (data : List Byte)
  deriving DecidableEq, Repr

/-- A staged table region (R15). -/
inductive RegionId where
  | gateList (port : Fin 27)
  | canFilter (ch : Fin 12)
  | streamId | vlan | frer | mirror
  deriving DecidableEq, Repr

/-- What a channel's samples gave in one model step (R58, R62, R71, R111). -/
structure ChanSample where
  ch : Fin 128
  /-- mean current in mA -/
  meanMa : Int
  /-- mean of the squared current samples in mA^2 -/
  isq : Nat
  /-- mean output voltage in 10 mV -/
  vout : Int
  /-- latest junction temperature in 0.125 degrees C -/
  tj : Int
  /-- the current sample of the largest magnitude, in mA -/
  peakMa : Int
  /-- mean of the samples inside a pulse's qualifying window (R71), when there was one -/
  window : Option Int
  /-- samples in which the load was fed, and the energy delivered in mJ -/
  fed : Nat
  energyMj : Nat
  /-- the first two samples after a closing, each as a voltage in mV and a current in mA, when the second fell in this
  step -/
  first : Option ((Int × Int) × (Int × Int))
  /-- the time from the closing until the current first fell below 1.25 times this step's mean, in 100 us, when this is the
  64th step after a closing -/
  settle : Nat
  deriving DecidableEq, Repr

/-- The counts of a shared load that unit 1 sends to the keeper of its record (R124). -/
structure PeerCounts where
  /-- the sender's channel, and the keeper's, which LSC_ID_CFG.PEER of the sender names -/
  from_ : Fin 128
  to_ : Fin 128
  /-- fed samples by SYNC_TIME step, oldest first -/
  fed : List (Nat × Nat)
  energyMj : Nat
  /-- trips for causes 1, 2, 3, 4, 6, 7, 8 and 9, in that order -/
  trips : List Nat
  /-- the counts of an outage of the link: their samples and closings -/
  outage : Bool
  samples : Nat
  closings : Nat
  /-- LOAD_NO of the sender's record -/
  loadNo : Nat
  /-- the CLOSE_REASON of a replacement the sender has decided; 0 for none -/
  replaced : Nat
  deriving DecidableEq, Repr

/-- The mean voltage of a bank in one model step, in mV (R58). -/
structure BankSample where
  bank : Fin 4
  mv : Nat
  deriving DecidableEq, Repr

/-- What a CAN receiver detects (R159, R167). -/
inductive CanRxErr where
  | detected | dominantAfterFlag | protocolException
  deriving DecidableEq, Repr


/-- Voltage in mV and current in 0.1 mA of a sensor supply, measured with a sample (R127). -/
structure SupplyMeas where
  n : Fin 8
  mv : Nat
  i : Nat
  deriving DecidableEq, Repr


/-- What a slave sees of a header (R168). -/
structure LinHeader where
  /-- dominant bits of the break -/
  breakBits : Nat
  /-- the rate the sync byte shows, in bit/s; none: it is no sync byte -/
  rate : Option Nat
  /-- the protected identifier; none: its stop bit is missing -/
  pid : Option Byte
  deriving DecidableEq, Repr

/-- How a LIN response ends (R169, R170). -/
inductive LinResp where
  | complete (data : List Byte) (checksum : Byte)
  | collision
  | bitError
  | framing
  deriving DecidableEq, Repr


/-- The commands of the zone computer. What ECC finds, and a measurement that only some of a row's effects ask for, are last
operands with a default. -/
inductive Instr where
  -- coherent state (spec/01, R5 to R35)
  | registerWrite (a : Acc) (addr : Nat) (val : Word) (size : Nat)
  | readToClear (a : Acc) (addr : Nat) (size : Nat)
  | memoryAccess (a : Acc) (addr : Nat) (op : MemOp) (ecc : EccFound)
  | stagedWrite (a : Acc) (addr : Nat) (val : Word)
  | tableWindowWrite (a : Acc) (addr : Nat) (val : Word)
  | discardStage (a : Acc) (page : Fin 118)
  | commitNow (a : Acc) (key : Byte)
  | commitAll (a : Acc) (key : Byte)
  | commitSchedule (a : Acc) (key : Byte) (all : Bool)
  | commitAtTimeApply (t : Nat) (part : Fin 32)
  | commitPairCoherent (a : Acc) (key : Byte) (all : Bool)
  | cancel (a : Acc)
  | cancelOther (a : Acc) (target : Fin 32)
  | discardTables (a : Acc)
  | drainComplete (t : Nat) (set : SetId)
  | resyncComplete (t : Nat) (set : SetId)
  | stageLogReplayed (t : Nat) (set : SetId)
  | regionResyncComplete (t : Nat) (region : RegionId)
  | snapshot (a : Acc) (page : Fin 118)
  | cohSnapshot (a : Acc)
  | snapRelease (a : Acc) (all : Bool) (page : Fin 256)
  | semClaim (a : Acc) (sem : Fin 64)
  | semFree (a : Acc) (sem : Fin 64)
  -- page states and events (spec/02, R40 to R54)
  | quiesce (a : Acc) (page : Fin 118)
  | drain (a : Acc) (page : Fin 118)
  | squash (a : Acc) (page : Fin 118)
  | resume (a : Acc) (page : Fin 118)
  | reset (a : Acc) (page : Fin 118)
  | pageInflightZero (t : Nat) (page : Fin 118)
  | drainTimeout (t : Nat) (page : Fin 118)
  | squashComplete (t : Nat) (page : Fin 118)
  | pageResetComplete (t : Nat) (page : Fin 118)
  | evtStatusClear (a : Acc) (page : Fin 118) (mask again : Word)
  | evtForce (a : Acc) (page : Fin 118) (mask : Word)
  | evtViolPop (a : Acc)
  | partnerViewRead (a : Acc) (addr : Nat) (size : Nat)
  -- output channels and their protection (spec/03)
  | modelStep (t : Nat) (chans : List ChanSample) (banks : List BankSample)
  | shortCircuitTrip (t : Nat) (ch : Fin 128) (currentMa : Int)
  | scWindowEnd (t : Nat) (bank : Fin 4)
  | thermalTrip (t : Nat) (ch : Fin 128) (tj : Int)
  | currentLimitTrip (t : Nat) (ch : Fin 128) (currentMa : Int := 0)
  | retryWaitEnd (t : Nat) (ch : Fin 128)
  | inrushEnd (t : Nat) (ch : Fin 128) (currentMa : Int := 0)
  | uvOff (t : Nat) (bank : Fin 4) (mv : Nat)
  | uvSettleEnd (t : Nat) (bank : Fin 4)
  | uvRestartStep (t : Nat) (bank : Fin 4)
  | olOffCheckStart (t : Nat)
  | olOffCheckEnd (t : Nat)
  | reverseCurrentTrip (t : Nat) (ch : Fin 128) (currentMa : Int)
  | backfedEntry (t : Nat) (ch : Fin 128) (vout : Int)
  | backfedExit (t : Nat) (ch : Fin 128) (vout : Int)
  | closePermitted (t : Nat) (ch : Fin 128) (vout : Int) (mv : Nat)
  | feedRestoreStep (t : Nat) (feed : Fin 2)
  | tripAck (a : Acc) (ch : Fin 128)
  | unlock (a : Acc) (ch : Fin 128) (key : Byte)
  | bankVoltageRecovered (t : Nat) (bank : Fin 4) (mv : Nat)
  | scTripAged (t : Nat) (ch : Fin 128)
  | tjWarn (t : Nat) (ch : Fin 128) (tj : Int)
  -- driving outputs (spec/04)
  | outputSwitch (t : Nat) (ch : Fin 128)
  | pgenPeriodBoundary (t : Nat) (gen : Fin 16)
  | pwmPulseEdge (t : Nat) (ch : Fin 128)
  | leaseTick (t : Nat)
  | leaseExpiry (t : Nat) (ch : Fin 128)
  | renew (a : Acc) (page : Fin 16) (mask : Byte)
  | rearm (a : Acc) (page : Fin 16) (mask : Byte)
  | lsClockStart (t : Nat)
  | lsClockStop (t : Nat)
  -- load identity and ledger (spec/05)
  | interrogate (a : Acc) (ch : Fin 128)
  | tagPeriodExpiry (t : Nat) (ch : Fin 128)
  | tagInterrogationStart (t : Nat) (ch : Fin 128)
  | tagResponse (t : Nat) (ch : Fin 128) (frame : List Byte)
  | tagNoResponse (t : Nat) (ch : Fin 128)
  | tagLowImpedance (t : Nat) (ch : Fin 128)
  | tagRetry (t : Nat) (ch : Fin 128)
  | accept (a : Acc) (ch : Fin 128)
  | ledgerUpdate (t : Nat)
  | journalPeriod (t : Nat)
  | flush (a : Acc)
  | start (a : Acc)
  | ledgerPeerSend (t : Nat) (keeperNo : List (Fin 128 × Nat) := [])
  | ledgerPeerReceive (t : Nat) (ch : Fin 128) (fed : List (Nat × Nat)) (energyMj : Nat) (trips : List Nat) (outage : Bool) (from_ : Fin 128 := 0) (samples closings loadNo replaced : Nat := 0)
  | inductiveDecayEnd (t : Nat) (ch : Fin 128) (decayUs : Nat) (currentMa : Int := 0)
  -- sensing inputs (spec/06)
  | ainSample (t : Nat) (n : Fin 64) (raw : Fin 16384) (supplies : List SupplyMeas)
  | ainOverload (t : Nat) (n : Fin 64)
  | ainBurdenReconnect (t : Nat) (n : Fin 64)
  | dinPoll (t : Nat) (n : Fin 96) (mv : Nat)
  | finEdge (t : Nat) (n : Fin 16) (high : Nat) (low pulse : Nat := 0)
  | finGateEnd (t : Nat) (n : Fin 16)
  | finStall (t : Nat) (n : Fin 16)
  | ssupOverload (t : Nat) (n : Fin 8)
  | ssupBackfed (t : Nat) (n : Fin 8)
  | ssupUndervolt (t : Nat) (n : Fin 8) (below : Bool)
  | ssupRetry (t : Nat) (n : Fin 8)
  | ssupFaultRestart (a : Acc) (n : Fin 8)
  | wakeInputEdge (t : Nat) (k : Fin 4) (level : Bool)
  -- CAN (spec/07)
  | canConfigApply (t : Nat) (ch : Fin 12)
  | req (a : Acc) (ch : Fin 12) (mb : Fin 128)
  | mbCancel (a : Acc) (ch : Fin 12) (mb : Fin 128)
  | release (a : Acc) (ch : Fin 12) (mb : Fin 128)
  | txsCancel (a : Acc) (ch : Fin 12)
  | canSof (t : Nat) (ch : Fin 12) (ecc : EccFound := .clean)
  | canTxDone (t : Nat) (ch : Fin 12) (delay : Option (Fin 128))
  | canArbitrationLost (t : Nat) (ch : Fin 12)
  | canTxError (t : Nat) (ch : Fin 12) (lec : Fin 8) (dataPhase exempt : Bool) (delay : Option (Fin 128) := none)
  | canRxFrame (t : Nat) (ch : Fin 12) (frame : CanFrame) (stamp : Nat)
  | canRxError (t : Nat) (ch : Fin 12) (kind : CanRxErr) (lec : Fin 8) (dataPhase exempt : Bool)
  | recover (a : Acc) (ch : Fin 12)
  | busOffEnd (t : Nat) (ch : Fin 12)
  | canLaunchEligible (t : Nat) (ch : Fin 12) (mb : Fin 128)
  | launchLate (t : Nat) (ch : Fin 12) (mb : Fin 128)
  | canWakePattern (t : Nat) (ch : Fin 12)
  | canWakeFrame (t : Nat) (ch : Fin 12) (frame : CanFrame)
  | salArm (a : Acc) (ch : Fin 12) (saOnly : Bool)
  -- LIN (spec/07)
  | sched (a : Acc) (l : Fin 8) (table : Fin 8)
  | sleep (a : Acc) (l : Fin 8)
  | wake (a : Acc) (l : Fin 8)
  | linSlotStart (t : Nat) (l : Fin 8)
  | linHeaderRx (t : Nat) (l : Fin 8) (rate : Option Nat) (pid : Option Byte) (stamp : Nat) (breakBits : Nat := 11)
  | linResponseRx (t : Nat) (l : Fin 8) (resp : LinResp)
  | linFrameTimeout (t : Nat) (l : Fin 8) (someByte : Bool)
  | linBusWake (t : Nat) (l : Fin 8)
  | linIdleSleep (t : Nat) (l : Fin 8)
  | linWakeRetry (t : Nat) (l : Fin 8)
  | linScheduleResume (t : Nat) (l : Fin 8)
  | update (a : Acc) (l : Fin 8) (i : Fin 64)
  | lfbRelease (a : Acc) (l : Fin 8) (i : Fin 64)
  -- the switch (spec/08, R176 to R206)
  | ethFrameRx (t : Nat) (port : Fin 27) (rx : EthRx) (ecc : EccFound)
  | hostFrameIn (t : Nat) (src : HostSrc) (ecc : EccFound) (cells : EccFound := .clean)
  | ethTxSelect (t : Nat) (port : Fin 27) (da : Nat)
  | ethTxComplete (t : Nat) (port : Fin 27) (ecc : EccFound)
  | streamAgeOut (t : Nat) (q : Fin 216)
  | gateEntryChange (t : Nat) (port : Fin 27)
  | preemptVerifyDone (t : Nat) (port : Fin 27) (ok : Bool)
  | recoveryReset (t : Nat) (f : Fin 512)
  | ethLinkChange (t : Nat) (port : Fin 27) (up : Bool) (rate : Fin 7) (role : Bool) (sqi : Fin 8) (plca : Bool)
  | polSelect (a : Acc) (index : Fin 1024)
  | polZero (a : Acc) (index : Fin 1024)
  | clearRed (a : Acc) (index : Fin 1024)
  | frerSelect (a : Acc) (gen : Bool) (index : Fin 512)
  | frerZero (a : Acc) (gen : Bool) (index : Fin 512)
  | frerReset (a : Acc) (gen : Bool) (index : Fin 512)
  | ethLaunchEligible (t : Nat) (q : Fin 216)
  -- cell pool and queues (spec/09)
  | wrData (a : Acc) (q : Fin 4096) (off : Fin 2016) (val size : Nat)
  | wrCommit (a : Acc) (q : Fin 4096) (val : Word)
  | wrRewind (a : Acc) (q : Fin 4096)
  | rdWord (a : Acc) (q : Fin 4096) (off : Fin 32) (size : Nat) (ecc : EccFound)
  | rdSkip (a : Acc) (q : Fin 4096) (val : Word)
  | qFlush (a : Acc) (q : Fin 4096) (val : Word)
  | msgAgeOut (t : Nat) (q : Fin 4096)
  | bankPaused (t : Nat) (bank : Fin 32)
  | bankUnpaused (t : Nat) (bank : Fin 32)
  | bankDone (t : Nat) (bank : Fin 32)
  | traceRecord (t : Nat) (ecc : EccFound := .clean)
  | freeze (a : Acc)
  | traceFrozen (t : Nat)
  | unfreeze (a : Acc)
  | clear (a : Acc)
  -- the DMA engine (spec/10, R234 to R252)
  | dmaStart (a : Acc) (ch pc : Fin 64)
  | stop (a : Acc) (ch : Fin 64)
  | dmaClear (a : Acc) (ch : Fin 64)
  | dmaTrig (a : Acc) (page : Fin 8) (mask : Byte)
  | halt (t : Nat) (ch : Fin 64)
  | move (t : Nat) (ch : Fin 64) (ecc : EccFound)
  | loop (t : Nat) (ch : Fin 64)
  | wait (t : Nat) (ch : Fin 64)
  | dmaWaitMet (t : Nat) (ch : Fin 64)
  | signal (t : Nat) (ch : Fin 64)
  | ring (t : Nat) (ch : Fin 64) (ecc : EccFound)
  | ringWriteback (t : Nat) (ch : Fin 64)
  | fence (t : Nat) (ch : Fin 64)
  | dmaFault (t : Nat) (ch : Fin 64) (bus : Option Nat)
  | chOff (t : Nat) (ch : Fin 64)
  -- the signal gateway and the transport engine (spec/11, R256 to R289)
  | gwEventAdmit (t : Nat) (ecc : EccFound)
  | gwRouteJob (t : Nat) (ecc : EccFound)
  | containerClose (t : Nat) (c : Fin 32)
  | gwP25FrameIn (t : Nat) (ecc : EccFound := .clean)
  | groupDone (t : Nat) (g : Fin 256)
  | gwSlotClr (a : Acc) (all : Bool) (slot : Fin 4096)
  | tpeTxRequest (t : Nat) (ch : Fin 12) (ecc : EccFound := .clean)
  | tpeFrameRx (t : Nat) (ch : Fin 12) (frame : CanFrame) (stamp : Nat)
  | tpeTxFrameDone (t : Nat) (ch : Fin 12)
  | tpeTimerExpiry (t : Nat) (sess : Fin 256)
  | tpeGapExpiry (t : Nat) (sess : Fin 256)
  -- time (spec/12, R291 to R310)
  | slew (a : Acc) (dom : Fin 2)
  | step (a : Acc) (dom : Fin 2)
  | locked (a : Acc) (dom : Fin 2)
  | holdover (a : Acc) (dom : Fin 2)
  | txPop (a : Acc) (dom : Fin 2)
  | ptpRateWrite (a : Acc) (dom : Fin 2) (rate : Word)
  | watchdog (t : Nat) (dom : Fin 2)
  | holdoverExpiry (t : Nat) (dom : Fin 2)
  | switchDone (t : Nat)
  | followUpTimeout (t : Nat) (dom : Fin 2) (seqId : Fin 65536)
  | slewComplete (t : Nat) (dom : Fin 2)
  -- processors and partitions (spec/13, R311 to R330)
  | lockstep (t : Nat) (pair : Fin 2)
  | partReset (a : Acc) (key : Byte) (target : Fin 32)
  | partStart (a : Acc) (key : Byte) (target : Fin 32)
  | restart (a : Acc) (key : Byte) (target : Fin 32)
  | cluster (t : Nat) (cmd : Option (Acc × Byte))
  | partDrainEnd (t : Nat) (part : Fin 32)
  | partSquashDone (t : Nat) (part : Fin 32)
  | resetDone (t : Nat) (part : Fin 32)
  | clusterReload (t : Nat)
  | sliceEnd (t : Nat) (core : Fin 10)
  | scrubStep (t : Nat) (found : EccFound)
  | dramcErrPop (a : Acc)
  -- power states and network sleep (spec/14, R331 to R352)
  | enckeChoose (t : Nat) (executing : Bool) (timers : List (Fin 32 × Nat))
  | powerStateEntered (t : Nat)
  | enckeExitTimer (t : Nat)
  | fabricLoadHigh (t : Nat)
  | needDeclare (a : Acc) (val : Word)
  | zspQuery (t : Nat) (eth : Bool) (ecc : EccFound := .clean)
  | zspCommit (t : Nat) (eth : Bool) (ecc : EccFound := .clean)
  | zspAbort (t : Nat) (eth : Bool) (ecc : EccFound := .clean)
  | zspAnswer (t : Nat) (eth : Bool) (ecc : EccFound := .clean)
  | wakeRequest (t : Nat) (cause : WakeCause) (index : Fin 256)
  | zspTc (t : Nat)
  | wakeLine (t : Nat) (lines : Fin 4)
  | wakeDriveStart (t : Nat)
  | wakeDriveEnd (t : Nat)
  | wakeReasonSend (t : Nat) (eth : Bool)
  | pwrWake (a : Acc)
  | localSleep (a : Acc) (delay : Fin 65536)
  | stayAwake (t : Nat)
  | maxAwake (t : Nat)
  | powerStateExited (t : Nat) (paired : Bool := false) (unit : Fin 2 := 0)
  | needDue (t : Nat) (part : Fin 32)
  -- the Uloft link (spec/15, R356 to R375)
  | partnerReadComplete (t : Nat)
  | partnerReadTimeout (t : Nat)
  | fenceComplete (t : Nat) (ch : Fin 64)
  | ulfTrainStart (t : Nat)
  | ulfLanesLocked (t : Nat)
  | ulfTrainTimeout (t : Nat)
  | ulfParamRx (t : Nat) (unit : Fin 2) (paired : Bool) (major p np c tun pr : Byte)
  | ulfLinkFailure (t : Nat) (lock : Fin 4)
  | ulfRetrain (a : Acc)
  | ulfRetrainDone (t : Nat)
  | ulfRetrainTimeout (t : Nat)
  | ulfFlitRx (t : Nat) (flit : List Byte) (crc : Word) (bad : List Nat)
  | ulfNakTimeout (t : Nat)
  | fenceAck (t : Nat)
  | combinerTimeout (t : Nat)
  | lerPop (a : Acc)
  -- the redundant pair (spec/16, R381 to R402)
  | leaseSend (t : Nat)
  | leaseRx (t : Nat)
  | helloRx (t : Nat) (diverged : Word)
  | takeover (t : Nat) (part : Fin 32)
  | authInChange (t : Nat) (level : Bool)
  | pairHeart (a : Acc)
  | heartbeatExpired (t : Nat) (part : Fin 32)
  | prepareRx (t : Nat) (part : Fin 32)
  | acceptRx (t : Nat) (part : Fin 32)
  | rejectRx (t : Nat) (part : Fin 32)
  | verdictCheck (t : Nat) (part : Fin 32)
  | verdictRx (t : Nat) (part : Fin 32)
  | goDecision (t : Nat) (part : Fin 32)
  | goRx (t : Nat) (part : Fin 32)
  | pairAbortRx (t : Nat) (part : Fin 32)
  | memoryPhaseDone (t : Nat)
  | syncDone (t : Nat) (part : Fin 32)
  | handover (a : Acc) (key : Byte) (target : Fin 32)
  | pairReleaseSend (t : Nat)
  | leave (a : Acc) (key : Byte)
  | cancelLeave (a : Acc) (key : Byte)
  | byeRx (t : Nat)
  | sleepSuspendEnd (t : Nat)
  -- update and security (spec/17, R410 to R434)
  | powerOnRelease (t : Nat) (paired : Bool) (unit : Fin 2)
  | updOpen (a : Acc) (key : Byte)
  | stage (a : Acc) (key : Byte) (part : Fin 64)
  | stageDone (t : Nat)
  | activate (a : Acc) (key : Byte)
  | updRestart (a : Acc) (key : Byte)
  | confirm (a : Acc) (key : Byte)
  | updAbort (a : Acc) (key : Byte)
  | trialPassed (t : Nat)
  | trialFailed (t : Nat) (bad : Option (Fin 64))
  | peerReport (t : Nat) (actId : Fin 65536) (st : Fin 8)
  | attest (a : Acc) (key : Byte)
  | attestDone (t : Nat)
  | keyLoad (a : Acc) (key : Byte) (slot : Fin 64)
  | keyErase (a : Acc) (key : Byte) (slot : Fin 64)
  | svcClose (a : Acc) (key : Byte)
  | otpKey (a : Acc) (key : Byte) (slot : Fin 64)
  | keyDone (t : Nat) (ok : Bool)
  | svcChallenge (t : Nat)
  | svcAnswer (t : Nat) (block sigEc sigMl : List Byte)
  | svcLockEnd (t : Nat)
  | storRead (a : Acc) (count : Fin 65536)
  | storWrite (a : Acc) (count : Fin 65536)
  | cmdDone (t second : Nat) (failed : Option (Fin 65536))
  | journalAppend (t : Nat) (ecc : EccFound := .clean)
  -- resets and supply (spec/18)
  | pinReset (t : Nat)
  | pinResetRelease (t : Nat)
  | powerOnReset (t : Nat)
  deriving DecidableEq, Repr

end Sys2Proof
end

