-- ==== Sys2Proof/Decode.lean ====
section
/-! DEFINITION. Decoding. The commands come from outside the block and spec/opcode_table.json gives no row any bits, so that
no word spells a command. -/

namespace Sys2Proof

/-- The command that the `nbits` bits of `w` spell by the table's bits: none, since no row has bits.
DESIGN CHOICE: notes/assumptions/1.md. -/
def decodeTableWord (_nbits _w : Nat) : Option Instr := none

end Sys2Proof
end

