-- ==== Sys2Proof/Config.lean ====
section
/-! DEFINITION. The values the spec leaves open: constants without a body, so that nothing can be proved of them. -/

namespace Sys2Proof.Config

/-- A value the spec does not state, one for every number it is applied to; a meaning applies it to the state's
counter of free values and advances the counter (notes/assumptions). DESIGN CHOICE: notes/assumptions/3.md. -/
opaque freeValue : Nat → Nat

/-- Whether a DRAM device reports more than 85 °C at a LOCAL_TIME (R330): no command carries the report.
DESIGN CHOICE: notes/assumptions/13.md. -/
opaque dramHot : Nat → Bool

/-- SHA-512, the signature checks and the identity's signatures are standard functions whose text the spec does not
repeat: nothing is assumed of them (R407, R409, R423). DESIGN CHOICE: notes/assumptions/13.md. -/
opaque sha512 : List Byte → List Byte
/-- DESIGN CHOICE: notes/assumptions/13.md. -/
opaque ecVerify (key message signature : List Byte) : Bool
/-- DESIGN CHOICE: notes/assumptions/13.md. -/
opaque mlVerify (key message signature : List Byte) : Bool
/-- DESIGN CHOICE: notes/assumptions/13.md. -/
opaque ecSign (message : List Byte) : List Byte
/-- DESIGN CHOICE: notes/assumptions/13.md. -/
opaque mlSign (message : List Byte) : List Byte

/-- The vendor's key block, whose hash OTP slot 0 holds (R409, R422). DESIGN CHOICE: notes/assumptions/13.md. -/
opaque vendorKey : List Byte

/-- The 16-byte DEVICE_ID of the identity certificate (R423). DESIGN CHOICE: notes/assumptions/13.md. -/
opaque deviceId : Nat

end Sys2Proof.Config
end

