-- ==== Sys2Proof/Machine/Bits.lean ====
section
/-! DEFINITION. Reading and writing fields of register words, byte order, and signed fields (R2, R5). -/

namespace Sys2Proof.Machine

/-- Bits [hi:lo] of a word, as a number. -/
def fld (w : Word) (hi lo : Nat) : Nat := (w.toNat >>> lo) % 2 ^ (hi - lo + 1)

/-- One bit of a word. -/
def bit (w : Word) (k : Nat) : Bool := w.toNat.testBit k

/-- `w` with bits [hi:lo] replaced by `v`, cut to the field's width. -/
def setFld (w : Word) (hi lo v : Nat) : Word :=
  let m : Nat := (2 ^ (hi - lo + 1) - 1) <<< lo
  (w &&& ~~~(BitVec.ofNat 32 m)) ||| BitVec.ofNat 32 ((v % 2 ^ (hi - lo + 1)) <<< lo)

/-- `w` with one bit set or cleared. -/
def setBit (w : Word) (k : Nat) (b : Bool) : Word := setFld w k k b.toNat

/-- A word of which only bits [hi:lo] are set, to `v`. -/
def mkF (hi lo v : Nat) : Word := setFld 0 hi lo v

/-- A number as a word, cut to 32 bits. -/
def word (n : Nat) : Word := BitVec.ofNat 32 n

/-- The low and the high word of a 64-bit value (R3). -/
def lowWord (n : Nat) : Word := BitVec.ofNat 32 n
def highWord (n : Nat) : Word := BitVec.ofNat 32 (n >>> 32)

/-- The 64-bit value of a low and a high word (R3). -/
def pairVal (lo hi : Word) : Nat := lo.toNat + (hi.toNat <<< 32)

/-- A field of `n` bits read as a two's complement number. -/
def signed (n v : Nat) : Int :=
  if v % 2 ^ n < 2 ^ (n - 1) then ((v % 2 ^ n : Nat) : Int) else ((v % 2 ^ n : Nat) : Int) - (2 ^ n : Nat)

/-- A number as a two's complement field of `n` bits. -/
def unsigned (n : Nat) (v : Int) : Nat := (v % ((2 ^ n : Nat) : Int)).toNat

/-- A count that stops at its largest value of `n` bits. -/
def satAdd (n a b : Nat) : Nat := min (a + b) (2 ^ n - 1)

/-- A number held within bounds. -/
def clamp (lo hi v : Nat) : Nat := max lo (min hi v)

/-- The bit numbers of `w` that are 1, of the first `n`, ascending. -/
def bitsOf (w : Word) (n : Nat) : List Nat := (List.range n).filter (fun k => bit w k)

/-- The word whose bits are the numbers of a list. -/
def wordOfBits (l : List Nat) : Word := l.foldl (fun w k => setBit w k true) 0

/-- `n` bytes of a number, least significant first (R2). -/
def leBytes : Nat → Nat → List Byte
  | 0, _ => []
  | n + 1, v => BitVec.ofNat 8 v :: leBytes n (v >>> 8)

/-- The number of a list of bytes, least significant first. -/
def leVal : List Byte → Nat
  | [] => 0
  | b :: t => b.toNat + (leVal t <<< 8)

/-- `n` bytes of a number, most significant first. -/
def beBytes (n v : Nat) : List Byte := (leBytes n v).reverse

/-- The number of a list of bytes, most significant first. -/
def beVal (l : List Byte) : Nat := leVal l.reverse

/-- Division rounded up. -/
def ceilDiv (a b : Nat) : Nat := if b = 0 then 0 else (a + b - 1) / b

end Sys2Proof.Machine
end

