-- ==== Sys2Proof/Machine/Maps.lean ====
section
/-! DEFINITION. The operations on key-value lists: keys stay strictly rising, and a list that has a default value holds
no pair equal to it, so that equal contents are equal data. -/

namespace Sys2Proof.Machine.KMap

/-- The value at a key, if one is listed. -/
def get? {α : Type} : KMap α → Nat → Option α
  | [], _ => none
  | (k, v) :: t, i => if k = i then some v else get? t i

/-- The value at a key, or `d` where none is listed. -/
def get {α : Type} (m : KMap α) (d : α) (i : Nat) : α := (get? m i).getD d

/-- The list with `v` at key `i`. -/
def put {α : Type} : KMap α → Nat → α → KMap α
  | [], i, v => [(i, v)]
  | (k, w) :: t, i, v =>
    if k = i then (i, v) :: t
    else if i < k then (i, v) :: (k, w) :: t
    else (k, w) :: put t i v

/-- The list without key `i`. -/
def del {α : Type} : KMap α → Nat → KMap α
  | [], _ => []
  | (k, w) :: t, i => if k = i then del t i else (k, w) :: del t i

/-- The list with `v` at key `i`, keeping no pair equal to the default `d`. -/
def set {α : Type} [DecidableEq α] (m : KMap α) (d : α) (i : Nat) (v : α) : KMap α :=
  if v = d then del m i else put m i v

/-- The list with the value at key `i` changed by `f`. -/
def upd {α : Type} (m : KMap α) (d : α) (i : Nat) (f : α → α) : KMap α := put m i (f (get m d i))

/-- The keys strictly rise. -/
def sorted {α : Type} : KMap α → Bool
  | [] => true
  | [_] => true
  | (k, _) :: (k', v') :: t => decide (k < k') && sorted ((k', v') :: t)

/-- The keys strictly rise and no pair equals the default. -/
def wf {α : Type} [DecidableEq α] (d : α) (m : KMap α) : Bool :=
  sorted m && m.all (fun p => decide (p.2 ≠ d))

/-- Only the pairs whose key meets `p`. -/
def keep {α : Type} (m : KMap α) (p : Nat → Bool) : KMap α := m.filter (fun x => p x.1)

end Sys2Proof.Machine.KMap
end

