-- ==== Sys2Proof/Machine/RegDir.lean ====
section
/-! DEFINITION. The page directory (R39, R456) and the register directory: for every register of every page its
offset, access code, reset value and the bits that are not reserved, as the register headings of spec/ give them. -/

namespace Sys2Proof.Machine

/-- The access codes of R5. -/
inductive Access where
  | ro | rw | st | w1c | w1s | wo | rc
  deriving DecidableEq, Repr

/-- The page types of R39. -/
inductive PageType where
  | coh
  | evt
  | pwr
  | clk
  | time
  | ptpp
  | ptpd
  | part
  | lsb
  | pgen
  | ledg
  | lsc
  | inp
  | can
  | lin
  | swc
  | swp
  | qmgr
  | qcnt
  | dma
  | gw
  | tpe
  | ulf
  | pair
  | sec
  | upd
  | dramc
  | stor
  deriving DecidableEq, Repr

/-- One row of the page directory (R39) with the capabilities of R456. -/
structure PageRow where
  ptype : PageType
  instances : Nat
  code : Nat
  firstBase : Nat
  firstIndex : Nat
  events : Nat
  firstEvent : Nat
  locked : Bool
  held : Nat
  resettable : Bool
  snapshot : Bool
  stagedRegs : Bool
  mirrored : Bool
  deriving DecidableEq, Repr

/-- One register of a page type: `count` copies, `stride` apart from `off`; `mask` holds the bits that are not reserved. -/
structure RegRow where
  off : Nat
  count : Nat
  stride : Nat
  access : Access
  reset : Word
  mask : Word
  deriving DecidableEq, Repr

/-- The page directory of R39, in page-index order. -/
def pageRows : List PageRow :=
  [⟨.coh, 1, 0x01, 0x40000000, 0, 4, 0, true, 1, false, false, false, false⟩,
   ⟨.evt, 4, 0x02, 0x40001000, 1, 4, 4, true, 256, false, false, true, false⟩,
   ⟨.pwr, 1, 0x03, 0x40008000, 5, 8, 20, true, 1, false, true, true, false⟩,
   ⟨.clk, 1, 0x04, 0x40009000, 6, 4, 28, true, 1, false, true, false, false⟩,
   ⟨.time, 1, 0x05, 0x4000A000, 7, 8, 32, false, 1, false, true, true, false⟩,
   ⟨.ptpp, 1, 0x06, 0x4000B000, 8, 8, 40, false, 1, false, true, true, false⟩,
   ⟨.ptpd, 1, 0x07, 0x4000C000, 9, 8, 48, false, 1, false, true, true, false⟩,
   ⟨.part, 1, 0x08, 0x40010000, 10, 8, 56, true, 32, false, false, false, false⟩,
   ⟨.lsb, 4, 0x10, 0x40020000, 11, 8, 64, false, 1, false, true, true, false⟩,
   ⟨.pgen, 1, 0x11, 0x40024000, 15, 16, 96, false, 16, false, true, true, false⟩,
   ⟨.ledg, 1, 0x12, 0x40025000, 16, 16, 112, false, 1, false, true, true, false⟩,
   ⟨.lsc, 16, 0x13, 0x40028000, 17, 16, 128, false, 8, true, true, true, false⟩,
   ⟨.inp, 4, 0x18, 0x40038000, 33, 16, 384, false, 47, true, true, true, false⟩,
   ⟨.can, 12, 0x20, 0x40040000, 37, 16, 448, false, 1, true, true, true, false⟩] ++
  [⟨.lin, 4, 0x21, 0x4004C000, 49, 8, 640, false, 2, true, true, true, false⟩,
   ⟨.swc, 4, 0x28, 0x40050000, 53, 8, 672, false, 1, false, true, true, false⟩,
   ⟨.swp, 27, 0x29, 0x40060000, 57, 4, 704, false, 1, true, true, true, false⟩,
   ⟨.qmgr, 1, 0x30, 0x40080000, 84, 16, 812, false, 1, false, true, true, true⟩,
   ⟨.qcnt, 16, 0x31, 0x40081000, 85, 0, 812, false, 256, false, true, false, false⟩,
   ⟨.dma, 8, 0x38, 0x400A0000, 101, 16, 828, false, 8, true, true, true, false⟩,
   ⟨.gw, 2, 0x40, 0x400B0000, 109, 16, 956, false, 1, true, true, true, true⟩,
   ⟨.tpe, 1, 0x41, 0x400B2000, 111, 8, 988, false, 1, true, true, true, false⟩,
   ⟨.ulf, 1, 0x48, 0x400C0000, 112, 8, 996, true, 1, false, true, true, false⟩,
   ⟨.pair, 1, 0x49, 0x400C1000, 113, 8, 1004, true, 1, false, true, true, false⟩,
   ⟨.sec, 1, 0x50, 0x400D0000, 114, 4, 1012, true, 1, false, false, false, false⟩,
   ⟨.upd, 1, 0x51, 0x400D1000, 115, 4, 1016, true, 1, false, false, true, false⟩,
   ⟨.dramc, 1, 0x58, 0x400E0000, 116, 2, 1020, true, 1, false, true, true, false⟩,
   ⟨.stor, 1, 0x59, 0x400E1000, 117, 2, 1022, true, 1, false, true, true, false⟩]

/-- The header registers at 0x000 to 0x03F of every page (R40). -/
def headerRegs : List RegRow :=
  [⟨0x000, 1, 0x4, .ro, 0x00000000, 0xFFFFFFFF⟩,
   ⟨0x004, 1, 0x4, .ro, 0x00000000, 0xFFFFFF0F⟩,
   ⟨0x008, 1, 0x4, .ro, 0x00000000, 0x8000001F⟩,
   ⟨0x00C, 1, 0x4, .ro, 0x00000000, 0x0000FF03⟩,
   ⟨0x010, 1, 0x4, .w1c, 0x00000000, 0xFFFFFFFF⟩,
   ⟨0x014, 1, 0x4, .rw, 0x00000000, 0xFFFFFFFF⟩,
   ⟨0x018, 1, 0x4, .ro, 0x00000000, 0xFFFFFFFF⟩,
   ⟨0x01C, 1, 0x4, .w1s, 0x00000000, 0xFFFFFFFF⟩,
   ⟨0x020, 1, 0x4, .ro, 0x00000000, 0x0000FFFF⟩,
   ⟨0x024, 1, 0x4, .ro, 0x00000000, 0x800001FF⟩,
   ⟨0x028, 1, 0x4, .wo, 0x00000000, 0x0000007F⟩,
   ⟨0x02C, 1, 0x4, .ro, 0x00000000, 0xFFFFFFFF⟩,
   ⟨0x030, 1, 0x4, .ro, 0x00000000, 0xFFFFFFFF⟩,
   ⟨0x034, 1, 0x4, .st, 0x00002710, 0x8003FFFF⟩,
   ⟨0x038, 1, 0x4, .ro, 0x00000000, 0x00FFFFFF⟩]

/-- The block registers of the COH page. -/
def cohRegs : List RegRow :=
  [⟨0x040, 1, 0x4, .ro, 0x00000000, 0x0000FFFF⟩,
   ⟨0x044, 1, 0x4, .wo, 0x00000000, 0xFF000007⟩,
   ⟨0x048, 1, 0x4, .rw, 0x00000000, 0xFFFFFFFF⟩,
   ⟨0x04C, 1, 0x4, .rw, 0x00000000, 0xFFFFFFFF⟩,
   ⟨0x050, 1, 0x4, .rw, 0x00000000, 0xFFFF00FF⟩,
   ⟨0x054, 1, 0x4, .wo, 0x00000000, 0x0000031F⟩,
   ⟨0x058, 1, 0x4, .wo, 0x00000000, 0x00000001⟩,
   ⟨0x05C, 1, 0x4, .wo, 0x00000000, 0x800000FF⟩,
   ⟨0x060, 1, 0x4, .ro, 0x00000000, 0xFFFFFFFF⟩,
   ⟨0x064, 1, 0x4, .ro, 0x00000000, 0xFFFFFFFF⟩,
   ⟨0x068, 1, 0x4, .ro, 0x00000000, 0xFFFFFFFF⟩,
   ⟨0x06C, 1, 0x4, .ro, 0x00000000, 0xFFFFFFFF⟩,
   ⟨0x070, 1, 0x4, .ro, 0x00000000, 0x00000FFF⟩,
   ⟨0x074, 1, 0x4, .ro, 0x00000000, 0x009F9F9F⟩,
   ⟨0x078, 1, 0x4, .ro, 0x00000000, 0x00FFFFFF⟩,
   ⟨0x07C, 1, 0x4, .ro, 0x00000000, 0x00FFFFFF⟩] ++
  [⟨0x080, 1, 0x4, .ro, 0x00000000, 0x00FFFFFF⟩,
   ⟨0x084, 1, 0x4, .ro, 0x00000000, 0x0003FFFF⟩,
   ⟨0x0A0, 5, 0x4, .ro, 0x00000000, 0xFFFFFFFF⟩,
   ⟨0x100, 32, 0x4, .ro, 0x00000000, 0xFFFFFFFF⟩,
   ⟨0x200, 64, 0x4, .rw, 0x00000000, 0x8000011F⟩]

/-- The block registers of the EVT pages. -/
def evtRegs : List RegRow :=
  [⟨0x040, 256, 0x4, .st, 0x00000000, 0x87FF0000⟩,
   ⟨0x460, 8, 0x4, .ro, 0x00000000, 0xFFFFFFFF⟩,
   ⟨0x440, 1, 0x4, .ro, 0x00000000, 0xFFFF001F⟩,
   ⟨0x444, 1, 0x4, .ro, 0x00000000, 0x801F1F1F⟩,
   ⟨0x448, 1, 0x4, .ro, 0x00000000, 0xFFFFFFFF⟩,
   ⟨0x44C, 1, 0x4, .ro, 0x00000000, 0xFFFFFFFF⟩,
   ⟨0x450, 1, 0x4, .ro, 0x00000000, 0xFFFFFFFF⟩,
   ⟨0x454, 1, 0x4, .ro, 0x00000000, 0xFFFFFFFF⟩,
   ⟨0x458, 1, 0x4, .wo, 0x00000000, 0x00000001⟩]

/-- The block registers of the LSB pages. -/
def lsbRegs : List RegRow :=
  [⟨0x040, 1, 0x4, .ro, 0x00000000, 0x00FF0113⟩,
   ⟨0x044, 1, 0x4, .ro, 0x00000000, 0x0000FFCF⟩,
   ⟨0x048, 1, 0x4, .ro, 0x00000000, 0x0000FFFF⟩,
   ⟨0x04C, 1, 0x4, .ro, 0x00000000, 0xFFFFFFFF⟩,
   ⟨0x050, 1, 0x4, .st, 0x000AA08C, 0x00FFFFFF⟩,
   ⟨0x054, 1, 0x4, .st, 0x000003E8, 0x00007FFF⟩,
   ⟨0x058, 1, 0x4, .st, 0x0000003C, 0x000000FF⟩,
   ⟨0x05C, 1, 0x4, .ro, 0x00000000, 0xFFFFFFFF⟩,
   ⟨0x060, 1, 0x4, .ro, 0x00000000, 0xFFFFFFFF⟩,
   ⟨0x064, 1, 0x4, .rc, 0x00000000, 0x0000FFFF⟩,
   ⟨0x068, 1, 0x4, .rc, 0x00000000, 0x0000FFFF⟩,
   ⟨0x070, 8, 0x4, .st, 0x08019440, 0xFFFFFFFF⟩,
   ⟨0x0A0, 1, 0x4, .st, 0x005AC95E, 0x807FFFFF⟩,
   ⟨0x0A4, 1, 0x4, .ro, 0x00000000, 0xFFFFFFFF⟩,
   ⟨0x0A8, 1, 0x4, .ro, 0x00000000, 0x00FFFF07⟩,
   ⟨0x0AC, 1, 0x4, .rc, 0x00000000, 0x0000FFFF⟩]

/-- The block registers of the LSC pages. -/
def lscRegs : List RegRow :=
  [⟨0x040, 1, 0x4, .ro, 0x00000000, 0x0003FFFF⟩,
   ⟨0x044, 1, 0x4, .ro, 0x00000000, 0xFFFFFFFF⟩,
   ⟨0x140, 8, 0x80, .ro, 0x00400000, 0x01FFFFFF⟩,
   ⟨0x144, 8, 0x80, .wo, 0x00000000, 0xFF000101⟩,
   ⟨0x148, 8, 0x80, .ro, 0x00000000, 0xFFFFFFFF⟩,
   ⟨0x14C, 8, 0x80, .ro, 0x00000000, 0x0000FFFF⟩,
   ⟨0x150, 8, 0x80, .ro, 0x00000000, 0x00000FFF⟩,
   ⟨0x154, 8, 0x80, .st, 0x00000000, 0x000FFFFF⟩,
   ⟨0x158, 8, 0x80, .st, 0x00000000, 0x00007FFF⟩,
   ⟨0x15C, 8, 0x80, .ro, 0x00000000, 0xFFFFFFFF⟩,
   ⟨0x160, 8, 0x80, .st, 0x00000000, 0x000010FF⟩,
   ⟨0x164, 8, 0x80, .st, 0x000A0000, 0x00FFFFFF⟩,
   ⟨0x168, 8, 0x80, .ro, 0x00000000, 0xFFFFFFFF⟩,
   ⟨0x16C, 8, 0x80, .ro, 0x00000000, 0xFFFFFFFF⟩,
   ⟨0x170, 8, 0x80, .rc, 0x00000000, 0x0000FFFF⟩,
   ⟨0x174, 8, 0x80, .rc, 0x00000000, 0xFFFFFFFF⟩] ++
  [⟨0x178, 8, 0x80, .ro, 0x00000000, 0x000FFFFF⟩,
   ⟨0x048, 1, 0x4, .wo, 0x00000000, 0x0000FFFF⟩,
   ⟨0x100, 8, 0x80, .st, 0x00000000, 0x03FF0F37⟩,
   ⟨0x104, 8, 0x80, .st, 0x00000000, 0x000003FF⟩,
   ⟨0x108, 8, 0x80, .st, 0x00040064, 0xFFFFFFFF⟩,
   ⟨0x10C, 8, 0x80, .wo, 0x00000000, 0x00000003⟩,
   ⟨0x110, 8, 0x80, .ro, 0x00000000, 0x8F0FFFFF⟩,
   ⟨0x114, 8, 0x80, .ro, 0x00000000, 0x80FFFFFF⟩,
   ⟨0x118, 8, 0x80, .ro, 0x50000000, 0x733FF3FF⟩,
   ⟨0x11C, 8, 0x80, .rc, 0x00000000, 0x0000FFFF⟩,
   ⟨0x120, 8, 0x80, .st, 0x00000A00, 0xFFFFFFF3⟩,
   ⟨0x124, 8, 0x80, .ro, 0x00000000, 0x000FFFFF⟩,
   ⟨0x128, 8, 0x80, .ro, 0x00000000, 0xFFFFFFFF⟩,
   ⟨0x12C, 8, 0x80, .ro, 0x00000000, 0x000FFFFF⟩,
   ⟨0x130, 8, 0x80, .ro, 0x00000000, 0xFFFFFFFF⟩,
   ⟨0x134, 8, 0x80, .ro, 0x00000000, 0xFFFFFFFF⟩] ++
  [⟨0x138, 8, 0x80, .ro, 0x00000000, 0xFFFF07FF⟩,
   ⟨0x13C, 8, 0x80, .wo, 0x00000000, 0x00000003⟩]

/-- The block registers of the PGEN page. -/
def pgenRegs : List RegRow :=
  [⟨0x100, 16, 0x20, .st, 0x000051EC, 0x0013FFFF⟩,
   ⟨0x104, 16, 0x20, .ro, 0x00000000, 0x000000FF⟩,
   ⟨0x108, 16, 0x20, .ro, 0x00000000, 0xFFFFFFFF⟩,
   ⟨0x10C, 16, 0x20, .ro, 0x00000000, 0xFFFFFFFF⟩]

/-- The block registers of the LEDG page. -/
def ledgRegs : List RegRow :=
  [⟨0x040, 1, 0x4, .st, 0x0000003C, 0x8FFF00FF⟩,
   ⟨0x044, 1, 0x4, .wo, 0x00000000, 0x00000003⟩,
   ⟨0x048, 1, 0x4, .ro, 0x00000002, 0x1FFF0003⟩,
   ⟨0x04C, 1, 0x4, .ro, 0x00000000, 0xFFFFFFFF⟩,
   ⟨0x050, 1, 0x4, .ro, 0x00000080, 0x0FFF0FFF⟩,
   ⟨0x080, 16, 0x8, .st, 0x500003E8, 0xFF0FFFFF⟩,
   ⟨0x084, 16, 0x8, .st, 0x0A000064, 0xFFFFFFFF⟩]

/-- The block registers of the INP pages. -/
def inpRegs : List RegRow :=
  [⟨0x100, 16, 0x10, .st, 0x00000000, 0x00FF3773⟩,
   ⟨0x104, 16, 0x10, .st, 0xFFFF0000, 0xFFFFFFFF⟩,
   ⟨0x108, 16, 0x10, .ro, 0x00000010, 0xFFFF001F⟩,
   ⟨0x200, 1, 0x4, .ro, 0x00000000, 0x00FFFFFF⟩,
   ⟨0x204, 1, 0x4, .st, 0x00000000, 0x00FFFFFF⟩,
   ⟨0x208, 1, 0x4, .st, 0x00000000, 0x00FFFFFF⟩,
   ⟨0x20C, 1, 0x4, .st, 0x00000000, 0x00FFFFFF⟩,
   ⟨0x210, 1, 0x4, .st, 0x00000000, 0x00FFFFFF⟩,
   ⟨0x214, 1, 0x4, .w1c, 0x00000000, 0x00FFFFFF⟩,
   ⟨0x218, 1, 0x4, .st, 0x00050303, 0x00070F07⟩,
   ⟨0x280, 4, 0x10, .st, 0x0A000A01, 0x1FFFFF03⟩,
   ⟨0x284, 4, 0x10, .ro, 0x00000000, 0xFFFFFFFF⟩,
   ⟨0x288, 4, 0x10, .ro, 0x00000000, 0xC00003FF⟩,
   ⟨0x28C, 4, 0x10, .ro, 0x00000000, 0xFFFFFFFF⟩,
   ⟨0x300, 2, 0x10, .st, 0x00000A00, 0x0000FF07⟩,
   ⟨0x304, 2, 0x10, .ro, 0x00000000, 0xFFFFFFFF⟩] ++
  [⟨0x308, 2, 0x10, .ro, 0x00000000, 0x0000010F⟩,
   ⟨0x340, 1, 0x4, .st, 0x00000A00, 0x0000FF07⟩,
   ⟨0x344, 1, 0x4, .ro, 0x00000000, 0x00000101⟩]

/-- The block registers of the CAN pages. -/
def canRegs : List RegRow :=
  [⟨0x040, 1, 0x4, .st, 0x00000000, 0x0F1F8007⟩,
   ⟨0x044, 1, 0x4, .st, 0x1F1F7E00, 0x7F7FFFFF⟩,
   ⟨0x048, 1, 0x4, .st, 0x07071E00, 0x0F0F1F1F⟩,
   ⟨0x04C, 1, 0x4, .st, 0x00000100, 0x0F0F1F1F⟩,
   ⟨0x050, 1, 0x4, .st, 0x80000020, 0x8000007F⟩,
   ⟨0x054, 1, 0x4, .ro, 0x00000000, 0x8000003F⟩,
   ⟨0x058, 1, 0x4, .ro, 0x00000000, 0x00FF01FF⟩,
   ⟨0x05C, 1, 0x4, .rc, 0x00000000, 0xFFFF0017⟩,
   ⟨0x060, 1, 0x4, .wo, 0x00000000, 0x00000001⟩,
   ⟨0x064, 1, 0x4, .st, 0x00000000, 0x00000013⟩,
   ⟨0x070, 4, 0x4, .st, 0x00000000, 0x80000FFF⟩,
   ⟨0x080, 1, 0x4, .st, 0x00000000, 0x80000FFF⟩,
   ⟨0x084, 1, 0x4, .wo, 0x00000000, 0x00000001⟩,
   ⟨0x088, 1, 0x4, .ro, 0x00000001, 0xFFFFFF1F⟩,
   ⟨0x08C, 1, 0x4, .st, 0x00000000, 0x0003FFFF⟩,
   ⟨0x090, 1, 0x4, .st, 0x00000000, 0x00000007⟩] ++
  [⟨0x094, 1, 0x4, .st, 0x00000000, 0x3FFFFFFF⟩,
   ⟨0x098, 1, 0x4, .st, 0x00000000, 0x3FFFFFFF⟩,
   ⟨0x09C, 1, 0x4, .rw, 0x00000000, 0x00011F03⟩,
   ⟨0x0C0, 16, 0x8, .ro, 0x00000000, 0xFFFFFFFF⟩,
   ⟨0x0C4, 16, 0x8, .ro, 0x00000000, 0xFFFFFFFF⟩,
   ⟨0x140, 1, 0x4, .rc, 0x00000000, 0xFFFFFFFF⟩,
   ⟨0x144, 1, 0x4, .rc, 0x00000000, 0xFFFFFFFF⟩,
   ⟨0x148, 1, 0x4, .rc, 0x00000000, 0xFFFFFFFF⟩,
   ⟨0x150, 4, 0x4, .rc, 0x00000000, 0xFFFFFFFF⟩,
   ⟨0x180, 4, 0x4, .ro, 0x00000000, 0xFFFFFFFF⟩,
   ⟨0x190, 4, 0x4, .w1c, 0x00000000, 0xFFFFFFFF⟩,
   ⟨0x400, 128, 0x4, .st, 0x00000000, 0x0000000F⟩]

/-- The block registers of the LIN pages. -/
def linRegs : List RegRow :=
  [⟨0x100, 1, 0x4, .st, 0x4E2040D0, 0xFFFFF1FF⟩,
   ⟨0x400, 1, 0x4, .st, 0x4E2040D0, 0xFFFFF1FF⟩,
   ⟨0x104, 4, 0x4, .st, 0x00000000, 0x00007F3F⟩,
   ⟨0x404, 4, 0x4, .st, 0x00000000, 0x00007F3F⟩,
   ⟨0x114, 1, 0x4, .wo, 0x00000000, 0x0000003F⟩,
   ⟨0x414, 1, 0x4, .wo, 0x00000000, 0x0000003F⟩,
   ⟨0x118, 1, 0x4, .ro, 0x00000070, 0x000F3FF3⟩,
   ⟨0x418, 1, 0x4, .ro, 0x00000070, 0x000F3FF3⟩,
   ⟨0x11C, 1, 0x4, .rc, 0x00000000, 0xFFFFFFFF⟩,
   ⟨0x41C, 1, 0x4, .rc, 0x00000000, 0xFFFFFFFF⟩,
   ⟨0x200, 64, 0x4, .st, 0x00000000, 0x03FF073F⟩,
   ⟨0x500, 64, 0x4, .st, 0x00000000, 0x03FF073F⟩,
   ⟨0x300, 64, 0x4, .st, 0x00000080, 0x000003F3⟩,
   ⟨0x600, 64, 0x4, .st, 0x00000080, 0x000003F3⟩]

/-- The block registers of the SWC0 page. -/
def swc0Regs : List RegRow :=
  [⟨0x040, 1, 0x4, .st, 0x00000000, 0x00000003⟩,
   ⟨0x044, 1, 0x4, .rc, 0x00000000, 0xFFFFFFFF⟩,
   ⟨0x048, 1, 0x4, .rc, 0x00000000, 0xFFFFFFFF⟩,
   ⟨0x04C, 1, 0x4, .rc, 0x00000000, 0xFFFFFFFF⟩,
   ⟨0x050, 1, 0x4, .rc, 0x00000000, 0xFFFFFFFF⟩]

/-- The block registers of the SWC1 page. -/
def swc1Regs : List RegRow :=
  [⟨0x040, 1, 0x4, .wo, 0x00000000, 0xC00003FF⟩,
   ⟨0x044, 1, 0x4, .ro, 0x00000000, 0xFFFFFFFF⟩,
   ⟨0x048, 1, 0x4, .ro, 0x00000000, 0xFFFFFFFF⟩,
   ⟨0x04C, 1, 0x4, .ro, 0x00000000, 0xFFFFFFFF⟩,
   ⟨0x050, 1, 0x4, .ro, 0x00000000, 0x00000001⟩]

/-- The block registers of the SWC2 page. -/
def swc2Regs : List RegRow :=
  [⟨0x040, 1, 0x4, .wo, 0x00000000, 0xC00101FF⟩,
   ⟨0x044, 1, 0x4, .ro, 0x00000000, 0xFFFFFFFF⟩,
   ⟨0x048, 1, 0x4, .ro, 0x00000000, 0xFFFFFFFF⟩,
   ⟨0x04C, 1, 0x4, .ro, 0x00000000, 0xFFFFFFFF⟩,
   ⟨0x050, 1, 0x4, .ro, 0x00000000, 0xFFFFFFFF⟩,
   ⟨0x054, 1, 0x4, .ro, 0x00000000, 0xFFFFFFFF⟩,
   ⟨0x058, 1, 0x4, .ro, 0x00000000, 0xFFFFFFFF⟩]

/-- The block registers of the SWC3 page. -/
def swc3Regs : List RegRow :=
  [⟨0x040, 1, 0x4, .st, 0x00000000, 0x80000FFF⟩,
   ⟨0x044, 1, 0x4, .rc, 0x00000000, 0xFFFFFFFF⟩]

/-- The block registers of the SWP pages. -/
def swpRegs : List RegRow :=
  [⟨0x040, 1, 0x4, .ro, 0x00000000, 0xFFFF0307⟩,
   ⟨0x044, 1, 0x4, .st, 0x05F20000, 0x3FFF0037⟩,
   ⟨0x048, 1, 0x4, .st, 0x00000001, 0x000F7FFF⟩,
   ⟨0x04C, 1, 0x4, .st, 0x00FAC688, 0x00FFFFFF⟩,
   ⟨0x050, 1, 0x4, .ro, 0x00000000, 0xFFFF1F1F⟩,
   ⟨0x054, 1, 0x4, .st, 0x20010000, 0xFF0F07F1⟩,
   ⟨0x058, 1, 0x4, .st, 0x00000000, 0x0000FFFF⟩,
   ⟨0x05C, 1, 0x4, .st, 0x00000000, 0xFF000FFF⟩,
   ⟨0x060, 8, 0x4, .st, 0x04002710, 0xFFF3FFFF⟩,
   ⟨0x080, 8, 0x4, .st, 0x00000000, 0x8FFFFFFF⟩,
   ⟨0x0A0, 1, 0x4, .st, 0x0000FF00, 0x01FFFF01⟩,
   ⟨0x0A4, 1, 0x4, .st, 0x000F4240, 0xFFFFFFFF⟩,
   ⟨0x0A8, 1, 0x4, .st, 0x00000000, 0xFFFFFFFF⟩,
   ⟨0x0AC, 1, 0x4, .st, 0x00000000, 0xFFFFFFFF⟩,
   ⟨0x0B0, 1, 0x4, .ro, 0x0000FF00, 0x0003FFFF⟩,
   ⟨0x0B4, 1, 0x4, .st, 0x000A0000, 0x00FFFF0F⟩] ++
  [⟨0x0B8, 1, 0x4, .ro, 0x00000000, 0x0000000F⟩,
   ⟨0x0C0, 1, 0x4, .st, 0x00000040, 0xFFFFFFFF⟩,
   ⟨0x0C4, 1, 0x4, .st, 0x00000000, 0x0000FF03⟩,
   ⟨0x0C8, 1, 0x4, .ro, 0x00000001, 0xFFFFFFFF⟩,
   ⟨0x0CC, 1, 0x4, .ro, 0x00000000, 0xFFFFFFFF⟩,
   ⟨0x0D0, 4, 0x8, .st, 0x00000000, 0xFFFFFFFF⟩,
   ⟨0x0D4, 4, 0x8, .st, 0x00000000, 0xFFFFFFFF⟩,
   ⟨0x0F0, 4, 0x4, .st, 0x00000000, 0x8FFFFFFF⟩,
   ⟨0x100, 1, 0x4, .rc, 0x00000000, 0xFFFFFFFF⟩,
   ⟨0x104, 1, 0x4, .rc, 0x00000000, 0xFFFFFFFF⟩,
   ⟨0x108, 1, 0x4, .rc, 0x00000000, 0xFFFFFFFF⟩,
   ⟨0x10C, 1, 0x4, .rc, 0x00000000, 0xFFFFFFFF⟩,
   ⟨0x110, 1, 0x4, .rc, 0x00000000, 0xFFFFFFFF⟩,
   ⟨0x114, 1, 0x4, .rc, 0x00000000, 0xFFFFFFFF⟩,
   ⟨0x118, 1, 0x4, .rc, 0x00000000, 0xFFFFFFFF⟩,
   ⟨0x11C, 1, 0x4, .rc, 0x00000000, 0xFFFFFFFF⟩] ++
  [⟨0x120, 1, 0x4, .ro, 0x00000000, 0xFFFFFFFF⟩,
   ⟨0x124, 1, 0x4, .ro, 0x00000000, 0xFFFFFFFF⟩,
   ⟨0x128, 1, 0x4, .ro, 0x00000000, 0xFFFFFFFF⟩,
   ⟨0x12C, 1, 0x4, .ro, 0x00000000, 0xFFFFFFFF⟩]

/-- The block registers of the QCNT pages. -/
def qcntRegs : List RegRow :=
  [⟨0x040, 256, 0x4, .ro, 0x00000000, 0xEFFFFFFF⟩]

/-- The block registers of the QMGR page. -/
def qmgrRegs : List RegRow :=
  [⟨0x040, 1, 0x4, .ro, 0x04001010, 0xFFFFFFFF⟩,
   ⟨0x044, 1, 0x4, .st, 0x00001000, 0x03FFFFFF⟩,
   ⟨0x048, 1, 0x4, .st, 0x00000000, 0x03FFFFFF⟩,
   ⟨0x04C, 1, 0x4, .st, 0x00000000, 0xFFFFFFFF⟩,
   ⟨0x050, 1, 0x4, .st, 0x00000000, 0xFFFFFFFF⟩,
   ⟨0x054, 1, 0x4, .st, 0x0000FFFF, 0xFFFFFFFF⟩,
   ⟨0x058, 1, 0x4, .ro, 0x0000FFFF, 0xFFFFFFFF⟩,
   ⟨0x05C, 1, 0x4, .ro, 0x00000000, 0xFFFFFFFF⟩,
   ⟨0x060, 1, 0x4, .ro, 0x00000000, 0xE0000000⟩,
   ⟨0x064, 1, 0x4, .ro, 0x00010000, 0x03FFFFFF⟩,
   ⟨0x068, 1, 0x4, .ro, 0x00000000, 0x03FFFFFF⟩,
   ⟨0x06C, 1, 0x4, .rc, 0x00010000, 0x03FFFFFF⟩,
   ⟨0x070, 1, 0x4, .rw, 0x000000D8, 0x00000FFF⟩,
   ⟨0x074, 1, 0x4, .st, 0x00002710, 0xE003FFFF⟩,
   ⟨0x078, 1, 0x4, .st, 0x00000040, 0x03FFFFFF⟩,
   ⟨0x07C, 1, 0x4, .ro, 0x00000000, 0x000007FF⟩] ++
  [⟨0x080, 16, 0x4, .ro, 0x00000000, 0x003FFFFF⟩,
   ⟨0x0C0, 16, 0x4, .ro, 0x00000000, 0x003FFFFF⟩,
   ⟨0x100, 1, 0x4, .rc, 0x00000000, 0xFFFFFFFF⟩,
   ⟨0x104, 1, 0x4, .rc, 0x00000000, 0xFFFFFFFF⟩,
   ⟨0x108, 1, 0x4, .rc, 0x00000000, 0xFFFFFFFF⟩,
   ⟨0x10C, 1, 0x4, .rc, 0x00000000, 0xFFFFFFFF⟩,
   ⟨0x110, 1, 0x4, .rc, 0x00000000, 0xFFFFFFFF⟩,
   ⟨0x114, 1, 0x4, .rc, 0x00000000, 0xFFFFFFFF⟩,
   ⟨0x140, 1, 0x4, .st, 0x00000000, 0x8000FFFF⟩,
   ⟨0x144, 1, 0x4, .st, 0x00000000, 0xFFFFF000⟩,
   ⟨0x148, 1, 0x4, .st, 0x00000000, 0xFFFFFFFF⟩,
   ⟨0x14C, 1, 0x4, .st, 0x00000040, 0x00001FFF⟩,
   ⟨0x150, 1, 0x4, .wo, 0x00000000, 0x00000007⟩,
   ⟨0x154, 1, 0x4, .ro, 0x00000000, 0x0000001F⟩,
   ⟨0x158, 1, 0x4, .ro, 0x00000000, 0xFFFFFFFF⟩,
   ⟨0x15C, 1, 0x4, .ro, 0x00000000, 0xFFFFFFFF⟩] ++
  [⟨0x180, 8, 0x4, .st, 0x00000000, 0x80000FFF⟩]

/-- The block registers of the DMA pages. -/
def dmaRegs : List RegRow :=
  [⟨0x040, 1, 0x4, .ro, 0x02000008, 0xFFFF00FF⟩,
   ⟨0x044, 1, 0x4, .st, 0x000000FF, 0x000000FF⟩,
   ⟨0x048, 1, 0x4, .ro, 0x000000FF, 0x00FFFFFF⟩,
   ⟨0x04C, 1, 0x4, .ro, 0x00000000, 0x03FF01FF⟩,
   ⟨0x050, 1, 0x4, .wo, 0x00000000, 0x000000FF⟩,
   ⟨0x100, 8, 0x80, .st, 0x00000000, 0x00001F03⟩,
   ⟨0x104, 8, 0x80, .wo, 0x00000000, 0x00003F07⟩,
   ⟨0x108, 8, 0x80, .ro, 0x00000001, 0x0F007FFF⟩,
   ⟨0x10C, 8, 0x80, .rw, 0x00000000, 0xFFFFFFFF⟩,
   ⟨0x110, 8, 0x80, .rw, 0x00000000, 0xFFFFFFFF⟩,
   ⟨0x114, 8, 0x80, .rw, 0x00000000, 0xFFFFFFFF⟩,
   ⟨0x118, 8, 0x80, .rw, 0x00000000, 0xFFFFFFFF⟩,
   ⟨0x11C, 8, 0x80, .ro, 0x00000000, 0xFFFFFFFF⟩,
   ⟨0x120, 8, 0x80, .rw, 0x00000000, 0x00007FFF⟩,
   ⟨0x124, 8, 0x80, .ro, 0x00000000, 0xFFFFFFFF⟩,
   ⟨0x128, 8, 0x80, .ro, 0x00000000, 0xFFFFFFFF⟩] ++
  [⟨0x12C, 8, 0x80, .ro, 0x00000000, 0xFFFF7000⟩,
   ⟨0x130, 8, 0x80, .ro, 0x00000000, 0xFFFFFFFF⟩,
   ⟨0x134, 8, 0x80, .ro, 0x00000000, 0xFFFFFFFF⟩,
   ⟨0x138, 8, 0x80, .rc, 0x00000000, 0xFFFFFFFF⟩,
   ⟨0x13C, 8, 0x80, .rc, 0x00000000, 0xFFFFFFFF⟩]

/-- The block registers of the GW0 page. -/
def gw0Regs : List RegRow :=
  [⟨0x040, 1, 0x4, .st, 0x00000000, 0x00000001⟩,
   ⟨0x044, 1, 0x4, .ro, 0x00000000, 0x800007FF⟩,
   ⟨0x048, 1, 0x4, .rc, 0x00000000, 0xFFFFFFFF⟩,
   ⟨0x04C, 1, 0x4, .ro, 0x00000000, 0xF001FFFF⟩,
   ⟨0x050, 1, 0x4, .rc, 0x00000000, 0xFFFFFFFF⟩,
   ⟨0x054, 1, 0x4, .rc, 0x00000000, 0xFFFFFFFF⟩,
   ⟨0x058, 1, 0x4, .wo, 0x00000000, 0x80000FFF⟩,
   ⟨0x080, 8, 0x4, .st, 0xFFFFFFFF, 0xFFFFFFFF⟩,
   ⟨0x0A0, 8, 0x4, .ro, 0x00000000, 0xFFFFFFFF⟩]

/-- The block registers of the GW1 page. -/
def gw1Regs : List RegRow :=
  [⟨0x040, 1, 0x4, .st, 0x00000000, 0xFFFFFFFF⟩,
   ⟨0x044, 1, 0x4, .st, 0x00000000, 0xFFFFFFFF⟩,
   ⟨0x048, 1, 0x4, .st, 0x000088B5, 0x0000FFFF⟩,
   ⟨0x100, 32, 0x20, .st, 0x00000000, 0xF1FEEFFF⟩,
   ⟨0x104, 32, 0x20, .st, 0x20000000, 0xFF03FFFF⟩,
   ⟨0x108, 32, 0x20, .st, 0x00000000, 0xFFFFFFFF⟩,
   ⟨0x10C, 32, 0x20, .st, 0x00000000, 0xFFFFFFFF⟩,
   ⟨0x110, 32, 0x20, .st, 0x00000000, 0xFFFFFFFF⟩,
   ⟨0x114, 32, 0x20, .st, 0x00000000, 0xFFFFFFFF⟩,
   ⟨0x118, 32, 0x20, .ro, 0x00000000, 0x80FF00FF⟩,
   ⟨0x11C, 32, 0x20, .rc, 0x00000000, 0xFFFFFFFF⟩]

/-- The block registers of the TPE page. -/
def tpeRegs : List RegRow :=
  [⟨0x040, 1, 0x4, .st, 0x00000000, 0x00000001⟩,
   ⟨0x044, 1, 0x4, .st, 0x02100032, 0x0FFFFFFF⟩,
   ⟨0x048, 1, 0x4, .ro, 0x00000000, 0xFF3FFFFF⟩,
   ⟨0x04C, 1, 0x4, .ro, 0x00000000, 0xFF3FFFFF⟩,
   ⟨0x050, 1, 0x4, .rc, 0x00000000, 0xFFFFFFFF⟩,
   ⟨0x054, 1, 0x4, .rc, 0x00000000, 0xFFFFFFFF⟩,
   ⟨0x058, 1, 0x4, .rc, 0x00000000, 0xFFFFFFFF⟩,
   ⟨0x05C, 1, 0x4, .rc, 0x00000000, 0xFFFFFFFF⟩,
   ⟨0x060, 1, 0x4, .rc, 0x00000000, 0xFFFFFFFF⟩,
   ⟨0x064, 1, 0x4, .ro, 0x00000000, 0x000001FF⟩,
   ⟨0x068, 1, 0x4, .st, 0x00000000, 0xFFFFFFFF⟩,
   ⟨0x06C, 1, 0x4, .st, 0x00000000, 0xFFFFFFFF⟩,
   ⟨0x100, 12, 0x10, .st, 0x00000000, 0x8F00007F⟩,
   ⟨0x104, 12, 0x10, .st, 0x00000000, 0xFFFFFFFF⟩,
   ⟨0x108, 12, 0x10, .st, 0x00000000, 0x8FFF0FFF⟩,
   ⟨0x400, 256, 0x4, .ro, 0x00000000, 0xFFFF0F3F⟩]

/-- The block registers of the TIME page. -/
def timeRegs : List RegRow :=
  [⟨0x040, 1, 0x4, .ro, 0x00000000, 0xFFFFFFFF⟩,
   ⟨0x044, 1, 0x4, .ro, 0x00000000, 0xFFFFFFFF⟩,
   ⟨0x048, 1, 0x4, .ro, 0x00000000, 0xFFFFFFFF⟩,
   ⟨0x04C, 1, 0x4, .ro, 0x00000000, 0xFFFFFFFF⟩,
   ⟨0x050, 1, 0x4, .st, 0x00000000, 0x00000013⟩,
   ⟨0x054, 1, 0x4, .ro, 0x00000000, 0x0000000F⟩,
   ⟨0x058, 1, 0x4, .ro, 0x00000000, 0xFFFFFFFF⟩,
   ⟨0x05C, 1, 0x4, .ro, 0x00000000, 0xFFFFFFFF⟩,
   ⟨0x060, 1, 0x4, .ro, 0x00000000, 0xFFFFFFFF⟩,
   ⟨0x064, 1, 0x4, .ro, 0x00000000, 0xFFFFFFFF⟩,
   ⟨0x068, 1, 0x4, .rc, 0x00000000, 0xFFFFFFFF⟩,
   ⟨0x100, 22, 0x4, .st, 0x00000000, 0xFFFFFFFF⟩,
   ⟨0x180, 18, 0x4, .st, 0x00000000, 0x000FFFFF⟩]

/-- The block registers of the PTP pages. -/
def ptpRegs : List RegRow :=
  [⟨0x040, 1, 0x4, .st, 0x00FA0A00, 0xFFFFFF07⟩,
   ⟨0x044, 1, 0x4, .st, 0x00000000, 0x9F03FFFF⟩,
   ⟨0x048, 1, 0x4, .st, 0x70000000, 0x7FFF0FFF⟩,
   ⟨0x04C, 1, 0x4, .ro, 0x00000000, 0xFFFFFFFF⟩,
   ⟨0x050, 1, 0x4, .ro, 0x00000000, 0xFFFFFFFF⟩,
   ⟨0x054, 1, 0x4, .rw, 0x00000000, 0xFFFFFFFF⟩,
   ⟨0x058, 1, 0x4, .wo, 0x00000000, 0xFFFFFFFF⟩,
   ⟨0x05C, 1, 0x4, .wo, 0x00000000, 0x0000001F⟩,
   ⟨0x060, 1, 0x4, .st, 0x0000C350, 0x0001FFFF⟩,
   ⟨0x064, 1, 0x4, .ro, 0x00000000, 0x00001F1B⟩,
   ⟨0x068, 1, 0x4, .ro, 0x00000000, 0xFFFFFFFF⟩,
   ⟨0x06C, 1, 0x4, .ro, 0x00000000, 0x9F0FFFFF⟩,
   ⟨0x070, 1, 0x4, .ro, 0x00000000, 0xFFFFFFFF⟩,
   ⟨0x074, 1, 0x4, .ro, 0x00000000, 0xFFFFFFFF⟩,
   ⟨0x078, 1, 0x4, .rc, 0x00000000, 0xFFFFFFFF⟩,
   ⟨0x07C, 1, 0x4, .rc, 0x00000000, 0xFFFFFFFF⟩] ++
  [⟨0x080, 1, 0x4, .rc, 0x00000000, 0xFFFFFFFF⟩,
   ⟨0x084, 1, 0x4, .st, 0x00000000, 0xFFFFFFFF⟩,
   ⟨0x088, 1, 0x4, .st, 0x00000000, 0xFFFFFFFF⟩]

/-- The block registers of the PART page. -/
def partRegs : List RegRow :=
  [⟨0x040, 1, 0x4, .ro, 0x07282020, 0x0FFFFFFF⟩,
   ⟨0x044, 1, 0x4, .ro, 0x00000001, 0xFFFFFFFF⟩,
   ⟨0x048, 1, 0x4, .wo, 0x00000000, 0xFF00071F⟩,
   ⟨0x04C, 1, 0x4, .ro, 0x00000000, 0x00001F0F⟩,
   ⟨0x050, 1, 0x4, .w1c, 0x00000000, 0x00001F3F⟩,
   ⟨0x054, 1, 0x4, .ro, 0x00000000, 0x00003F1F⟩,
   ⟨0x058, 1, 0x4, .ro, 0x00000000, 0xFFFFFFFF⟩,
   ⟨0x05C, 1, 0x4, .ro, 0x00000000, 0xFFFFFFFF⟩,
   ⟨0x100, 32, 0x4, .ro, 0x00000002, 0xFFFF0FB7⟩,
   ⟨0x180, 10, 0x4, .ro, 0x00000000, 0x80000F1F⟩]

/-- The block registers of the DRAMC page. -/
def dramcRegs : List RegRow :=
  [⟨0x040, 1, 0x4, .ro, 0x1D4C0010, 0xFFFF00FF⟩,
   ⟨0x044, 1, 0x4, .ro, 0x00000000, 0x0000000F⟩,
   ⟨0x048, 1, 0x4, .st, 0x80001018, 0x80FFFFFF⟩,
   ⟨0x04C, 1, 0x4, .ro, 0x00000000, 0x0FFFFFFF⟩,
   ⟨0x050, 1, 0x4, .rc, 0x00000000, 0xFFFFFFFF⟩,
   ⟨0x054, 1, 0x4, .ro, 0x00000000, 0xC01F1F01⟩,
   ⟨0x058, 1, 0x4, .ro, 0x00000000, 0xFFFFFFFF⟩,
   ⟨0x05C, 1, 0x4, .ro, 0x00000000, 0xFFFFFFFF⟩,
   ⟨0x060, 1, 0x4, .ro, 0x00000000, 0xFFFFFFFF⟩,
   ⟨0x064, 1, 0x4, .ro, 0x00000000, 0xFFFFFFFF⟩,
   ⟨0x068, 1, 0x4, .wo, 0x00000000, 0x00000001⟩]

/-- The block registers of the PWR page. -/
def pwrRegs : List RegRow :=
  [⟨0x040, 1, 0x4, .ro, 0x00000000, 0x0F0F1F0F⟩,
   ⟨0x044, 1, 0x4, .st, 0x00006404, 0xFFFFFF77⟩,
   ⟨0x048, 1, 0x4, .wo, 0x00000000, 0xFFFF0003⟩,
   ⟨0x04C, 1, 0x4, .rw, 0xFFFFFFFF, 0xFFFFFFFF⟩,
   ⟨0x050, 1, 0x4, .rw, 0xFFFFFFFF, 0xFFFFFFFF⟩,
   ⟨0x054, 1, 0x4, .rw, 0x00000000, 0x807FFFFF⟩,
   ⟨0x058, 1, 0x4, .ro, 0xFFFFFFFF, 0xFFFFFFFF⟩,
   ⟨0x05C, 1, 0x4, .ro, 0xFFFFFFFF, 0xFFFFFFFF⟩,
   ⟨0x060, 1, 0x4, .ro, 0x00000000, 0x0FFF1F0F⟩,
   ⟨0x064, 1, 0x4, .ro, 0x00000050, 0x0000007F⟩,
   ⟨0x068, 1, 0x4, .rc, 0x00000000, 0xFFFFFFFF⟩,
   ⟨0x06C, 1, 0x4, .ro, 0x00000000, 0xFFFFFFFF⟩,
   ⟨0x080, 6, 0x4, .ro, 0x00000000, 0xFFFFFFFF⟩,
   ⟨0x0A0, 1, 0x4, .st, 0x0A0303E8, 0xFF0307FF⟩,
   ⟨0x0A4, 1, 0x4, .ro, 0x00000000, 0x80FF0F0F⟩,
   ⟨0x0A8, 1, 0x4, .ro, 0x00000000, 0xFFFFFFFF⟩] ++
  [⟨0x0AC, 1, 0x4, .ro, 0x00000000, 0xFFFFFFFF⟩,
   ⟨0x0C0, 1, 0x4, .st, 0x0A000000, 0xFFFFFF3F⟩,
   ⟨0x0C4, 1, 0x4, .st, 0x0000007E, 0x0F7F7FFF⟩,
   ⟨0x0C8, 1, 0x4, .st, 0x000088B6, 0x0FFFFFFF⟩,
   ⟨0x0CC, 1, 0x4, .st, 0x00000000, 0x0FFFFFFF⟩,
   ⟨0x0D0, 1, 0x4, .st, 0x00000000, 0xFFFFFFFF⟩,
   ⟨0x0D4, 1, 0x4, .st, 0x00000000, 0xFFFFFFFF⟩,
   ⟨0x0D8, 1, 0x4, .rw, 0x00000000, 0x0FFFFF01⟩,
   ⟨0x0DC, 1, 0x4, .ro, 0x00000000, 0x0001FFF7⟩,
   ⟨0x0E0, 1, 0x4, .ro, 0x00000000, 0xFFFFFFFF⟩,
   ⟨0x0E4, 1, 0x4, .ro, 0x00000000, 0xFFFFFFFF⟩,
   ⟨0x0E8, 1, 0x4, .ro, 0x00000000, 0xFFFFFFFF⟩,
   ⟨0x0EC, 1, 0x4, .ro, 0x00000000, 0xFFFFFFFF⟩]

/-- The block registers of the CLK page. -/
def clkRegs : List RegRow :=
  [⟨0x040, 1, 0x4, .ro, 0x000000F7, 0x000001FF⟩,
   ⟨0x044, 1, 0x4, .rc, 0x00000000, 0xFFFFFFFF⟩]

/-- The block registers of the ULF page. -/
def ulfRegs : List RegRow :=
  [⟨0x040, 1, 0x4, .ro, 0x08200100, 0xFFFFFFFF⟩,
   ⟨0x044, 1, 0x4, .st, 0x03E80000, 0xFFFF0001⟩,
   ⟨0x048, 1, 0x4, .wo, 0x00000000, 0x00000003⟩,
   ⟨0x04C, 1, 0x4, .ro, 0x00000000, 0x00003337⟩,
   ⟨0x050, 1, 0x4, .ro, 0x00000000, 0xFFFFFFFF⟩,
   ⟨0x054, 1, 0x4, .ro, 0x00000000, 0xFFFFFFFF⟩,
   ⟨0x058, 1, 0x4, .ro, 0x00000000, 0xFF3FFFFF⟩,
   ⟨0x05C, 1, 0x4, .ro, 0x00000000, 0x3F1F01FF⟩,
   ⟨0x060, 1, 0x4, .rc, 0x00000000, 0xFFFFFFFF⟩,
   ⟨0x064, 1, 0x4, .rc, 0x00000000, 0xFFFFFFFF⟩,
   ⟨0x068, 1, 0x4, .rc, 0x00000000, 0xFFFFFFFF⟩,
   ⟨0x070, 1, 0x4, .rc, 0x00000000, 0xFFFFFFFF⟩,
   ⟨0x074, 1, 0x4, .rc, 0x00000000, 0xFFFFFFFF⟩,
   ⟨0x06C, 1, 0x4, .ro, 0x00000000, 0xFFFFFFFF⟩,
   ⟨0x078, 1, 0x4, .ro, 0x00000000, 0xFFFFFFFF⟩,
   ⟨0x07C, 1, 0x4, .ro, 0x00000000, 0xFFFFFFFF⟩] ++
  [⟨0x080, 1, 0x4, .ro, 0x00000000, 0xFFFFFFFF⟩,
   ⟨0x084, 1, 0x4, .ro, 0x00000000, 0xFFFFFFFF⟩,
   ⟨0x100, 1, 0x4, .rw, 0x00000000, 0x0000001F⟩,
   ⟨0x104, 1, 0x4, .ro, 0x00000000, 0x8F0FFFFF⟩,
   ⟨0x108, 1, 0x4, .ro, 0x00000000, 0xFFFFFFFF⟩,
   ⟨0x10C, 1, 0x4, .ro, 0x00000000, 0xFFFFFFFF⟩,
   ⟨0x110, 1, 0x4, .ro, 0x00000000, 0xFFFFFFFF⟩,
   ⟨0x114, 1, 0x4, .ro, 0x00000000, 0xFFFFFFFF⟩,
   ⟨0x118, 1, 0x4, .ro, 0x00000000, 0x0000FFFF⟩,
   ⟨0x11C, 1, 0x4, .ro, 0x00000000, 0xFFFFFFFF⟩,
   ⟨0x180, 32, 0x4, .st, 0x00000000, 0x80000FFF⟩]

/-- The block registers of the PAIR page. -/
def pairRegs : List RegRow :=
  [⟨0x040, 1, 0x4, .st, 0x00000000, 0x00000001⟩,
   ⟨0x044, 1, 0x4, .ro, 0x00000000, 0x0000037F⟩,
   ⟨0x048, 1, 0x4, .ro, 0xFFFFFFFF, 0xFFFFFFFF⟩,
   ⟨0x04C, 1, 0x4, .ro, 0xFFFFFFFF, 0xFFFFFFFF⟩,
   ⟨0x050, 1, 0x4, .st, 0x00000000, 0x07FFFFFF⟩,
   ⟨0x054, 1, 0x4, .st, 0x00000000, 0xFFFFFFFF⟩,
   ⟨0x058, 1, 0x4, .st, 0x00000000, 0xFFFFFFFF⟩,
   ⟨0x05C, 1, 0x4, .ro, 0x00000000, 0xFFFFFFFF⟩,
   ⟨0x060, 1, 0x4, .ro, 0x00000000, 0xFFFFFFFF⟩,
   ⟨0x064, 1, 0x4, .wo, 0x00000000, 0xFF00071F⟩,
   ⟨0x068, 1, 0x4, .ro, 0x00000000, 0x00001F0F⟩,
   ⟨0x06C, 1, 0x4, .ro, 0x00000000, 0x00007F1F⟩,
   ⟨0x070, 1, 0x4, .ro, 0x00000000, 0xFFFFFFFF⟩,
   ⟨0x074, 1, 0x4, .ro, 0x00000000, 0xFFFFFFFF⟩,
   ⟨0x078, 1, 0x4, .rc, 0x00000000, 0xFFFFFFFF⟩,
   ⟨0x07C, 1, 0x4, .rc, 0x00000000, 0xFFFFFFFF⟩] ++
  [⟨0x080, 1, 0x4, .rc, 0x00000000, 0xFFFFFFFF⟩,
   ⟨0x084, 1, 0x4, .wo, 0x00000000, 0x00000000⟩,
   ⟨0x100, 32, 0x4, .st, 0x00000000, 0xE0FF07FF⟩,
   ⟨0x180, 32, 0x4, .ro, 0x00000000, 0x01FF0F77⟩]

/-- The block registers of the SEC page. -/
def secRegs : List RegRow :=
  [⟨0x040, 1, 0x4, .ro, 0x00000000, 0x0F0F0103⟩,
   ⟨0x044, 1, 0x4, .rw, 0x00000000, 0x000000FF⟩,
   ⟨0x048, 1, 0x4, .ro, 0x00000000, 0x000000FF⟩,
   ⟨0x04C, 1, 0x4, .rw, 0x00000000, 0xFFFFFFFF⟩,
   ⟨0x050, 1, 0x4, .rw, 0x00000000, 0xFFFFFFFF⟩,
   ⟨0x054, 1, 0x4, .wo, 0x00000000, 0xFF003F0F⟩,
   ⟨0x058, 1, 0x4, .ro, 0x00000000, 0x00003F0F⟩,
   ⟨0x060, 8, 0x4, .wo, 0x00000000, 0xFFFFFFFF⟩,
   ⟨0x080, 8, 0x4, .wo, 0x00000000, 0xFFFFFFFF⟩,
   ⟨0x0A0, 3, 0x4, .wo, 0x00000000, 0xFFFFFFFF⟩,
   ⟨0x0AC, 1, 0x4, .wo, 0x00000000, 0xFFFFFFFF⟩,
   ⟨0x0B0, 1, 0x4, .wo, 0x00000000, 0xFFFFFFFF⟩,
   ⟨0x0B4, 1, 0x4, .wo, 0x00000000, 0xFFFFFFFF⟩,
   ⟨0x0B8, 1, 0x4, .ro, 0x00000000, 0xFFFFFFFF⟩,
   ⟨0x0BC, 1, 0x4, .ro, 0x00000000, 0xFFFFFFFF⟩,
   ⟨0x0C0, 16, 0x4, .wo, 0x00000000, 0xFFFFFFFF⟩]

/-- The block registers of the UPD page. -/
def updRegs : List RegRow :=
  [⟨0x040, 1, 0x4, .ro, 0x00000000, 0xFFFFB307⟩,
   ⟨0x044, 1, 0x4, .wo, 0x00000000, 0xFF003F0F⟩,
   ⟨0x048, 1, 0x4, .ro, 0x00000000, 0x0000000F⟩,
   ⟨0x04C, 1, 0x4, .rw, 0x00000000, 0xFFFFFFFF⟩,
   ⟨0x050, 1, 0x4, .rw, 0x00000000, 0xFFFFFFFF⟩,
   ⟨0x054, 1, 0x4, .rw, 0x00000000, 0xFFFFFFFF⟩,
   ⟨0x058, 1, 0x4, .rw, 0x00000000, 0xFFFFFFFF⟩,
   ⟨0x05C, 1, 0x4, .ro, 0x00000000, 0xFFFFFFFF⟩,
   ⟨0x060, 1, 0x4, .ro, 0x00000000, 0xFFFFFFFF⟩,
   ⟨0x064, 1, 0x4, .ro, 0x00000000, 0xFFFFFFFF⟩,
   ⟨0x068, 1, 0x4, .ro, 0x00000000, 0xFFFFFFFF⟩,
   ⟨0x06C, 1, 0x4, .st, 0x00000000, 0xFFFF0101⟩,
   ⟨0x070, 1, 0x4, .ro, 0x00000000, 0xFFFF8007⟩,
   ⟨0x074, 1, 0x4, .ro, 0x00000000, 0x003F000F⟩]

/-- The block registers of the STOR page. -/
def storRegs : List RegRow :=
  [⟨0x040, 1, 0x4, .ro, 0x0000000F, 0x0000010F⟩,
   ⟨0x044, 1, 0x4, .wo, 0x00000000, 0x00FFFF03⟩,
   ⟨0x048, 1, 0x4, .rw, 0x00000000, 0x003FFFFF⟩,
   ⟨0x04C, 1, 0x4, .rw, 0x00000000, 0xFFFFFFFF⟩,
   ⟨0x050, 1, 0x4, .rw, 0x00000000, 0xFFFFFFFF⟩,
   ⟨0x054, 1, 0x4, .ro, 0x00000000, 0x0000000F⟩,
   ⟨0x058, 1, 0x4, .st, 0x00000000, 0x80000FFF⟩,
   ⟨0x05C, 1, 0x4, .ro, 0x00000000, 0x807FFFFF⟩,
   ⟨0x060, 1, 0x4, .rc, 0x00000000, 0xFFFFFFFF⟩]

/-- The block registers of instance `inst` of a page type. -/
def blockRegs (t : PageType) (inst : Nat) : List RegRow :=
  match t with
  | .coh => cohRegs
  | .evt => if inst = 0 then evtRegs else evtRegs.filter (fun r => r.off < 0x440 || 0x460 ≤ r.off)
  | .pwr => pwrRegs
  | .clk => clkRegs
  | .time => timeRegs
  | .ptpp => ptpRegs
  | .ptpd => ptpRegs
  | .part => partRegs
  | .lsb => lsbRegs
  | .pgen => pgenRegs
  | .ledg => ledgRegs
  | .lsc => lscRegs
  | .inp => inpRegs
  | .can => canRegs
  | .lin => linRegs
  | .swc => if inst = 0 then swc0Regs else if inst = 1 then swc1Regs else if inst = 2 then swc2Regs else swc3Regs
  | .swp => swpRegs
  | .qmgr => qmgrRegs
  | .qcnt => qcntRegs
  | .dma => dmaRegs
  | .gw => if inst = 0 then gw0Regs else gw1Regs
  | .tpe => tpeRegs
  | .ulf => ulfRegs
  | .pair => pairRegs
  | .sec => secRegs
  | .upd => updRegs
  | .dramc => dramcRegs
  | .stor => storRegs

/-- The directory row of a page index (R39). -/
def pageRowOf (idx : Nat) : Option PageRow :=
  pageRows.find? (fun r => r.firstIndex ≤ idx && idx < r.firstIndex + r.instances)

/-- The page index of the 4 KiB slot that holds a register-page address, when a page lies there (R38, R39). -/
def pageAt (addr : Nat) : Option Nat :=
  (pageRows.find? (fun r => r.firstBase ≤ addr && addr < r.firstBase + 0x1000 * r.instances)).map
    (fun r => r.firstIndex + (addr - r.firstBase) / 0x1000)

/-- The base address of a page index (R39). -/
def pageBase (idx : Nat) : Nat :=
  match pageRowOf idx with
  | some r => r.firstBase + 0x1000 * (idx - r.firstIndex)
  | none => 0

/-- Registers that the type of port `n` lacks (R174, R206): PLCA, host queues, preemption and MACsec. -/
def swpLacks (n off : Nat) : Bool :=
  (off == 0x54 && !(18 ≤ n && n < 22)) || (off == 0x5C && !(22 ≤ n && n < 25)) || ((off == 0xB4 || off == 0xB8) && 10 ≤ n)
    || (((0xC0 ≤ off && off < 0x100) || off == 0x11C) && 18 ≤ n)

/-- Offsets that name no register in one instance of a page type that has them in another: the registers that a port type
lacks, the feed registers of an odd bank, and CAN_XBT of the channels without CAN XL (R84, R167, R206). -/
def lacksReg (ty : PageType) (n off : Nat) : Bool :=
  match ty with
  | .swp => swpLacks n off
  | .lsb => n % 2 == 1 && 0xA0 ≤ off && off < 0xB0
  | .can => n < 8 && off == 0x4C
  | _ => false

/-- The register row that names a lower-half offset of a page. -/
def regRowAt (idx off : Nat) : Option RegRow :=
  match pageRowOf idx with
  | none => none
  | some r =>
    let hit := fun (g : RegRow) =>
      g.off ≤ off && off < g.off + g.count * g.stride && (off - g.off) % g.stride == 0
    if off < 0x40 then headerRegs.find? hit
    else if lacksReg r.ptype (idx - r.firstIndex) off then none
    else (blockRegs r.ptype (idx - r.firstIndex)).find? hit

/-- Reset of TIME_PORT_DLY of port `n`, which the spec gives per port (R309). -/
def portDelayReset (n : Nat) : Word :=
  if n < 2 then 0x01C20352 else if n < 10 then 0x015E02EE else if n < 18 then 0x01900384 else 0x03840960

/-- The reset value of the register at a lower-half register-page address; 0 where no register lies. -/
def regReset (addr : Nat) : Word :=
  match pageAt addr with
  | none => 0
  | some idx =>
    let off := addr % 0x1000
    match regRowAt idx off with
    | none => 0
    | some g =>
      if idx = 7 && 0x100 ≤ off && off < 0x158 then portDelayReset ((off - 0x100) / 4)
      else g.reset

end Sys2Proof.Machine
end

