-- ==== Sys2Proof/Machine/RegNames.lean ====
section
/-! DEFINITION. The address of every register by the name spec/ gives it; a register held once per instance takes the
instance's own number (channel, port, queue, source and so on), not its place within a page. -/

namespace Sys2Proof.Machine.R

def COH_EPOCH : Nat := 0x40000040
def COH_COMMIT : Nat := 0x40000044
def COH_COMMIT_TIME_LO : Nat := 0x40000048
def COH_COMMIT_TIME_HI : Nat := 0x4000004C
def COH_STATUS : Nat := 0x40000050
def COH_CANCEL : Nat := 0x40000054
def COH_SNAPSHOT : Nat := 0x40000058
def COH_SNAP_RELEASE : Nat := 0x4000005C
def COH_SNAP_TIME_LO : Nat := 0x40000060
def COH_SNAP_TIME_HI : Nat := 0x40000064
def COH_LAST_LT_LO : Nat := 0x40000068
def COH_LAST_LT_HI : Nat := 0x4000006C
def COH_GEN : Nat := 0x40000070
def COH_HOLDER : Nat := 0x40000074
def COH_DRAIN_CNT0 : Nat := 0x40000078
def COH_DRAIN_CNT1 : Nat := 0x4000007C
def COH_DRAIN_CNT2 : Nat := 0x40000080
def COH_DRAIN_BOUND : Nat := 0x40000084
def COH_DIRTY (n : Nat) : Nat := 0x400000A0 + 0x4 * n
def COH_PSTATUS (n : Nat) : Nat := 0x40000100 + 0x4 * n
def COH_SEM (n : Nat) : Nat := 0x40000200 + 0x4 * n
def PAGE_ID (page : Nat) : Nat := pageBase page + 0x000
def PAGE_CAP (page : Nat) : Nat := pageBase page + 0x004
def PAGE_OWNER (page : Nat) : Nat := pageBase page + 0x008
def PAGE_STATE (page : Nat) : Nat := pageBase page + 0x00C
def EVT_STATUS (page : Nat) : Nat := pageBase page + 0x010
def EVT_ENABLE (page : Nat) : Nat := pageBase page + 0x014
def EVT_PENDING (page : Nat) : Nat := pageBase page + 0x018
def EVT_FORCE (page : Nat) : Nat := pageBase page + 0x01C
def EPOCH_SEEN (page : Nat) : Nat := pageBase page + 0x020
def STAGE_DIRTY (page : Nat) : Nat := pageBase page + 0x024
def PAGE_CMD (page : Nat) : Nat := pageBase page + 0x028
def SNAP_TIME_LO (page : Nat) : Nat := pageBase page + 0x02C
def SNAP_TIME_HI (page : Nat) : Nat := pageBase page + 0x030
def PAGE_RESET_CFG (page : Nat) : Nat := pageBase page + 0x034
def PAGE_INFLIGHT (page : Nat) : Nat := pageBase page + 0x038
def EVT_ROUTE (c : Nat) : Nat := 0x40001000 + 0x1000 * (c / 256) + 0x040 + 0x4 * (c % 256)
def EVT_SUM (n : Nat) : Nat := 0x40001000 + 0x1000 * (n / 8) + 0x460 + 4 * (n % 8)
def EVT_VIOL_COUNT : Nat := 0x40001000 + 0x440
def EVT_VIOL_INFO : Nat := 0x40001000 + 0x444
def EVT_VIOL_ADDR_LO : Nat := 0x40001000 + 0x448
def EVT_VIOL_ADDR_HI : Nat := 0x40001000 + 0x44C
def EVT_VIOL_TIME_LO : Nat := 0x40001000 + 0x450
def EVT_VIOL_TIME_HI : Nat := 0x40001000 + 0x454
def EVT_VIOL_POP : Nat := 0x40001000 + 0x458
def LSB_CAP (i : Nat) : Nat := 0x40020000 + 0x1000 * i + 0x040
def LSB_STATUS (i : Nat) : Nat := 0x40020000 + 0x1000 * i + 0x044
def LSB_VBANK (i : Nat) : Nat := 0x40020000 + 0x1000 * i + 0x048
def LSB_IBANK (i : Nat) : Nat := 0x40020000 + 0x1000 * i + 0x04C
def LSB_UV_CFG (i : Nat) : Nat := 0x40020000 + 0x1000 * i + 0x050
def LSB_STAGGER (i : Nat) : Nat := 0x40020000 + 0x1000 * i + 0x054
def LSB_WIRE_AMB (i : Nat) : Nat := 0x40020000 + 0x1000 * i + 0x058
def LSB_SC_LAST_LO (i : Nat) : Nat := 0x40020000 + 0x1000 * i + 0x05C
def LSB_SC_LAST_HI (i : Nat) : Nat := 0x40020000 + 0x1000 * i + 0x060
def LSB_SC_COUNT (i : Nat) : Nat := 0x40020000 + 0x1000 * i + 0x064
def LSB_UV_COUNT (i : Nat) : Nat := 0x40020000 + 0x1000 * i + 0x068
def LSB_INR_PROF (i n : Nat) : Nat := 0x40020000 + 0x1000 * i + 0x070 + 0x4 * n
def LSB_FEED_CFG (i : Nat) : Nat := 0x40020000 + 0x1000 * i + 0x0A0
def LSB_FEED_I (i : Nat) : Nat := 0x40020000 + 0x1000 * i + 0x0A4
def LSB_FEED_STATUS (i : Nat) : Nat := 0x40020000 + 0x1000 * i + 0x0A8
def LSB_FEED_SHED_COUNT (i : Nat) : Nat := 0x40020000 + 0x1000 * i + 0x0AC
def LSC_CAP (i : Nat) : Nat := 0x40028000 + 0x1000 * i + 0x040
def LSC_SUMMARY (i : Nat) : Nat := 0x40028000 + 0x1000 * i + 0x044
def LSC_STATUS (c : Nat) : Nat := 0x40028000 + 0x1000 * (c / 8) + 0x140 + 0x80 * (c % 8)
def LSC_TRIP_ACK (c : Nat) : Nat := 0x40028000 + 0x1000 * (c / 8) + 0x144 + 0x80 * (c % 8)
def LSC_IMEAS (c : Nat) : Nat := 0x40028000 + 0x1000 * (c / 8) + 0x148 + 0x80 * (c % 8)
def LSC_VOUT (c : Nat) : Nat := 0x40028000 + 0x1000 * (c / 8) + 0x14C + 0x80 * (c % 8)
def LSC_TJ (c : Nat) : Nat := 0x40028000 + 0x1000 * (c / 8) + 0x150 + 0x80 * (c % 8)
def LSC_WIRE_K (c : Nat) : Nat := 0x40028000 + 0x1000 * (c / 8) + 0x154 + 0x80 * (c % 8)
def LSC_WIRE_T (c : Nat) : Nat := 0x40028000 + 0x1000 * (c / 8) + 0x158 + 0x80 * (c % 8)
def LSC_WIRE_DT (c : Nat) : Nat := 0x40028000 + 0x1000 * (c / 8) + 0x15C + 0x80 * (c % 8)
def LSC_PROT (c : Nat) : Nat := 0x40028000 + 0x1000 * (c / 8) + 0x160 + 0x80 * (c % 8)
def LSC_OL (c : Nat) : Nat := 0x40028000 + 0x1000 * (c / 8) + 0x164 + 0x80 * (c % 8)
def LSC_TRIP_TIME_LO (c : Nat) : Nat := 0x40028000 + 0x1000 * (c / 8) + 0x168 + 0x80 * (c % 8)
def LSC_TRIP_TIME_HI (c : Nat) : Nat := 0x40028000 + 0x1000 * (c / 8) + 0x16C + 0x80 * (c % 8)
def LSC_TRIP_COUNT (c : Nat) : Nat := 0x40028000 + 0x1000 * (c / 8) + 0x170 + 0x80 * (c % 8)
def LSC_IPEAK (c : Nat) : Nat := 0x40028000 + 0x1000 * (c / 8) + 0x174 + 0x80 * (c % 8)
def LSC_INR_INFO (c : Nat) : Nat := 0x40028000 + 0x1000 * (c / 8) + 0x178 + 0x80 * (c % 8)
def LSC_RENEW_MASK (i : Nat) : Nat := 0x40028000 + 0x1000 * i + 0x048
def LSC_CTRL (c : Nat) : Nat := 0x40028000 + 0x1000 * (c / 8) + 0x100 + 0x80 * (c % 8)
def LSC_PHASE (c : Nat) : Nat := 0x40028000 + 0x1000 * (c / 8) + 0x104 + 0x80 * (c % 8)
def LSC_LEASE (c : Nat) : Nat := 0x40028000 + 0x1000 * (c / 8) + 0x108 + 0x80 * (c % 8)
def LSC_RENEW (c : Nat) : Nat := 0x40028000 + 0x1000 * (c / 8) + 0x10C + 0x80 * (c % 8)
def LSC_LEASE_STAT (c : Nat) : Nat := 0x40028000 + 0x1000 * (c / 8) + 0x110 + 0x80 * (c % 8)
def LSC_GWCMD (c : Nat) : Nat := 0x40028000 + 0x1000 * (c / 8) + 0x114 + 0x80 * (c % 8)
def LSC_OUT (c : Nat) : Nat := 0x40028000 + 0x1000 * (c / 8) + 0x118 + 0x80 * (c % 8)
def LSC_LEASE_EXP (c : Nat) : Nat := 0x40028000 + 0x1000 * (c / 8) + 0x11C + 0x80 * (c % 8)
def PGEN_CFG (n : Nat) : Nat := 0x40024100 + 0x20 * n
def PGEN_STAT (n : Nat) : Nat := 0x40024104 + 0x20 * n
def PGEN_START_LO (n : Nat) : Nat := 0x40024108 + 0x20 * n
def PGEN_START_HI (n : Nat) : Nat := 0x4002410C + 0x20 * n
def LEDG_CFG : Nat := 0x40025040
def LEDG_CMD : Nat := 0x40025044
def LEDG_STATUS : Nat := 0x40025048
def LEDG_SEQ : Nat := 0x4002504C
def LEDG_HIST : Nat := 0x40025050
def LEDG_PROF_A (n : Nat) : Nat := 0x40025080 + 0x8 * n
def LEDG_PROF_B (n : Nat) : Nat := 0x40025084 + 0x8 * n
def LSC_ID_CFG (c : Nat) : Nat := 0x40028000 + 0x1000 * (c / 8) + 0x120 + 0x80 * (c % 8)
def LSC_ID_SIG0 (c : Nat) : Nat := 0x40028000 + 0x1000 * (c / 8) + 0x124 + 0x80 * (c % 8)
def LSC_ID_SIG1 (c : Nat) : Nat := 0x40028000 + 0x1000 * (c / 8) + 0x128 + 0x80 * (c % 8)
def LSC_ID_SIG2 (c : Nat) : Nat := 0x40028000 + 0x1000 * (c / 8) + 0x12C + 0x80 * (c % 8)
def LSC_ID_TAG_LO (c : Nat) : Nat := 0x40028000 + 0x1000 * (c / 8) + 0x130 + 0x80 * (c % 8)
def LSC_ID_TAG_HI (c : Nat) : Nat := 0x40028000 + 0x1000 * (c / 8) + 0x134 + 0x80 * (c % 8)
def LSC_ID_STATUS (c : Nat) : Nat := 0x40028000 + 0x1000 * (c / 8) + 0x138 + 0x80 * (c % 8)
def LSC_ID_CMD (c : Nat) : Nat := 0x40028000 + 0x1000 * (c / 8) + 0x13C + 0x80 * (c % 8)
def AIN_CFG (n : Nat) : Nat := 0x40038000 + 0x1000 * (n / 16) + 0x100 + 0x10 * (n % 16)
def AIN_LIM (n : Nat) : Nat := 0x40038000 + 0x1000 * (n / 16) + 0x104 + 0x10 * (n % 16)
def AIN_VAL (n : Nat) : Nat := 0x40038000 + 0x1000 * (n / 16) + 0x108 + 0x10 * (n % 16)
def DIN_STATE (i : Nat) : Nat := 0x40038000 + 0x1000 * i + 0x200
def DIN_POL (i : Nat) : Nat := 0x40038000 + 0x1000 * i + 0x204
def DIN_RISE_EN (i : Nat) : Nat := 0x40038000 + 0x1000 * i + 0x208
def DIN_FALL_EN (i : Nat) : Nat := 0x40038000 + 0x1000 * i + 0x20C
def DIN_WAKE_EN (i : Nat) : Nat := 0x40038000 + 0x1000 * i + 0x210
def DIN_EDGE (i : Nat) : Nat := 0x40038000 + 0x1000 * i + 0x214
def DIN_TIMING (i : Nat) : Nat := 0x40038000 + 0x1000 * i + 0x218
def FIN_CFG (n : Nat) : Nat := 0x40038000 + 0x1000 * (n / 4) + 0x280 + 0x10 * (n % 4)
def FIN_FREQ (n : Nat) : Nat := 0x40038000 + 0x1000 * (n / 4) + 0x284 + 0x10 * (n % 4)
def FIN_DUTY (n : Nat) : Nat := 0x40038000 + 0x1000 * (n / 4) + 0x288 + 0x10 * (n % 4)
def FIN_COUNT (n : Nat) : Nat := 0x40038000 + 0x1000 * (n / 4) + 0x28C + 0x10 * (n % 4)
def SSUP_CFG (n : Nat) : Nat := 0x40038000 + 0x1000 * (n / 2) + 0x300 + 0x10 * (n % 2)
def SSUP_MEAS (n : Nat) : Nat := 0x40038000 + 0x1000 * (n / 2) + 0x304 + 0x10 * (n % 2)
def SSUP_STAT (n : Nat) : Nat := 0x40038000 + 0x1000 * (n / 2) + 0x308 + 0x10 * (n % 2)
def WIN_CFG (i : Nat) : Nat := 0x40038000 + 0x1000 * i + 0x340
def WIN_STAT (i : Nat) : Nat := 0x40038000 + 0x1000 * i + 0x344
def CAN_CTRL (i : Nat) : Nat := 0x40040000 + 0x1000 * i + 0x040
def CAN_NBT (i : Nat) : Nat := 0x40040000 + 0x1000 * i + 0x044
def CAN_DBT (i : Nat) : Nat := 0x40040000 + 0x1000 * i + 0x048
def CAN_XBT (i : Nat) : Nat := 0x40040000 + 0x1000 * i + 0x04C
def CAN_TDC (i : Nat) : Nat := 0x40040000 + 0x1000 * i + 0x050
def CAN_STAT (i : Nat) : Nat := 0x40040000 + 0x1000 * i + 0x054
def CAN_ERRCNT (i : Nat) : Nat := 0x40040000 + 0x1000 * i + 0x058
def CAN_ERRINFO (i : Nat) : Nat := 0x40040000 + 0x1000 * i + 0x05C
def CAN_CMD (i : Nat) : Nat := 0x40040000 + 0x1000 * i + 0x060
def CAN_RXCFG (i : Nat) : Nat := 0x40040000 + 0x1000 * i + 0x064
def CAN_RSCFG (i n : Nat) : Nat := 0x40040000 + 0x1000 * i + 0x070 + 0x4 * n
def CAN_TXSCFG (i : Nat) : Nat := 0x40040000 + 0x1000 * i + 0x080
def CAN_TXSCMD (i : Nat) : Nat := 0x40040000 + 0x1000 * i + 0x084
def CAN_TXSSTAT (i : Nat) : Nat := 0x40040000 + 0x1000 * i + 0x088
def CAN_LAUNCH (i : Nat) : Nat := 0x40040000 + 0x1000 * i + 0x08C
def CAN_WAKE (i : Nat) : Nat := 0x40040000 + 0x1000 * i + 0x090
def CAN_WUF_ID (i : Nat) : Nat := 0x40040000 + 0x1000 * i + 0x094
def CAN_WUF_MASK (i : Nat) : Nat := 0x40040000 + 0x1000 * i + 0x098
def CAN_SAL_CTRL (i : Nat) : Nat := 0x40040000 + 0x1000 * i + 0x09C
def CAN_SAL_KEY (i n : Nat) : Nat := 0x40040000 + 0x1000 * i + 0x0C0 + 0x8 * n
def CAN_SAL_CNT (i n : Nat) : Nat := 0x40040000 + 0x1000 * i + 0x0C4 + 0x8 * n
def CAN_CNT_RX (i : Nat) : Nat := 0x40040000 + 0x1000 * i + 0x140
def CAN_CNT_TX (i : Nat) : Nat := 0x40040000 + 0x1000 * i + 0x144
def CAN_CNT_RXDROP (i : Nat) : Nat := 0x40040000 + 0x1000 * i + 0x148
def CAN_RSDROP (i n : Nat) : Nat := 0x40040000 + 0x1000 * i + 0x150 + 0x4 * n
def CAN_RXNEW (i n : Nat) : Nat := 0x40040000 + 0x1000 * i + 0x180 + 0x4 * n
def CAN_TXDONE (i n : Nat) : Nat := 0x40040000 + 0x1000 * i + 0x190 + 0x4 * n
def CAN_MBCFG (i n : Nat) : Nat := 0x40040000 + 0x1000 * i + 0x400 + 0x4 * n
def LIN_CFG (l : Nat) : Nat := 0x4004C000 + 0x1000 * (l / 2) + 0x100 + 0x300 * (l % 2) + 0x000
def LIN_SCHED (l n : Nat) : Nat := 0x4004C000 + 0x1000 * (l / 2) + 0x100 + 0x300 * (l % 2) + 0x004 + 0x4 * n
def LIN_CMD (l : Nat) : Nat := 0x4004C000 + 0x1000 * (l / 2) + 0x100 + 0x300 * (l % 2) + 0x014
def LIN_STAT (l : Nat) : Nat := 0x4004C000 + 0x1000 * (l / 2) + 0x100 + 0x300 * (l % 2) + 0x018
def LIN_ERRCNT (l : Nat) : Nat := 0x4004C000 + 0x1000 * (l / 2) + 0x100 + 0x300 * (l % 2) + 0x01C
def LIN_ENTRY (l n : Nat) : Nat := 0x4004C000 + 0x1000 * (l / 2) + 0x100 + 0x300 * (l % 2) + 0x100 + 0x4 * n
def LIN_FCFG (l n : Nat) : Nat := 0x4004C000 + 0x1000 * (l / 2) + 0x100 + 0x300 * (l % 2) + 0x200 + 0x4 * n
def SWC_CTRL : Nat := 0x40050040
def SWC_NO_DEST : Nat := 0x40050044
def SWC_UNKNOWN_SA : Nat := 0x40050048
def SWC_SA_VIOL : Nat := 0x4005004C
def SWC_ECC : Nat := 0x40050050
def SWC_POL_SEL : Nat := 0x40051040
def SWC_POL_GREEN : Nat := 0x40051044
def SWC_POL_YELLOW : Nat := 0x40051048
def SWC_POL_RED : Nat := 0x4005104C
def SWC_POL_STATE : Nat := 0x40051050
def SWC_FRER_SEL : Nat := 0x40052040
def SWC_FRER_PASSED : Nat := 0x40052044
def SWC_FRER_DISCARDED : Nat := 0x40052048
def SWC_FRER_OUT_OF_ORDER : Nat := 0x4005204C
def SWC_FRER_LOST : Nat := 0x40052050
def SWC_FRER_RESETS : Nat := 0x40052054
def SWC_FRER_NEXT : Nat := 0x40052058
def SWC_TRACE : Nat := 0x40053040
def SWC_MIRROR_DROP : Nat := 0x40053044
def SWP_CAP (i : Nat) : Nat := 0x40060000 + 0x1000 * i + 0x040
def SWP_PORT_CFG (i : Nat) : Nat := 0x40060000 + 0x1000 * i + 0x044
def SWP_VLAN_CFG (i : Nat) : Nat := 0x40060000 + 0x1000 * i + 0x048
def SWP_TC_MAP (i : Nat) : Nat := 0x40060000 + 0x1000 * i + 0x04C
def SWP_LINK (i : Nat) : Nat := 0x40060000 + 0x1000 * i + 0x050
def SWP_PLCA (i : Nat) : Nat := 0x40060000 + 0x1000 * i + 0x054
def SWP_MIRROR (i : Nat) : Nat := 0x40060000 + 0x1000 * i + 0x058
def SWP_HOSTQ (i : Nat) : Nat := 0x40060000 + 0x1000 * i + 0x05C
def SWP_QCFG (i n : Nat) : Nat := 0x40060000 + 0x1000 * i + 0x060 + 0x4 * n
def SWP_CBS (i n : Nat) : Nat := 0x40060000 + 0x1000 * i + 0x080 + 0x4 * n
def SWP_TAS_CTRL (i : Nat) : Nat := 0x40060000 + 0x1000 * i + 0x0A0
def SWP_TAS_CYCLE (i : Nat) : Nat := 0x40060000 + 0x1000 * i + 0x0A4
def SWP_TAS_BASE_LO (i : Nat) : Nat := 0x40060000 + 0x1000 * i + 0x0A8
def SWP_TAS_BASE_HI (i : Nat) : Nat := 0x40060000 + 0x1000 * i + 0x0AC
def SWP_TAS_STAT (i : Nat) : Nat := 0x40060000 + 0x1000 * i + 0x0B0
def SWP_PREEMPT (i : Nat) : Nat := 0x40060000 + 0x1000 * i + 0x0B4
def SWP_PREEMPT_STAT (i : Nat) : Nat := 0x40060000 + 0x1000 * i + 0x0B8
def SWP_MSEC_CFG (i : Nat) : Nat := 0x40060000 + 0x1000 * i + 0x0C0
def SWP_MSEC_TXSA (i : Nat) : Nat := 0x40060000 + 0x1000 * i + 0x0C4
def SWP_MSEC_PN_LO (i : Nat) : Nat := 0x40060000 + 0x1000 * i + 0x0C8
def SWP_MSEC_PN_HI (i : Nat) : Nat := 0x40060000 + 0x1000 * i + 0x0CC
def SWP_MSEC_RXSCI_LO (i n : Nat) : Nat := 0x40060000 + 0x1000 * i + 0x0D0 + 0x8 * n
def SWP_MSEC_RXSCI_HI (i n : Nat) : Nat := 0x40060000 + 0x1000 * i + 0x0D4 + 0x8 * n
def SWP_MSEC_RXSA (i n : Nat) : Nat := 0x40060000 + 0x1000 * i + 0x0F0 + 0x4 * n
def SWP_RX_FRAMES (i : Nat) : Nat := 0x40060000 + 0x1000 * i + 0x100
def SWP_RX_ERR (i : Nat) : Nat := 0x40060000 + 0x1000 * i + 0x104
def SWP_RX_DISC (i : Nat) : Nat := 0x40060000 + 0x1000 * i + 0x108
def SWP_TX_FRAMES (i : Nat) : Nat := 0x40060000 + 0x1000 * i + 0x10C
def SWP_TX_DROP (i : Nat) : Nat := 0x40060000 + 0x1000 * i + 0x110
def SWP_AGED (i : Nat) : Nat := 0x40060000 + 0x1000 * i + 0x114
def SWP_CT_STOMPED (i : Nat) : Nat := 0x40060000 + 0x1000 * i + 0x118
def SWP_MSEC_RX_BAD (i : Nat) : Nat := 0x40060000 + 0x1000 * i + 0x11C
def SWP_RX_BYTES_LO (i : Nat) : Nat := 0x40060000 + 0x1000 * i + 0x120
def SWP_RX_BYTES_HI (i : Nat) : Nat := 0x40060000 + 0x1000 * i + 0x124
def SWP_TX_BYTES_LO (i : Nat) : Nat := 0x40060000 + 0x1000 * i + 0x128
def SWP_TX_BYTES_HI (i : Nat) : Nat := 0x40060000 + 0x1000 * i + 0x12C
def QCNT_Q (c : Nat) : Nat := 0x40081000 + 0x1000 * (c / 256) + 0x040 + 0x4 * (c % 256)
def QMGR_CAP : Nat := 0x40080040
def QMGR_RESERVE : Nat := 0x40080044
def QMGR_EXT_RESERVE : Nat := 0x40080048
def QMGR_EXT_BASE_LO : Nat := 0x4008004C
def QMGR_EXT_BASE_HI : Nat := 0x40080050
def QMGR_BANK_ENABLE : Nat := 0x40080054
def QMGR_BANK_POWERED : Nat := 0x40080058
def QMGR_BANK_DRAINING : Nat := 0x4008005C
def QMGR_BANK_STATUS : Nat := 0x40080060
def QMGR_FREE : Nat := 0x40080064
def QMGR_EXT_FREE : Nat := 0x40080068
def QMGR_FREE_MIN : Nat := 0x4008006C
def QMGR_QSEL : Nat := 0x40080070
def QMGR_QCFG_A : Nat := 0x40080074
def QMGR_QCFG_B : Nat := 0x40080078
def QMGR_OPEN : Nat := 0x4008007C
def QMGR_BANK_USED (n : Nat) : Nat := 0x40080080 + 0x4 * n
def QMGR_EXT_USED (n : Nat) : Nat := 0x400800C0 + 0x4 * n
def QMGR_MSG_DROP : Nat := 0x40080100
def QMGR_AGED : Nat := 0x40080104
def QMGR_PUSHOUT : Nat := 0x40080108
def QMGR_POOL_DROP : Nat := 0x4008010C
def QMGR_TRACE_LOST : Nat := 0x40080110
def QMGR_ECC : Nat := 0x40080114
def QMGR_TRACE_CTRL : Nat := 0x40080140
def QMGR_TRACE_BASE_LO : Nat := 0x40080144
def QMGR_TRACE_BASE_HI : Nat := 0x40080148
def QMGR_TRACE_SIZE : Nat := 0x4008014C
def QMGR_TRACE_CMD : Nat := 0x40080150
def QMGR_TRACE_STAT : Nat := 0x40080154
def QMGR_TRACE_WPTR : Nat := 0x40080158
def QMGR_TRACE_OLDEST : Nat := 0x4008015C
def QMGR_TRACE_Q (n : Nat) : Nat := 0x40080180 + 0x4 * n
def DMA_CAP (i : Nat) : Nat := 0x400A0000 + 0x1000 * i + 0x040
def DMA_ENABLE (i : Nat) : Nat := 0x400A0000 + 0x1000 * i + 0x044
def DMA_SUMMARY (i : Nat) : Nat := 0x400A0000 + 0x1000 * i + 0x048
def DMA_INFLIGHT (i : Nat) : Nat := 0x400A0000 + 0x1000 * i + 0x04C
def DMA_TRIG (i : Nat) : Nat := 0x400A0000 + 0x1000 * i + 0x050
def DMA_CFG (c : Nat) : Nat := 0x400A0000 + 0x1000 * (c / 8) + 0x100 + 0x80 * (c % 8)
def DMA_CMD (c : Nat) : Nat := 0x400A0000 + 0x1000 * (c / 8) + 0x104 + 0x80 * (c % 8)
def DMA_STAT (c : Nat) : Nat := 0x400A0000 + 0x1000 * (c / 8) + 0x108 + 0x80 * (c % 8)
def DMA_CUR_S_LO (c : Nat) : Nat := 0x400A0000 + 0x1000 * (c / 8) + 0x10C + 0x80 * (c % 8)
def DMA_CUR_S_HI (c : Nat) : Nat := 0x400A0000 + 0x1000 * (c / 8) + 0x110 + 0x80 * (c % 8)
def DMA_CUR_D_LO (c : Nat) : Nat := 0x400A0000 + 0x1000 * (c / 8) + 0x114 + 0x80 * (c % 8)
def DMA_CUR_D_HI (c : Nat) : Nat := 0x400A0000 + 0x1000 * (c / 8) + 0x118 + 0x80 * (c % 8)
def DMA_LOOP (c : Nat) : Nat := 0x400A0000 + 0x1000 * (c / 8) + 0x11C + 0x80 * (c % 8)
def DMA_RING_IDX (c : Nat) : Nat := 0x400A0000 + 0x1000 * (c / 8) + 0x120 + 0x80 * (c % 8)
def DMA_FAULT_ADDR_LO (c : Nat) : Nat := 0x400A0000 + 0x1000 * (c / 8) + 0x124 + 0x80 * (c % 8)
def DMA_FAULT_ADDR_HI (c : Nat) : Nat := 0x400A0000 + 0x1000 * (c / 8) + 0x128 + 0x80 * (c % 8)
def DMA_LAST (c : Nat) : Nat := 0x400A0000 + 0x1000 * (c / 8) + 0x12C + 0x80 * (c % 8)
def DMA_BYTES_LO (c : Nat) : Nat := 0x400A0000 + 0x1000 * (c / 8) + 0x130 + 0x80 * (c % 8)
def DMA_BYTES_HI (c : Nat) : Nat := 0x400A0000 + 0x1000 * (c / 8) + 0x134 + 0x80 * (c % 8)
def DMA_DESC_COUNT (c : Nat) : Nat := 0x400A0000 + 0x1000 * (c / 8) + 0x138 + 0x80 * (c % 8)
def DMA_DISCARD (c : Nat) : Nat := 0x400A0000 + 0x1000 * (c / 8) + 0x13C + 0x80 * (c % 8)
def GW_CTRL : Nat := 0x400B0040
def GW_STAT : Nat := 0x400B0044
def GW_LAT_MAX : Nat := 0x400B0048
def GW_LAST_DROP : Nat := 0x400B004C
def GW_JOBS : Nat := 0x400B0050
def GW_DROP : Nat := 0x400B0054
def GW_SLOT_CLR : Nat := 0x400B0058
def GW_GROUP_EN (n : Nat) : Nat := 0x400B0080 + 0x4 * n
def GW_GROUP_DRAIN (n : Nat) : Nat := 0x400B00A0 + 0x4 * n
def GW_MAC_LO : Nat := 0x400B1040
def GW_MAC_HI : Nat := 0x400B1044
def GW_PDU_CFG : Nat := 0x400B1048
def TUN_CFG (n : Nat) : Nat := 0x400B1100 + 0x20 * n
def TUN_BATCH (n : Nat) : Nat := 0x400B1104 + 0x20 * n
def TUN_DA_LO (n : Nat) : Nat := 0x400B1108 + 0x20 * n
def TUN_DA_HI (n : Nat) : Nat := 0x400B110C + 0x20 * n
def TUN_SID_LO (n : Nat) : Nat := 0x400B1110 + 0x20 * n
def TUN_SID_HI (n : Nat) : Nat := 0x400B1114 + 0x20 * n
def TUN_STAT (n : Nat) : Nat := 0x400B1118 + 0x20 * n
def TUN_CNT (n : Nat) : Nat := 0x400B111C + 0x20 * n
def TPE_CTRL : Nat := 0x400B2040
def TPE_TIMING : Nat := 0x400B2044
def TPE_LAST_ABORT : Nat := 0x400B2048
def TPE_LAST_PGN : Nat := 0x400B204C
def TPE_RX_DONE : Nat := 0x400B2050
def TPE_TX_DONE : Nat := 0x400B2054
def TPE_ABORT_SENT : Nat := 0x400B2058
def TPE_ABORT_RCVD : Nat := 0x400B205C
def TPE_NO_SESSION : Nat := 0x400B2060
def TPE_OPEN : Nat := 0x400B2064
def TPE_BUF_LO : Nat := 0x400B2068
def TPE_BUF_HI : Nat := 0x400B206C
def TPE_CHCFG (n : Nat) : Nat := 0x400B2100 + 0x10 * n
def TPE_CHADDR (n : Nat) : Nat := 0x400B2104 + 0x10 * n
def TPE_CHQ (n : Nat) : Nat := 0x400B2108 + 0x10 * n
def TPE_SESS (n : Nat) : Nat := 0x400B2400 + 0x4 * n
def TIME_LT_LO : Nat := 0x4000A040
def TIME_LT_HI : Nat := 0x4000A044
def TIME_ST_LO : Nat := 0x4000A048
def TIME_ST_HI : Nat := 0x4000A04C
def TIME_SEL : Nat := 0x4000A050
def TIME_STAT : Nat := 0x4000A054
def TIME_PHASE : Nat := 0x4000A058
def TIME_STEP_LO : Nat := 0x4000A05C
def TIME_STEP_HI : Nat := 0x4000A060
def TIME_STEP_NS : Nat := 0x4000A064
def TIME_LATE : Nat := 0x4000A068
def TIME_PORT_DLY (n : Nat) : Nat := 0x4000A100 + 0x4 * n
def TIME_PORT_LINK (n : Nat) : Nat := 0x4000A180 + 0x4 * n
def PTP_CFG (d : Nat) : Nat := 0x4000B000 + 0x1000 * d + 0x040
def PTP_PORTS (d : Nat) : Nat := 0x4000B000 + 0x1000 * d + 0x044
def PTP_QUEUES (d : Nat) : Nat := 0x4000B000 + 0x1000 * d + 0x048
def PTP_TIME_LO (d : Nat) : Nat := 0x4000B000 + 0x1000 * d + 0x04C
def PTP_TIME_HI (d : Nat) : Nat := 0x4000B000 + 0x1000 * d + 0x050
def PTP_RATE (d : Nat) : Nat := 0x4000B000 + 0x1000 * d + 0x054
def PTP_ADJ_OFS (d : Nat) : Nat := 0x4000B000 + 0x1000 * d + 0x058
def PTP_CMD (d : Nat) : Nat := 0x4000B000 + 0x1000 * d + 0x05C
def PTP_SLEW (d : Nat) : Nat := 0x4000B000 + 0x1000 * d + 0x060
def PTP_STAT (d : Nat) : Nat := 0x4000B000 + 0x1000 * d + 0x064
def PTP_SLEW_LEFT (d : Nat) : Nat := 0x4000B000 + 0x1000 * d + 0x068
def PTP_TXS_INFO (d : Nat) : Nat := 0x4000B000 + 0x1000 * d + 0x06C
def PTP_TXS_LT_LO (d : Nat) : Nat := 0x4000B000 + 0x1000 * d + 0x070
def PTP_TXS_LT_HI (d : Nat) : Nat := 0x4000B000 + 0x1000 * d + 0x074
def PTP_RELAYED (d : Nat) : Nat := 0x4000B000 + 0x1000 * d + 0x078
def PTP_RX (d : Nat) : Nat := 0x4000B000 + 0x1000 * d + 0x07C
def PTP_TXS_LOST (d : Nat) : Nat := 0x4000B000 + 0x1000 * d + 0x080
def PTP_CLKID_LO (d : Nat) : Nat := 0x4000B000 + 0x1000 * d + 0x084
def PTP_CLKID_HI (d : Nat) : Nat := 0x4000B000 + 0x1000 * d + 0x088
def PART_CAP : Nat := 0x40010040
def PART_RUN : Nat := 0x40010044
def PART_CMD : Nat := 0x40010048
def PART_CMD_STAT : Nat := 0x4001004C
def PART_CONFLICT : Nat := 0x40010050
def PART_LAST_RESET : Nat := 0x40010054
def PART_LAST_RESET_LT_LO : Nat := 0x40010058
def PART_LAST_RESET_LT_HI : Nat := 0x4001005C
def PART_PSTAT (n : Nat) : Nat := 0x40010100 + 0x4 * n
def PART_CORE (n : Nat) : Nat := 0x40010180 + 0x4 * n
def DRAMC_CAP : Nat := 0x400E0040
def DRAMC_STAT : Nat := 0x400E0044
def DRAMC_SCRUB : Nat := 0x400E0048
def DRAMC_SCRUB_POS : Nat := 0x400E004C
def DRAMC_ECC : Nat := 0x400E0050
def DRAMC_ERR_INFO : Nat := 0x400E0054
def DRAMC_ERR_ADDR_LO : Nat := 0x400E0058
def DRAMC_ERR_ADDR_HI : Nat := 0x400E005C
def DRAMC_ERR_TIME_LO : Nat := 0x400E0060
def DRAMC_ERR_TIME_HI : Nat := 0x400E0064
def DRAMC_ERR_POP : Nat := 0x400E0068
def PWR_STATE : Nat := 0x40008040
def PWR_CFG : Nat := 0x40008044
def PWR_CMD : Nat := 0x40008048
def PWR_NEXT_NEED_LO : Nat := 0x4000804C
def PWR_NEXT_NEED_HI : Nat := 0x40008050
def PWR_NEED_LAT : Nat := 0x40008054
def PWR_KNOWN_LO : Nat := 0x40008058
def PWR_KNOWN_HI : Nat := 0x4000805C
def PWR_KNOWN_SRC : Nat := 0x40008060
def PWR_HOLDS : Nat := 0x40008064
def PWR_LATE : Nat := 0x40008068
def PWR_AWAKE : Nat := 0x4000806C
def PWR_RES (n : Nat) : Nat := 0x40008080 + 0x4 * n
def PWR_WAKE_CFG : Nat := 0x400080A0
def PWR_WAKE_CAUSE : Nat := 0x400080A4
def PWR_WAKE_LT_LO : Nat := 0x400080A8
def PWR_WAKE_LT_HI : Nat := 0x400080AC
def PWR_ZSP_CFG : Nat := 0x400080C0
def PWR_ZSP_CAN : Nat := 0x400080C4
def PWR_ZSP_ETH : Nat := 0x400080C8
def PWR_ZSP_ETHQ : Nat := 0x400080CC
def PWR_ZSP_DA_LO : Nat := 0x400080D0
def PWR_ZSP_DA_HI : Nat := 0x400080D4
def PWR_ZSP_CTRL : Nat := 0x400080D8
def PWR_ZSP_STAT : Nat := 0x400080DC
def PWR_ZSP_TC_LO : Nat := 0x400080E0
def PWR_ZSP_TC_HI : Nat := 0x400080E4
def PWR_ZSP_BLOCK_LO : Nat := 0x400080E8
def PWR_ZSP_BLOCK_HI : Nat := 0x400080EC
def CLK_STAT : Nat := 0x40009040
def CLK_LS_STARTS : Nat := 0x40009044
def ULF_CAP : Nat := 0x400C0040
def ULF_CTRL : Nat := 0x400C0044
def ULF_CMD : Nat := 0x400C0048
def ULF_STAT : Nat := 0x400C004C
def ULF_RX_LAST_LO : Nat := 0x400C0050
def ULF_RX_LAST_HI : Nat := 0x400C0054
def ULF_CREDITS : Nat := 0x400C0058
def ULF_OUT : Nat := 0x400C005C
def ULF_CRC_ERR : Nat := 0x400C0060
def ULF_REPLAYS : Nat := 0x400C0064
def ULF_RETRAINS : Nat := 0x400C0068
def ULF_NP_WAIT : Nat := 0x400C0070
def ULF_WF_DROP : Nat := 0x400C0074
def ULF_DOWNS : Nat := 0x400C006C
def ULF_TX_FLITS_LO : Nat := 0x400C0078
def ULF_TX_FLITS_HI : Nat := 0x400C007C
def ULF_RX_FLITS_LO : Nat := 0x400C0080
def ULF_RX_FLITS_HI : Nat := 0x400C0084
def ULF_LER_SEL : Nat := 0x400C0100
def ULF_LER : Nat := 0x400C0104
def ULF_LER_ADDR_LO : Nat := 0x400C0108
def ULF_LER_ADDR_HI : Nat := 0x400C010C
def ULF_LER_TIME_LO : Nat := 0x400C0110
def ULF_LER_TIME_HI : Nat := 0x400C0114
def ULF_LER_LOST : Nat := 0x400C0118
def ULF_LER_PEND : Nat := 0x400C011C
def ULF_LERQ (n : Nat) : Nat := 0x400C0180 + 0x4 * n
def PAIR_CFG : Nat := 0x400C1040
def PAIR_STAT : Nat := 0x400C1044
def PAIR_LEASE_AGE : Nat := 0x400C1048
def PAIR_BB_AGE : Nat := 0x400C104C
def PAIR_BB_PORTS : Nat := 0x400C1050
def PAIR_PMAC_LO : Nat := 0x400C1054
def PAIR_PMAC_HI : Nat := 0x400C1058
def PAIR_ACTIVE : Nat := 0x400C105C
def PAIR_PARTNER : Nat := 0x400C1060
def PAIR_CMD : Nat := 0x400C1064
def PAIR_CMD_STAT : Nat := 0x400C1068
def PAIR_LAST : Nat := 0x400C106C
def PAIR_LAST_LT_LO : Nat := 0x400C1070
def PAIR_LAST_LT_HI : Nat := 0x400C1074
def PAIR_TAKEOVERS : Nat := 0x400C1078
def PAIR_SPLITS : Nat := 0x400C107C
def PAIR_PC_SPLIT : Nat := 0x400C1080
def PAIR_HEART : Nat := 0x400C1084
def PAIR_PCFG (n : Nat) : Nat := 0x400C1100 + 0x4 * n
def PAIR_PSTAT (n : Nat) : Nat := 0x400C1180 + 0x4 * n
def SEC_STAT : Nat := 0x400D0040
def SEC_ARB_SEL : Nat := 0x400D0044
def SEC_ARB : Nat := 0x400D0048
def SEC_ATT_ADDR_LO : Nat := 0x400D004C
def SEC_ATT_ADDR_HI : Nat := 0x400D0050
def SEC_CMD : Nat := 0x400D0054
def SEC_CMD_STAT : Nat := 0x400D0058
def SEC_ATT_NONCE (n : Nat) : Nat := 0x400D0060 + 0x4 * n
def SEC_KDATA (n : Nat) : Nat := 0x400D0080 + 0x4 * n
def SEC_KSALT (n : Nat) : Nat := 0x400D00A0 + 0x4 * n
def SEC_KSSCI : Nat := 0x400D00AC
def SEC_KSCI_LO : Nat := 0x400D00B0
def SEC_KSCI_HI : Nat := 0x400D00B4
def SEC_KSLOTS0 : Nat := 0x400D00B8
def SEC_KSLOTS1 : Nat := 0x400D00BC
def SEC_KHASH (n : Nat) : Nat := 0x400D00C0 + 0x4 * n
def UPD_STAT : Nat := 0x400D1040
def UPD_CMD : Nat := 0x400D1044
def UPD_CMD_STAT : Nat := 0x400D1048
def UPD_MAN_ADDR_LO : Nat := 0x400D104C
def UPD_MAN_ADDR_HI : Nat := 0x400D1050
def UPD_SRC_LO : Nat := 0x400D1054
def UPD_SRC_HI : Nat := 0x400D1058
def UPD_STAGED_LO : Nat := 0x400D105C
def UPD_STAGED_HI : Nat := 0x400D1060
def UPD_NEED_LO : Nat := 0x400D1064
def UPD_NEED_HI : Nat := 0x400D1068
def UPD_ACT_REC : Nat := 0x400D106C
def UPD_PEER : Nat := 0x400D1070
def UPD_FAIL : Nat := 0x400D1074
def STOR_STAT : Nat := 0x400E1040
def STOR_CMD : Nat := 0x400E1044
def STOR_LBA : Nat := 0x400E1048
def STOR_ADDR_LO : Nat := 0x400E104C
def STOR_ADDR_HI : Nat := 0x400E1050
def STOR_CMD_STAT : Nat := 0x400E1054
def STOR_JCFG : Nat := 0x400E1058
def STOR_JPTR : Nat := 0x400E105C
def STOR_ERR : Nat := 0x400E1060

end Sys2Proof.Machine.R
end

