-- ==== Sys2Proof/Machine/TypesBoot.lean ====
section
/-! DEFINITION. The data of start-up, update, security and storage (spec/17). -/

namespace Sys2Proof.Machine

/-! ## Security unit -/

/-- SEC_CMD_STAT.RESULT (R429). -/
inductive SecResult where
  | none | done | refusedKey | keyBusy | badAddr | busy | refusedSlot | otpFail
  deriving DecidableEq, Repr

/-- A command the security unit is carrying out: a report, or the burn of a key hash. -/
inductive SecJob where
  | attest (addr lt : Nat)
  | burn (slot : Nat) (hash : List Byte)
  deriving DecidableEq, Repr

/-- A traffic key slot (R424). -/
structure TrafficKey where
  sak : List Byte
  salt : List Byte
  ssci : Nat
  sci : Nat
  deriving DecidableEq, Repr

/-- The security unit: `hashes`, `programmed`, `revoked` and `counters` are OTP.
DESIGN CHOICE: notes/assumptions/9.md. -/
structure Security where
  svcOpen : Bool := false
  ready : Bool := false
  job : Option SecJob := none
  slot : Nat := 0
  result : SecResult := .none
  hashes : KMap (List Byte) := []
  programmed : Word := 1
  revoked : Word := 0
  counters : KMap Nat := []
  keys : KMap TrafficKey := []
  nonce : Option (List Byte) := none
  fails : Nat := 0
  lockUntil : Option Nat := none
  deriving DecidableEq, Repr

/-! ## Update -/

/-- UPD_STAT.STATE (R414). -/
inductive UpdState where
  | idle | staging | pending | trial | booted | confirmed | abandoned
  deriving DecidableEq, Repr

/-- One copy of the activation record (R413); sets are false A, true B. DESIGN CHOICE: notes/assumptions/22.md. -/
structure ActRecord where
  actId : Nat := 0
  state : UpdState := .idle
  nextSet : Bool := false
  runSet : Bool := false
  tries : Nat := 0
  seq : Nat := 0
  deriving DecidableEq, Repr

/-- UPD_CMD_STAT.RESULT (R430). -/
inductive UpdResult where
  | none | accepted | refusedKey | refusedState | badManifest | notStaged | sealed
  deriving DecidableEq, Repr

/-- The UPD block: `manifests` by set, `parts` by set, kind and target.
DESIGN CHOICE: notes/assumptions/9.md. DESIGN CHOICE: notes/assumptions/22.md. -/
structure Update where
  copy0 : ActRecord := {}
  copy1 : ActRecord := { seq := 1 }
  manifests : KMap (List Byte) := []
  parts : KMap (List Byte) := []
  staged : Nat := 0
  need : Nat := 0
  copying : Option Nat := none
  result : UpdResult := .none
  peerId : Nat := 0
  peerState : Nat := 0
  peerValid : Bool := false
  failPart : Nat := 0
  failReason : Nat := 0
  retainOver : Bool := false
  /-- the trial began with a cold start -/
  cold : Bool := false
  deriving DecidableEq, Repr

/-! ## Storage -/

/-- STOR_CMD_STAT.RESULT (R431). -/
inductive StorResult where
  | none | done | refusedArea | media | busy | badAddr
  deriving DecidableEq, Repr

/-- A storage command in progress. -/
structure StorJob where
  write : Bool
  lba : Nat
  count : Nat
  addr : Nat
  deriving DecidableEq, Repr

/-- The UFS devices, by byte address, and the STOR block. DESIGN CHOICE: notes/assumptions/9.md. -/
structure Storage where
  ufs : KMap Byte := []
  job : Option StorJob := none
  result : StorResult := .none
  index : Nat := 0
  wrapped : Bool := false
  deriving DecidableEq, Repr

end Sys2Proof.Machine
end

