-- ==== Sys2Proof/Machine/TypesDma.lean ====
section
/-! DEFINITION. The data of the DMA engine (spec/10). -/

namespace Sys2Proof.Machine

/-- DMA_STAT.STATE (R234). -/
inductive DmaState where
  | off | idle | running | waiting | paused | halted | fault
  deriving DecidableEq, Repr

/-- DMA_STAT.FAULT (R252). -/
inductive DmaCause where
  | none | badOpcode | badWidth | badLength | busError | queueRefused | pcRange | ringInvalid | ecc | trigRefused
  deriving DecidableEq, Repr

/-- The result of a MOVE or a ring step (R249). -/
inductive MoveResult where
  | ok | trunc | aged | destDropped
  deriving DecidableEq, Repr

/-- A MOVE or ring step in progress (R236 to R243): its words, the descriptor's address for a ring step, where its operands
began, the bytes it is to move and those it has moved, and the bytes of the holding register. -/
structure DmaMove where
  w0 : Word
  w1 : Word
  w2 : Word
  w3 : Word
  desc : Option Nat := none
  src : Nat
  dst : Nat
  len : Nat
  done : Nat := 0
  written : Nat := 0
  hold : List Byte := []
  gap : Nat := 0
  trunc : Bool := false
  err : Bool := false
  dropped : Bool := false
  /-- a burst that reads the partner page view: the source bytes at which it ends, its colour, and the TAG of the read it
  waits for -/
  upto : Nat := 0
  colour : Option Bool := none
  wait : Option Nat := none
  deriving DecidableEq, Repr

/-- A completed ring step whose descriptor is still to be written back (R249). -/
structure WriteBack where
  desc : Nat
  word0 : Word
  bytes : Nat
  result : MoveResult
  deriving DecidableEq, Repr

/-- One channel (R234, R255). -/
structure DmaChan where
  state : DmaState := .idle
  pc : Nat := 0
  curS : Nat := 0
  curD : Nat := 0
  lc0 : Nat := 0
  lc1 : Nat := 0
  pace : Bool := false
  trig : Bool := false
  squashed : Bool := false
  refused : Bool := false
  removing : Bool := false
  cause : DmaCause := .none
  faultAddr : Nat := 0
  ringIdx : Nat := 0
  /-- descriptors carried out by the RING in progress -/
  ringDone : Nat := 0
  /-- descriptors prefetched and not begun (R248) -/
  prefetch : Nat := 0
  /-- STOP has been written -/
  stop : Bool := false
  waitSince : Nat := 0
  /-- the empty source queue a MOVE or ring step waits for -/
  waitQ : Option Nat := none
  move : Option DmaMove := none
  back : Option WriteBack := none
  /-- mirrored writes have been issued since the last FENCE (R374) -/
  mirrored : Bool := false
  /-- a FENCE, or a HALT that waits as one: not yet sent to the partner, or its acknowledgement -/
  fencing : Bool := false
  /-- the FENCE_ACK of the fence has arrived -/
  acked : Bool := false
  /-- a SIGNAL is being carried out (R253) -/
  signalling : Bool := false
  lastGap : Nat := 0
  lastResult : MoveResult := .ok
  bytes : Nat := 0
  deriving DecidableEq, Repr

/-- The DMA engine. -/
structure Dma where
  chans : KMap DmaChan := []
  /-- the round-robin pointer of each priority: the channel looked at first (R250) -/
  turns : KMap Nat := []
  deriving DecidableEq, Repr

end Sys2Proof.Machine
end

