-- ==== Sys2Proof/Machine/TypesGw.lean ====
section
/-! DEFINITION. The data of the signal gateway and of the J1939 transport engine (spec/11). -/

namespace Sys2Proof.Machine

/-- An ACF message of a container frame (R273, R274). -/
inductive AcfMsg where
  | can (bus : Nat) (frame : CanFrame) (brief : Bool)
  | lin (bus fid : Nat) (data : List Byte)
  deriving DecidableEq, Repr

/-- One source event (R256, R257). DESIGN CHOICE: notes/assumptions/43.md. -/
structure GwEvent where
  kind : Nat
  ch : Nat := 0
  keyId : Nat := 0
  /-- the source number of a direct source -/
  direct : Option Nat := none
  data : List Byte := []
  stamp : Nat := 0
  /-- LOCAL_TIME of the offer -/
  offered : Nat := 0
  frame : Option CanFrame := none
  acf : Option AcfMsg := none
  /-- the group whose owner owns a re-entered or tunnelled event -/
  group : Nat := 0
  deriving DecidableEq, Repr

/-- One route job (R266): the route entry, the source entry, and the generation and owner of its admission. -/
structure RouteJob where
  event : GwEvent
  source : Nat
  entry : Nat
  colour : Bool
  owner : Nat
  /-- group of the source entry -/
  group : Nat
  /-- what the partition table of its admission gave: the route's group and its sink belong to `owner` (R263) -/
  rights : Bool := true
  /-- the first route job of its event -/
  first : Bool := true
  deriving DecidableEq, Repr

/-- Why a route or an event is dropped: GW_LAST_DROP.REASON (R288). -/
inductive GwDrop where
  | admitFull | pageState | rights | cfg | length | sinkState | queue | chain | ecc | unknown
  deriving DecidableEq, Repr

/-- An open container frame (R273): the values with which it opened, its messages, and the jobs it carries. -/
structure OpenFrame where
  cfg : Word
  batch : Word
  da : Nat
  sid : Nat
  sa : Nat
  etype : Nat
  opened : Nat
  body : List Byte := []
  jobs : List RouteJob := []
  deriving DecidableEq, Repr

/-- One container (R273, R289). DESIGN CHOICE: notes/assumptions/8.md. -/
structure Container where
  open' : Option OpenFrame := none
  seq : Nat := 0
  /-- a receive container has accepted a frame -/
  seen : Bool := false
  deriving DecidableEq, Repr

/-- The signal gateway. -/
structure Gateway where
  queue : List GwEvent := []
  jobs : List RouteJob := []
  slots : KMap Word := []
  containers : KMap Container := []
  draining : List Nat := []
  lastReason : Option GwDrop := none
  lastEntry : Nat := 0
  deriving DecidableEq, Repr

/-- TPE_SESS.STATE (R290). -/
inductive SessState where
  | free | receiving | sending | held | awaiting
  deriving DecidableEq, Repr

/-- TPE_SESS.MODE (R278). -/
inductive TpMode where
  | bam | rts | etp
  deriving DecidableEq, Repr

/-- A frame that a session has to send next. -/
inductive TpSend where
  | none
  /-- the opening BAM or RTS -/
  | start
  | dpo
  /-- data packet -/
  | data
  | cts (count next : Nat)
  | eoma
  deriving DecidableEq, Repr

/-- A timer of R280. -/
inductive TpTimer where
  | none | t1 | t2 | t3 | t4
  deriving DecidableEq, Repr

/-- One session slot (R277 to R282): `own` is the module's own address. -/
structure Session where
  state : SessState := .free
  mode : TpMode := .bam
  tx : Bool := false
  ch : Nat := 0
  own : Nat := 0
  peer : Nat := 0
  pgn : Nat := 0
  prio : Nat := 6
  size : Nat := 0
  /-- next packet to send or expected, 1 upward -/
  next : Nat := 1
  /-- last packet of the window granted by a CTS -/
  window : Nat := 0
  /-- highest packet sent so far -/
  sent : Nat := 0
  retries : Nat := 0
  /-- most packets per CTS that the peer allows -/
  peerMax : Nat := 255
  send : TpSend := .none
  timer : TpTimer := .none
  since : Nat := 0
  /-- the next data packet may be requested from this time -/
  gapUntil : Option Nat := none
  stamp : Nat := 0
  reason : Nat := 0
  /-- a frame has been sent or received -/
  started : Bool := false
  /-- packet offset announced by the last ETP.DPO -/
  dpo : Nat := 0
  part : Nat := 0
  deriving DecidableEq, Repr

/-- The frame in a channel's transmit buffer: the session it belongs to, while that lives, and what it is. -/
structure TpFlight where
  sess : Option Nat
  what : TpSend
  deriving DecidableEq, Repr

/-- The transport engine: `extra` are abort frames owed to peers, by channel. -/
structure Tpe where
  sessions : KMap Session := []
  extra : List (Nat × CanFrame) := []
  /-- the frame in the transmit buffer of each channel -/
  flight : KMap TpFlight := []
  lastAbort : Word := 0
  lastPgn : Nat := 0
  deriving DecidableEq, Repr

end Sys2Proof.Machine
end

