-- ==== Sys2Proof/Machine/TypesInput.lean ====
section
/-! DEFINITION. The data of the sensing inputs and sensor supplies (spec/06). -/

namespace Sys2Proof.Machine

/-- One analog input (R129 to R132): `y` carries 8 fractional bits. -/
structure Ain where
  y : Nat := 0
  /-- the next sample loads y -/
  fresh : Bool := true
  value : Nat := 0
  stale : Bool := true
  overload : Bool := false
  loopFault : Bool := false
  above : Bool := false
  below : Bool := false
  /-- consecutive samples outside and inside the loop limits -/
  badRun : Nat := 0
  goodRun : Nat := 0
  /-- the burden is disconnected since -/
  burdenOff : Option Nat := none
  /-- the input's timer runs from here; none: from its next sample -/
  timer : Option Nat := none
  /-- the period with the next sample begins here -/
  due : Nat := 0
  deriving DecidableEq, Repr

/-- One digital input (R133 to R135). -/
structure Din where
  state : Bool := false
  reading : Bool := false
  count : Nat := 0
  /-- the next poll loads the state -/
  load : Bool := false
  edge : Bool := false
  /-- the instant at which EDGE was last set -/
  edgeAt : Option Nat := none
  /-- the polls are timed from here; none: from the next one -/
  timer : Option Nat := none
  /-- the period with the next poll begins here -/
  due : Nat := 0
  deriving DecidableEq, Repr

/-- One frequency input (R136). -/
structure Fin' where
  /-- first and last rising edge of the gate, and the edges in it -/
  first : Option Nat := none
  last : Option Nat := none
  edges : Nat := 0
  /-- high time of the complete periods of the gate -/
  high : Nat := 0
  /-- the last rising edge, and whether one has arrived since the last stall; before the first, the start of measuring -/
  lastEdge : Nat := 0
  running : Bool := false
  /-- the gate in progress began here -/
  gateAt : Nat := 0
  freq : Nat := 0
  duty : Nat := 0
  stalled : Bool := false
  overrange : Bool := false
  count : Nat := 0
  deriving DecidableEq, Repr

/-- One sensor supply (R137). -/
structure Ssup where
  on : Bool := false
  fault : Bool := false
  undervolt : Bool := false
  backfed : Bool := false
  overload : Bool := false
  since : Nat := 0
  deriving DecidableEq, Repr

/-- One wake input (R138). -/
structure Win where
  level : Bool := false
  woke : Bool := false
  deriving DecidableEq, Repr

/-- Every input and supply. -/
structure Inputs where
  ain : KMap Ain := []
  din : KMap Din := []
  fin : KMap Fin' := []
  ssup : KMap Ssup := []
  win : KMap Win := []
  deriving DecidableEq, Repr

end Sys2Proof.Machine
end

