-- ==== Sys2Proof/Machine/TypesLoad.lean ====
section
/-! DEFINITION. The data of the load stage: channels, banks, feeds, pulse generators, leases, load identity and the
ledger's counters (spec/03, 04, 05). -/

namespace Sys2Proof.Machine

/-- LSC_STATUS.STATE (R85). -/
inductive ChState where
  | off | on | pwm | inrush | retryWait | tripped | uvHeld | leaseSafe | backfed
  deriving DecidableEq, Repr

/-- Mode of an effective command (R86). -/
inductive CmdMode where
  | off | on | pwm
  deriving DecidableEq, Repr

/-- An effective command: OFF, ON, or PWM at a duty and a phase, both in 0.1 % (R86). -/
structure Cmd where
  mode : CmdMode := .off
  duty : Nat := 0
  phase : Nat := 0
  deriving DecidableEq, Repr

/-- LSC_LEASE_STAT.STATE (R97). -/
inductive LeaseState where
  | idle | running | expired
  deriving DecidableEq, Repr

/-- LSC_ID_STATUS.TAG_STATE (R126). -/
inductive TagState where
  | disabled | idle | busy | tagged | noTag | crcError | lowImpedance | aborted
  deriving DecidableEq, Repr

/-- LSC_ID_STATUS.MATCH (R126). -/
inductive MatchState where
  | unknown | same | mismatch | replaced
  deriving DecidableEq, Repr

/-- A renewal written and not yet taken at a 32.768 kHz edge (R99). -/
structure Renewal where
  at_ : Nat
  src : Nat
  rearm : Bool
  deriving DecidableEq, Repr

/-- Counts a channel gathers between two updates of its ledger record (R119, R122). -/
structure Accum where
  samples : Nat := 0
  closings : Nat := 0
  energyMj : Nat := 0
  peakMa : Nat := 0
  /-- highest LSC_TJ while the load was fed -/
  tjMax : Option Int := none
  olOnsets : Nat := 0
  /-- trips for causes 1, 2, 3, 4, 6, 7, 8 and 9, in that order -/
  byCause : List Nat := [0, 0, 0, 0, 0, 0, 0, 0]
  trips : Nat := 0
  deriving DecidableEq, Repr

/-- One output channel. DESIGN CHOICE: notes/assumptions/8.md. -/
structure Chan where
  st : ChState := .off
  cause : Nat := 0
  also : Nat := 0
  lockout : Bool := false
  ackRefused : Bool := false
  closeWait : Bool := false
  tjWarn : Bool := false
  wireWarn : Bool := false
  olOn : Bool := false
  olOff : Bool := false
  /-- LOCAL_TIME of the last write of CAUSE -/
  tripTime : Nat := 0
  /-- the state in which the last trip or hold found the channel (R81) -/
  tripFrom : ChState := .off
  /-- counted and exempt current-limit trips of the current or last inrush (R67, R68) -/
  used : Nat := 0
  exempt : Nat := 0
  /-- start of the current burst, or of the pause of RETRY_WAIT -/
  burstAt : Nat := 0
  /-- times of the short-circuit trips of the last 60 s (R61) -/
  scTrips : List Nat := []
  /-- wire-model temperature rise in units of 2^-24 K (R62) -/
  rise : Nat := 0
  /-- run of on-state open-load comparisons (R71): how many, and on which side -/
  olRun : Nat := 0
  olBelow : Bool := false
  /-- the off-state open-load check is driving its current (R72) -/
  olCheck : Bool := false
  lease : LeaseState := .idle
  left : Nat := 0
  lastSrc : Nat := 0
  renewRefused : Bool := false
  renewals : List Renewal := []
  gwValid : Bool := false
  gwWrites : Nat := 0
  gwValue : Nat := 0
  /-- the safe command in force while the lease is EXPIRED (R100) -/
  safeCmd : Cmd := {}
  /-- the command the output follows now -/
  out : Cmd := {}
  /-- a safe PWM that waits for its period boundary (R100) -/
  safePending : Bool := false
  /-- the generator whose boundaries the channel follows (R95) -/
  pgen : Nat := 0
  /-- pulses as (first, end) cycle numbers of the load-stage clock (R93) -/
  pulses : List (Nat × Nat) := []
  /-- the PWM output conducts now -/
  pulseOn : Bool := false
  -- load identity (spec/05)
  limited : Bool := false
  tagState : TagState := .disabled
  matchSt : MatchState := .unknown
  mismatchRun : Nat := 0
  /-- within the current measurement: a value was compared, a value differed -/
  compared : Bool := false
  differed : Bool := false
  /-- the values taken so far, by kind: 0 cold resistance, 1 peak ratio, 2 settle time, 3 decay (R117) -/
  taken : List (Nat × Nat) := []
  /-- the measurement decided a replacement: its values become the reference (R118) -/
  refFill : Bool := false
  /-- a trigger of R112 waits -/
  tagPending : Bool := false
  tagAttempts : Nat := 0
  /-- start of the running attempt, or of the pause before a retry -/
  tagAt : Nat := 0
  tagRetry : Bool := false
  lastInterrog : Nat := 0
  /-- the request frame of the running attempt (R114) -/
  tagTx : List Byte := []
  /-- LOCAL_TIME at which the channel last conducted; 0 if it never has -/
  lastConduct : Nat := 0
  closedAt : Nat := 0
  /-- the cold resistance of the last closing is to be taken: 60 s without conduction before it (R111) -/
  coldDue : Bool := false
  /-- the peak ratio and settle time of the last closing are being measured: model steps since, largest current (R111) -/
  sigOpen : Bool := false
  sigSteps : Nat := 0
  sigPeak : Nat := 0
  /-- the last opening was one from ON or PWM and no trip: its decay is to be taken (R111) -/
  decayDue : Bool := false
  /-- the reference signature holds no decay: the measurement it was taken from had none (R117) -/
  noDecayRef : Bool := false
  /-- the running measurement began before LEDG_CMD.START: its values are not compared (R122) -/
  skipMeasure : Bool := false
  /-- CLOSE_REASON of a replacement that the keeper has yet to be told (R124) -/
  peerReplaced : Nat := 0
  /-- counts since the last ledger update (R119) -/
  acc : Accum := {}
  /-- fed samples of a shared load by SYNC_TIME step, newest first (R124) -/
  stepFed : List (Nat × Nat) := []
  /-- the last step combined with the partner's, and whether the load was fed in it (R124) -/
  fedStep : Nat := 0
  fedBefore : Bool := false
  /-- counts of the outage while the pair link was down (R124) -/
  outage : Accum := {}
  deriving DecidableEq, Repr

/-- One bank. -/
structure Bank where
  /-- latest sample of the bank voltage in mV -/
  vnow : Option Nat := none
  uv : Bool := false
  /-- start of the settle timer (R70) -/
  settling : Option Nat := none
  stagger : Bool := false
  restarted : List Nat := []
  lastStep : Nat := 0
  /-- end of the short-circuit window (R68) -/
  scWindow : Option Nat := none
  above : Bool := false
  timer : Nat := 0
  shedding : Bool := false
  shedLevel : Nat := 0
  okSteps : Nat := 0
  /-- a running interrogation (R112) -/
  interrog : Option Nat := none
  deriving DecidableEq, Repr

/-- One feed (R77, R79). -/
structure Feed where
  above : Bool := false
  timer : Nat := 0
  shedding : Bool := false
  shedLevel : Nat := 0
  okSteps : Nat := 0
  restoring : Bool := false
  lastRestore : Nat := 0
  /-- the channels the running restore has still to restore -/
  todo : List Nat := []
  deriving DecidableEq, Repr

/-- One pulse generator (R92 to R96): `cycle` is the cycle number of its last boundary, `period` the period in force. -/
structure Pgen where
  cycle : Nat := 0
  period : Nat := 20972
  dirty : Bool := false
  start : Nat := 0
  deriving DecidableEq, Repr

/-- The load stage. -/
structure LoadStage where
  chans : KMap Chan := []
  banks : KMap Bank := []
  feeds : KMap Feed := []
  pgens : KMap Pgen := []
  clockOn : Bool := false
  clockAt : Nat := 0
  /-- a commit that must start the stopped clock, since (R59) -/
  startOwed : Option Nat := none
  /-- values of LSC, LSB and PGEN registers before the last commit, and its LOCAL_TIME (R59) -/
  cfgBefore : KMap Word := []
  cfgAt : Nat := 0
  /-- the two firmware banks, the one switched to, whether the spare one holds a part that a start has passed, and the
  LOCAL_TIME of the last switch (R419) -/
  fw : KMap (List Byte) := []
  fwBank : Bool := false
  fwReady : Bool := false
  fwAt : Option Nat := none
  /-- last instant at which a channel needed the clock -/
  neededAt : Nat := 0
  /-- model steps since the clock started -/
  steps : Nat := 0
  /-- start of the latest slot of the off-state open-load check (R72) -/
  olAt : Nat := 0
  /-- number of the last lease tick counted (R97) -/
  leaseTick : Nat := 0
  -- ledger (spec/05)
  ledgRun : Bool := false
  ledgRestore : Bool := true
  ledgSeq : Nat := 0
  histCount : Nat := 0
  histNext : Nat := 128
  loadNo : Nat := 0
  dirtyRecs : List Nat := []
  lastJournal : Nat := 0
  /-- model step of the last update of the records (R119) -/
  ledgAt : Nat := 0
  /-- SYNC_TIME second of the last counts sent to the keeper, and the counts sent then (R124) -/
  peerSecond : Nat := 0
  peerOut : List PeerCounts := []
  deriving DecidableEq, Repr

end Sys2Proof.Machine
end

