-- ==== Sys2Proof/Machine/TypesPair.lean ====
section
/-! DEFINITION. The data of the Uloft link and of the redundant pair (spec/15, spec/16). -/

namespace Sys2Proof.Machine

/-! ## The Uloft link -/

/-- ULF_STAT.STATE (R356). -/
inductive LinkState where
  | disabled | down | train | param | up | retrain
  deriving DecidableEq, Repr

/-- The ordering classes (R364). -/
inductive UlfClass where
  | clsP | clsNp | clsC | clsT | clsPr
  deriving DecidableEq, Repr

/-- One flit: its header fields and its payload (R359); `need` is the credit its head takes before it may be sent. -/
structure Flit where
  type : Nat
  tag : Nat := 0
  payload : List Byte := []
  need : Nat := 0
  deriving DecidableEq, Repr

/-- A sent flit in the replay buffer (R362). -/
structure SentFlit where
  seq : Nat
  flit : Flit
  sends : Nat := 1
  deriving DecidableEq, Repr

/-- The open request of the combiner (R367). -/
structure Combined where
  part : Nat
  req : Nat
  addr : Nat
  data : List Byte
  deriving DecidableEq, Repr

/-- A partner-view read that waits for its completion (R370). -/
structure ViewRead where
  tag : Nat
  part : Nat
  req : Nat
  addr : Nat
  since : Nat
  /-- the DMA channel whose burst waits for it -/
  chan : Option Nat := none
  deriving DecidableEq, Repr

/-- A fence of a DMA channel (R374). -/
structure FenceOut where
  tag : Nat
  part : Nat
  chan : Nat
  deriving DecidableEq, Repr

/-- A posted write not yet covered by a FENCE_ACK, or a fence among them (R357). -/
structure Posted where
  tag : Nat
  part : Nat
  addr : Nat
  fence : Bool
  deriving DecidableEq, Repr

/-- One entry of a late-error record (R375). -/
structure LateError where
  addr : Nat
  tag : Nat
  time : Nat
  cause : Nat
  deriving DecidableEq, Repr

/-- A request or a frame received in part (R368, R372). -/
structure PartRx where
  tag : Nat
  word : Nat
  stamp : Nat
  want : Nat
  data : List Byte
  deriving DecidableEq, Repr

/-- A completion that has arrived (R370). -/
structure CplRx where
  tag : Nat
  status : Nat
  data : Nat
  deriving DecidableEq, Repr

/-- A pair message (R386). -/
structure PairMsg where
  kind : Nat
  flags : Nat := 0
  part : Nat := 0
  reason : Nat := 0
  word0 : Nat := 0
  word1 : Nat := 0
  word2 : Nat := 0
  time : Nat := 0
  deriving DecidableEq, Repr

/-- The Uloft link. DESIGN CHOICE: notes/assumptions/8.md. -/
structure Ulf where
  state : LinkState := .disabled
  since : Nat := 0
  lock : Nat := 0
  idConflict : Bool := false
  modeMismatch : Bool := false
  /-- no attempt before this LOCAL_TIME (R356) -/
  holdoff : Nat := 0
  /-- SEQ of the last sequenced flit sent, and of the last accepted -/
  seq : Nat := 0
  ack : Nat := 0
  nak : Bool := false
  nakSince : Nat := 0
  replay : List SentFlit := []
  /-- flits that wait to be sent, by class -/
  waitP : List Flit := []
  waitNp : List Flit := []
  waitC : List Flit := []
  waitT : List Flit := []
  waitPr : List Flit := []
  /-- the class whose turn it is among P, NP and T -/
  turn : Nat := 0
  credP : Nat := 0
  credNp : Nat := 0
  credC : Nat := 0
  credT : Nat := 0
  credPr : Nat := 0
  tag : Nat := 0
  comb : Option Combined := none
  combAt : Nat := 0
  reads : List ViewRead := []
  fences : List FenceOut := []
  fenceWait : List FenceOut := []
  posted : List Posted := []
  rxP : Option PartRx := none
  rxT : Option PartRx := none
  /-- fences received and not yet acknowledged -/
  fencesIn : List (Nat × Nat) := []
  /-- write faults dropped since the last acknowledgement, by partition (R377) -/
  wfLost : KMap Nat := []
  cplIn : List CplRx := []
  msgs : List PairMsg := []
  lers : KMap (List LateError) := []
  lerLost : KMap Nat := []
  lastGood : Nat := 0
  downs : Nat := 0
  txFlits : Nat := 0
  rxFlits : Nat := 0
  deriving DecidableEq, Repr

/-! ## The pair -/

/-- Role of this unit for a partition (R380). -/
inductive Role where
  | none | joining | standby | active | solo
  deriving DecidableEq, Repr

/-- Causes of a role change (R404). -/
inductive RoleCause where
  | none | release | fast | slow | elect | yield | handover | synced
  deriving DecidableEq, Repr

/-- PAIR_CMD_STAT.RESULT (R404). -/
inductive PairResult where
  | none | accepted | refusedKey | refusedState | paused | done
  deriving DecidableEq, Repr

/-- A resynchronisation in progress (R399). -/
inductive SyncPhase where
  /-- the next byte address to send, and those of the regions still to come -/
  | memory (ranges : List (Nat × Nat))
  | tables
  deriving DecidableEq, Repr

/-- A handover in progress (R400): RELEASE has been sent, or not yet. -/
structure Handover where
  part : Nat
  released : Bool := false
  deriving DecidableEq, Repr

/-- What the pair controller holds for one partition. -/
structure PairPart where
  role : Role := .none
  claimed : Bool := false
  diverged : Bool := false
  heart : Option Nat := none
  /-- consecutive leases that showed the partner ACTIVE and not HEALTHY (R387) -/
  sick : Nat := 0
  /-- this unit has shown the partition as not HEALTHY, or has sent RELEASE (R389) -/
  offered : Bool := false
  /-- mirrored staged words sent, accepted and refused since the last commit or discard (R396) -/
  sent : Nat := 0
  accepted : Nat := 0
  refused : Nat := 0
  /-- a split has been decided and the partner has not been seen to yield (R390) -/
  split : Bool := false
  deriving DecidableEq, Repr

/-- The pair controller. -/
structure Pair where
  parts : KMap PairPart := []
  contact : Bool := false
  /-- a HELLO has been sent since contact last ended -/
  greeted : Bool := false
  /-- a lease has been accepted since contact began -/
  leased : Bool := false
  mismatch : Bool := false
  left : Bool := false
  leaving : Bool := false
  byeSeen : Bool := false
  authIn : Bool := false
  authFault : Bool := false
  leaseAt : Option Nat := none
  bbAt : Option Nat := none
  /-- masks of the partner's last lease -/
  pActive : Word := 0
  pHealthy : Word := 0
  pSynced : Word := 0
  pClaimed : Word := 0
  pSleep : Bool := false
  cmdTarget : Nat := 0
  cmdResult : PairResult := .none
  lastRole : Role := .none
  lastCause : RoleCause := .none
  lastPart : Nat := 0
  lastLt : Nat := 0
  sync : Option (Nat × SyncPhase) := none
  handover : Option Handover := none
  /-- FAST and SLOW claims are suspended until this LOCAL_TIME (R402) -/
  suspend : Option Nat := none
  deriving DecidableEq, Repr

end Sys2Proof.Machine
end

