-- ==== Sys2Proof/Machine/State.lean ====
section
/-! DEFINITION. The state of the module, its faults and refusals, and the state after reset. -/

namespace Sys2Proof.Machine

/-- Ordering variant (spec/00). -/
inductive Variant where
  | lq | cd
  deriving DecidableEq, Repr

/-- What is built into the module or strapped at its connector. DESIGN CHOICE: notes/assumptions/6.md. -/
structure Hardware where
  variant : Variant := .lq
  /-- strapped for pair operation (R442) -/
  paired : Bool := false
  /-- the unit number of the PAIR_ID strap -/
  unitId : Nat := 0
  deriving DecidableEq, Repr

/-- The state. -/
structure State where
  hw : Hardware := {}
  clk : Clock := {}
  regs : KMap Word := []
  staged : KMap Word := []
  held : KMap Word := []
  /-- held read-to-clear counts whose held value has been subtracted from the live count (R32) -/
  heldRead : List Nat := []
  pages : KMap Page := []
  coh : Coh := {}
  sw : GenSet := {}
  gwSet : GenSet := {}
  pt : GenSet := {}
  log : List LogEntry := []
  regions : KMap Region := []
  viol : List Violation := []
  violLost : Nat := 0
  ifiles : KMap (List Nat) := []
  resp : Resp := .none
  parts : Parts := {}
  dramc : Dramc := {}
  mem : List Host.Cell := []
  load : LoadStage := {}
  pool : Pool := {}
  eth : Switch := {}
  buses : Buses := {}
  inputs : Inputs := {}
  gway : Gateway := {}
  tpe : Tpe := {}
  dma : Dma := {}
  ulf : Ulf := {}
  pair : Pair := {}
  pwr : Power := {}
  sec : Security := {}
  upd : Update := {}
  stor : Storage := {}
  free : Nat := 0
  pending : List Instr := []
  deriving DecidableEq, Repr

/-- No command stops the machine with a fault: a refused access completes with a bus error, which is a next state. -/
inductive Fault where
  deriving DecidableEq, Repr

/-- Reasons for which a command has no meaning here. -/
inductive Refusal where
  /-- the command's meaning has not been written; raised by an arm of `exec` alone (safe) -/
  | notModelled (mnemonic : String)
  deriving DecidableEq, Repr

/-- The state after reset: every block at its power-on reset values, partition 0 RUNNING on pair 0 (R329, R411).
DESIGN CHOICE: notes/assumptions/8.md. DEDUCED: notes/assumptions/58.md. -/
def State.reset : State :=
  { parts := { table := [(0, { state := .running })], current := [(8, (0, 0))] } }

end Sys2Proof.Machine
end

