-- ==== Sys2Proof/Machine/Ops.lean ====
section
/-! DEFINITION. The named operations over registers, pages, tables, ownership, events, interrupt files, violations and
memory, which every meaning is written with. -/

namespace Sys2Proof.Machine

/-! ## Registers (R5) -/

/-- The active value of the register at a lower-half address. -/
def State.reg (s : State) (addr : Nat) : Word := (KMap.get? s.regs addr).getD (regReset addr)

/-- `s` with the active value of one register replaced. -/
def State.setReg (s : State) (addr : Nat) (w : Word) : State :=
  { s with regs := KMap.set s.regs (regReset addr) addr w }

/-- A field of a register. -/
def State.regF (s : State) (addr hi lo : Nat) : Nat := fld (s.reg addr) hi lo

/-- One bit of a register. -/
def State.regB (s : State) (addr k : Nat) : Bool := bit (s.reg addr) k

/-- `s` with one field of a register replaced. -/
def State.putF (s : State) (addr hi lo v : Nat) : State := s.setReg addr (setFld (s.reg addr) hi lo v)

/-- `s` with a saturating field of a register raised by `n`. -/
def State.addF (s : State) (addr hi lo n : Nat) : State :=
  s.putF addr hi lo (satAdd (hi - lo + 1) (s.regF addr hi lo) n)

/-- `s` with a 64-bit value in a low and a high register (R3). -/
def State.setPair (s : State) (lo hi v : Nat) : State := (s.setReg lo (lowWord v)).setReg hi (highWord v)

/-- The 64-bit value of a low and a high register (R3). -/
def State.regPair (s : State) (lo hi : Nat) : Nat := pairVal (s.reg lo) (s.reg hi)

/-- The staged value of a register: its active value where nothing is staged (R8). -/
def State.stagedReg (s : State) (addr : Nat) : Word := (KMap.get? s.staged addr).getD (s.reg addr)

/-! ## Pages (R39, R40) -/

def State.page (s : State) (idx : Nat) : Page := KMap.get s.pages {} idx

def State.setPage (s : State) (idx : Nat) (p : Page) : State := { s with pages := KMap.put s.pages idx p }

def State.updPage (s : State) (idx : Nat) (f : Page → Page) : State := s.setPage idx (f (s.page idx))

/-- Whether a page accepts new work: it is ACTIVE (R47). -/
def State.pageActive (s : State) (idx : Nat) : Bool := (s.page idx).mode == .active

/-- The number of instances a page type has, and where it begins, by page index. -/
def pageResettable (idx : Nat) : Bool := ((pageRowOf idx).map (·.resettable)).getD false

/-- Number of ST registers of a page that hold a staged value (STAGE_DIRTY.COUNT, R9). -/
def State.stageCount (s : State) (idx : Nat) : Nat :=
  (s.staged.filter (fun x => pageAt x.1 == some idx)).length

/-! ## Generation table sets and their partition table (R12 to R18, R315 to R317) -/

/-- The copy in use for new admissions. -/
def GenSet.active (g : GenSet) : KMap Word := if g.colour then g.copy1 else g.copy0

/-- The other copy. -/
def GenSet.otherMap (g : GenSet) : KMap Word := if g.colour then g.copy0 else g.copy1

/-- The copy a stamped item consults (R27). -/
def GenSet.copyOf (g : GenSet) (colour : Bool) : KMap Word := if colour then g.copy1 else g.copy0

/-- The set with its other copy replaced. -/
def GenSet.setOther (g : GenSet) (m : KMap Word) : GenSet :=
  if g.colour then { g with copy0 := m } else { g with copy1 := m }

def State.setOf (s : State) : SetId → GenSet
  | .sw => s.sw
  | .gw => s.gwSet
  | .part => s.pt

def State.putSet (s : State) (i : SetId) (g : GenSet) : State :=
  match i with
  | .sw => { s with sw := g }
  | .gw => { s with gwSet := g }
  | .part => { s with pt := g }

/-- Stage log entries of one set, oldest first. -/
def State.logOf (s : State) (i : SetId) : List LogEntry := s.log.filter (fun e => e.set == i)

/-- A word of a table copy. -/
def tabWord (m : KMap Word) (addr : Nat) : Word := KMap.get m 0 addr

/-- A word of partition `p`'s entry in a copy of the partition table (R315). -/
def ptWord (m : KMap Word) (p off : Nat) : Word := tabWord m (0x30600000 + 0x800 * p + off)

/-- PT_CTRL.EN, which partition 0 does not need (R315). -/
def ptEn (m : KMap Word) (p : Nat) : Bool := p == 0 || bit (ptWord m p 0) 31

/-- PT_CORES.CORES (R315). -/
def ptCores (m : KMap Word) (p : Nat) : Word := word (fld (ptWord m p 4) 7 0)

/-- Whether a partition of a list hosts core `c` (R312). -/
def ptHosts (m : KMap Word) (c p : Nat) : Bool := 4 ≤ p && bit (ptCores m p) c

/-- The conditions of R317 on partition `p`, given the valid partitions below it. -/
def ptEntryOk (m : KMap Word) (valid : List Nat) (p : Nat) : Bool :=
  if p < 4 then true
  else
    ptCores m p != 0 && bit (ptCores m p) (fld (ptWord m p 8) 2 0) &&
    (bitsOf (ptCores m p) 8).all (fun c => (valid.filter (ptHosts m c)).length < 7)

/-- The enabled, valid partitions of a partition table, ascending (R316, R317). -/
def ptValid (m : KMap Word) : List Nat :=
  (List.range 32).foldl (fun l p => if ptEn m p && ptEntryOk m l p then l ++ [p] else l) []

/-- The partitions whose entry is enabled and invalid (R317). -/
def ptInvalid (m : KMap Word) : List Nat :=
  (List.range 32).filter (fun p => ptEn m p && !(ptValid m).contains p)

/-- The enabled partitions 1 to 31 that claim resource `k` of the bitmap at `off`, ascending (R316). -/
def ptClaims (m : KMap Word) (off k : Nat) : List Nat :=
  (ptValid m).filter (fun p => 0 < p && bit (ptWord m p (off + 4 * (k / 32))) (k % 32))

/-- Whether a page is locked to partition 0 (R41). -/
def pageLocked (idx : Nat) : Bool := ((pageRowOf idx).map (·.locked)).getD true

/-- The owner of a page under a partition table (R316, R41). -/
def ownerOfPage (m : KMap Word) (idx : Nat) : Nat :=
  if pageLocked idx then 0 else (ptClaims m 0x40 idx).headD 0

/-- The owner of a route group under a partition table (R316). -/
def ownerOfGroup (m : KMap Word) (g : Nat) : Nat := (ptClaims m 0x60 g).headD 0

/-- The owner of message buffer `mb` of CAN channel `ch` under a partition table (R316, R148). -/
def ownerOfMb (m : KMap Word) (ch mb : Nat) : Nat :=
  (ptClaims m 0x80 (128 * ch + mb)).headD (ownerOfPage m (37 + ch))

/-- The owner of a queue under a partition table (R316, R187). -/
def ownerOfQueue (m : KMap Word) (q : Nat) : Nat :=
  (ptClaims m 0x200 q).headD (if q < 216 then ownerOfPage m (57 + q / 8) else 0)

/-- The owners in force now. -/
def State.pageOwner (s : State) (idx : Nat) : Nat := ownerOfPage s.pt.active idx
def State.groupOwner (s : State) (g : Nat) : Nat := ownerOfGroup s.pt.active g
def State.mbOwner (s : State) (ch mb : Nat) : Nat := ownerOfMb s.pt.active ch mb
def State.queueOwner (s : State) (q : Nat) : Nat := ownerOfQueue s.pt.active q

/-- Whether partition `p` may act as the owner of a page: it owns the page, or is partition 0 (R42, R46). -/
def State.mayOwn (s : State) (p idx : Nat) : Bool := p == 0 || s.pageOwner idx == p

/-! ## Staged table regions (R15) -/

/-- The number under which a staged table region is held: time-gate lists 0 to 26, acceptance filters 32 to 43. -/
def regionKey : RegionId → Nat
  | .gateList p => p
  | .canFilter c => 32 + c
  | .streamId => 48
  | .vlan => 49
  | .frer => 50
  | .mirror => 51

def State.region (s : State) (k : Nat) : Region := KMap.get s.regions {} k

def State.setRegion (s : State) (k : Nat) (r : Region) : State :=
  { s with regions := KMap.put s.regions k r }

/-- A word of a region's copy in use. -/
def State.regionWord (s : State) (k addr : Nat) : Word := tabWord (s.region k).active addr

/-- Whether a page lets an accepted work item start: it is ACTIVE, or drains (R47). -/
def State.mayStart (s : State) (idx : Nat) : Bool :=
  let p := s.page idx
  p.mode == .active || (p.mode == .quiescing && p.stop == .drain)

/-! ## Partitions and interrupt files (R321, R322) -/

def State.part (s : State) (p : Nat) : Part := KMap.get s.parts.table {} p

def State.setPart (s : State) (p : Nat) (x : Part) : State :=
  { s with parts := { s.parts with table := KMap.put s.parts.table p x } }

def State.isRunning (s : State) (p : Nat) : Bool := (s.part p).state == .running

/-- The engines take no new work from partition `p`: its reset drains, or waits for what it squashed (R324). -/
def State.stopsWork (s : State) (p : Nat) : Bool :=
  let x := s.part p
  x.state == .resetting && (x.phase == .drain || x.phase == .squash)

/-- A sorted list with one more number in it. -/
def insertSorted : List Nat → Nat → List Nat
  | [], n => [n]
  | k :: t, n => if n < k then n :: k :: t else if n = k then k :: t else k :: insertSorted t n

/-- The interrupt file of partition `p` under a table (R321): 0 the supervisor-level file of pair 0, 1 to 3 the files of
pair 1, and 8 (c + 1) + g the guest file `g` of application core `c`, `g` being the rank of `p` among the enabled partitions
that the core hosts. -/
def ifileOf (m : KMap Word) (p : Nat) : Nat :=
  if p < 4 then p
  else
    let c := fld (ptWord m p 8) 2 0
    8 * (c + 1) + (1 + (ptValid m).countP (fun q => q < p && ptHosts m c q))

/-- Interrupt identity `eiid` becomes pending in the interrupt file of partition `p` (R51, R321).
DESIGN CHOICE: notes/assumptions/62.md. -/
def State.setPendingId (s : State) (p eiid : Nat) : State :=
  let f := ifileOf s.pt.active p
  { s with ifiles := KMap.put s.ifiles f (insertSorted (KMap.get s.ifiles [] f) eiid) }

/-- The pending identities that follow their partitions from table `old` to table `new`: the files of pair 0 and pair 1 stay,
a guest file moves with its partition, and the file of a partition that no longer has one is empty (R321).
DESIGN CHOICE: notes/assumptions/62.md. -/
def movedFiles (files : KMap (List Nat)) (old new : KMap Word) : KMap (List Nat) :=
  ((ptValid new).filter (fun p => 4 ≤ p && (ptValid old).contains p)).foldl (fun l p =>
    match KMap.get? files (ifileOf old p) with
    | some ids => KMap.put l (ifileOf new p) ids
    | none => l) (KMap.keep files (fun f => f < 4))

/-! ## The pair (R380, R400) -/

/-- What the pair controller holds for partition `p`. -/
def State.pp (s : State) (p : Nat) : PairPart := KMap.get s.pair.parts {} p

def State.setPp (s : State) (p : Nat) (x : PairPart) : State :=
  { s with pair := { s.pair with parts := KMap.put s.pair.parts p x } }

/-- Role of this unit for partition `p`. -/
def State.roleOf (s : State) (p : Nat) : Role := (s.pp p).role

/-- A partition's mirrored regions and staging are closed, and its transmissions held: its role is JOINING or STANDBY, or
a handover has begun (R392, R393, R400). -/
def State.pairHeld (s : State) (p : Nat) : Bool :=
  s.roleOf p == .joining || s.roleOf p == .standby || (s.pair.handover.map (fun h => h.part == p)).getD false

/-! ## Events (R50 to R54) -/

/-- The event source of bit `k` of a page (R50). -/
def eventSource (idx k : Nat) : Nat :=
  match pageRowOf idx with
  | some r => r.firstEvent + (idx - r.firstIndex) * r.events + k
  | none => 0

/-- Events per instance of a page (PAGE_CAP.EVENTS). -/
def pageEvents (idx : Nat) : Nat := ((pageRowOf idx).map (·.events)).getD 0

/-- The bits of EVT_STATUS that are events of a page; the others are reserved (R4, R36, R54 and the event lists of R84,
R85, R110, R125, R139, R167, R173, R205, R206, R230, R255, R288 to R290, R309, R310, R329, R330, R351, R352, R378, R404,
R429 to R431). -/
def eventMask (idx : Nat) : Word :=
  match ((pageRowOf idx).map (fun r => r.ptype) : Option PageType) with
  | none | some .qcnt => 0
  | some .coh | some .sec | some .upd => 0x7
  | some .evt => if idx = 1 then 0x3 else 0
  | some .pwr | some .pair => 0x7F
  | some .clk | some .dramc | some .stor => 0x3
  | some .time | some .ptpp | some .ptpd | some .part | some .swp => 0xF
  | some .lsb => if idx = 11 || idx = 13 then 0x3F else 0x17
  | some .pgen => 0xFFFF
  | some .ledg | some .qmgr => 0x3F
  | some .lsc => 0xBFFF
  | some .inp => 0x803F
  | some .can => 0x8FFF
  | some .lin => 0xBF
  | some .swc => if idx = 53 then 0x3 else if idx = 56 then 0 else 0x1
  | some .dma => 0x83FF
  | some .gw => if idx = 109 then 0x8007 else 0x8003
  | some .tpe => 0x8F
  | some .ulf => 0x1F

/-- A message for source `src` goes to partition `p`'s interrupt file, when its route is enabled and the partition is
RUNNING (R51, R54). DESIGN CHOICE: notes/assumptions/62.md. DEDUCED: notes/assumptions/75.md. -/
def State.sendMsg (s : State) (p src : Nat) : State :=
  let route := s.reg (R.EVT_ROUTE src)
  if bit route 31 && fld route 26 16 != 0 && s.isRunning p then s.setPendingId p (fld route 26 16) else s

/-- EVT_STATUS and EVT_ENABLE of a page take new values; each bit of EVT_PENDING that goes from 0 to 1 sends its
message (R51). -/
def State.setEvents (s : State) (idx : Nat) (status enable : Word) : State :=
  let old := s.reg (R.EVT_STATUS idx) &&& s.reg (R.EVT_ENABLE idx)
  let rise := (status &&& enable) &&& ~~~old
  let s := (s.setReg (R.EVT_STATUS idx) status).setReg (R.EVT_ENABLE idx) enable
  (bitsOf rise 32).foldl (fun s k => s.sendMsg (s.pageOwner idx) (eventSource idx k)) s

/-- The block of page `idx` raises event bit `k` (R40, R51). -/
def State.raise (s : State) (idx k : Nat) : State :=
  s.setEvents idx (setBit (s.reg (R.EVT_STATUS idx)) k true) (s.reg (R.EVT_ENABLE idx))

/-- Raise an event when a condition holds. -/
def State.raiseIf (s : State) (c : Bool) (idx k : Nat) : State := if c then s.raise idx k else s

/-! ## The banked COH page (R36) -/

def State.bank (s : State) (p : Nat) : CohBank := KMap.get s.coh.banks {} p

def State.setBank (s : State) (p : Nat) (b : CohBank) : State :=
  { s with coh := { s.coh with banks := KMap.put s.coh.banks p b } }

/-- The banked event registers of partition `p` take new values (R36). -/
def State.setCohEvents (s : State) (p : Nat) (status enable : Word) : State :=
  let b := s.bank p
  let rise := (status &&& enable) &&& ~~~(b.evStatus &&& b.evEnable)
  let s := s.setBank p { b with evStatus := status, evEnable := enable }
  (bitsOf rise 4).foldl (fun s k => s.sendMsg p k) s

/-- The COH page raises event `k` addressed to partition `p` (R23, R29, R36). -/
def State.raiseCoh (s : State) (p k : Nat) : State :=
  s.setCohEvents p (setBit (s.bank p).evStatus k true) (s.bank p).evEnable

/-- The messages of R54 once partition `p` is running again: one for every source it owns whose pending bit is 1,
ascending. -/
def State.resendAll (s : State) (p : Nat) : State :=
  let b := s.bank p
  let s := (bitsOf (b.evStatus &&& b.evEnable) 4).foldl (fun s k => s.sendMsg p k) s
  (List.range 118).foldl (fun s idx =>
    if idx != 0 && s.pageOwner idx == p then
      (bitsOf (s.reg (R.EVT_STATUS idx) &&& s.reg (R.EVT_ENABLE idx)) 32).foldl
        (fun s k => s.sendMsg p (eventSource idx k)) s
    else s) s

/-! ## How an access completes (R38, R42, R44) -/

/-- The access completes normally and a read returns `data`. DESIGN CHOICE: notes/assumptions/7.md. -/
def State.done (s : State) (data : Nat := 0) : State := { s with resp := .ok data }

/-- The access completes with a bus error that is no violation (R16, R17, R25).
DESIGN CHOICE: notes/assumptions/7.md. DEDUCED: notes/assumptions/16.md. -/
def State.busError (s : State) (c : BusCause) : State := { s with resp := .busError c }

/-- The partition an access acts for: the service connector acts as partition 0 (R42, R425). -/
def State.accPart (a : Acc) : Nat := if a.req.val = 19 then 0 else a.part.val

/-- The access completes with a bus error and is recorded in the violation FIFO of EVT0 (R44). -/
def State.violation (s : State) (a : Acc) (addr : Nat) (write : Bool) (c : BusCause) : State :=
  let s := s.busError c
  let rec' : Violation := Violation.mk (State.accPart a) a.req.val write c addr s.clk.lt
  if s.viol.length < 16 then
    let s : State := { s with viol := s.viol ++ [rec'] }
    s.raise 1 0
  else
    let s : State := { s with violLost := satAdd 16 s.violLost 1 }
    s.raise 1 1

/-! ## Byte memory (R2, R37) -/

/-- What a byte of memory that nothing has written reads as: DESIGN CHOICE, the spec gives power-on contents for no
memory (notes/assumptions/2.md). DESIGN CHOICE: notes/assumptions/2.md. -/
def memDefault : Byte := 0

/-- One byte of memory. DESIGN CHOICE: notes/assumptions/2.md. -/
def State.byteAt (s : State) (addr : Nat) : Byte := KMap.get s.mem memDefault addr

/-- `s` with one byte of memory written. DESIGN CHOICE: notes/assumptions/2.md. -/
def State.setByte (s : State) (addr : Nat) (b : Byte) : State :=
  { s with mem := KMap.set s.mem memDefault addr b }

/-- `n` bytes from `addr` up. -/
def State.readBytes (s : State) (addr n : Nat) : List Byte := (List.range n).map (fun i => s.byteAt (addr + i))

/-- `s` with a list of bytes written from `addr` up. -/
def State.writeBytes (s : State) (addr : Nat) (l : List Byte) : State :=
  match l with
  | [] => s
  | b :: t => (s.setByte addr b).writeBytes (addr + 1) t

/-- A little-endian number of `n` bytes in memory. -/
def State.readNum (s : State) (addr n : Nat) : Nat := leVal (s.readBytes addr n)

/-- `s` with a little-endian number of `n` bytes written. -/
def State.writeNum (s : State) (addr n v : Nat) : State := s.writeBytes addr (leBytes n v)

/-- The canonical form of memory: addresses strictly rise and no cell holds what an unlisted byte reads as. -/
def memWf (m : List Host.Cell) : Bool := KMap.wf memDefault m

/-- The length of a fabric cycle: 2 ns, and 16 ns at 62.5 MHz (R335). -/
def State.cycleNs (s : State) : Nat := if s.pwr.slow then 16 else 2

/-! ## Free values -/

/-- A free value and the state with the counter advanced. DESIGN CHOICE: notes/assumptions/3.md. -/
def State.takeFree (s : State) : Nat × State := (Config.freeValue s.free, { s with free := s.free + 1 })

/-- The value of type `State` reached by an operation on each element of a list. -/
def State.each {α : Type} (s : State) (l : List α) (f : State → α → State) : State := l.foldl f s

/-- Apply an operation when a condition holds. -/
def State.when (s : State) (c : Bool) (f : State → State) : State := if c then f s else s

end Sys2Proof.Machine
end

