-- ==== Sys2Proof/Machine/GwOffer.lean ====
section
/-! DEFINITION. The CRC of R180, the lookup of the gateway's source entries, and the offer of a source event
(spec/11, R256, R257, R261, R266). -/

namespace Sys2Proof.Machine

/-! ## CRC-32 of IEEE 802.3 (R180) -/

/-- One bit of the reflected CRC. -/
def crcBit (c : Nat) : Nat := if c % 2 = 1 then (c >>> 1) ^^^ 0xEDB88320 else c >>> 1

/-- One byte of the CRC. -/
def crcByte (c : Nat) (b : Byte) : Nat :=
  crcBit (crcBit (crcBit (crcBit (crcBit (crcBit (crcBit (crcBit (c ^^^ b.toNat))))))))

/-- The CRC-32 of a byte list: initial value and final XOR 0xFFFF_FFFF. DESIGN CHOICE: notes/assumptions/41.md. -/
def crc32 (l : List Byte) : Nat := (l.foldl crcByte 0xFFFFFFFF) ^^^ 0xFFFFFFFF

/-- The bytes of words in address order (R2). -/
def wordBytes (l : List Word) : List Byte := l.flatMap (fun w => leBytes 4 w.toNat)

/-! ## The route table (R260, R261) -/

def gw0Page : Nat := 109
def gw1Page : Nat := 110

/-- Word `k` of entry `i` of a route table copy. -/
def gwEntry (m : KMap Word) (i k : Nat) : Word := tabWord m (0x30400000 + 16 * i + 4 * k)

def gwType (m : KMap Word) (i : Nat) : Nat := fld (gwEntry m i 1) 31 30
def gwGroup (m : KMap Word) (i : Nat) : Nat := fld (gwEntry m i 1) 24 17

/-- The key part of word 1. -/
def gwKeyMask : Word := 0x3E01FE00

/-- The key words of a keyed source. -/
def gwKey (kind ch : Nat) : Word := setFld (mkF 29 25 kind) 16 9 ch

/-- The bucket of a keyed source. -/
def gwBucket (kind ch keyId : Nat) : Nat :=
  let c := crc32 (wordBytes [word keyId, gwKey kind ch])
  1024 + (c % 32768) * 31744 / 32768

/-- The source entry of an event in a route table copy (R261). -/
def gwLookup (m : KMap Word) (e : GwEvent) : Option Nat :=
  match e.direct with
  | some n => if gwType m n = 1 then some n else none
  | none =>
    let b := gwBucket e.kind e.ch e.keyId
    ((List.range 4).map (fun k => 4 * b + k)).find? (fun i =>
      gwType m i = 1 && gwEntry m i 0 = word e.keyId && (gwEntry m i 1 &&& gwKeyMask) = gwKey e.kind e.ch)

/-! ## Drops and offers (R266, R285, R288) -/

def GwDrop.code : GwDrop → Nat
  | .admitFull => 1 | .pageState => 2 | .rights => 3 | .cfg => 4 | .length => 5 | .sinkState => 6 | .queue => 7
  | .chain => 8 | .ecc => 9 | .unknown => 10

/-- An event or a route job is dropped: counted, named in GW_LAST_DROP, and DROP raised. -/
def State.gwDrop (s : State) (r : GwDrop) (entry : Nat) : State :=
  let s := s.addF R.GW_DROP 31 0 1
  let s : State := { s with gway := { s.gway with lastReason := some r, lastEntry := entry } }
  s.raise gw0Page 0

/-- The entry a dropped offer concerns; a free value where no entry does. -/
def State.gwDropOffer (s : State) (r : GwDrop) (e : GwEvent) : State :=
  match gwLookup s.gwSet.active e with
  | some i => s.gwDrop r i
  | none =>
    match e.direct with
    | some n => s.gwDrop r n
    | none => let f := s.takeFree; f.2.gwDrop r (f.1 % 131072)

/-- A source offers an event (R266). -/
def State.gwOffer (s : State) (e : GwEvent) : State :=
  let e := { e with offered := s.clk.lt }
  if !s.regB R.GW_CTRL 0 then s
  else if !s.pageActive gw0Page then s.gwDropOffer .pageState e
  else if 1024 ≤ s.gway.queue.length then s.gwDropOffer .admitFull e
  else { s with gway := { s.gway with queue := s.gway.queue ++ [e] } }

/-- A direct source with 4 bytes of data, offered when its register is written (R256, R140). -/
def State.gwOfferValue (s : State) (kind num v : Nat) : State :=
  s.gwOffer { kind := kind, direct := some num, data := leBytes 4 v, stamp := s.clk.lt }

end Sys2Proof.Machine
end

