-- ==== Sys2Proof/Machine/Time.lean ====
section
/-! DEFINITION. The time unit: how LOCAL_TIME, the domain clocks and SYNC_TIME advance (R291 to R297), and the meanings
of the commands that adjust them. -/

namespace Sys2Proof.Machine

/-- Clock units in one nanosecond: 2^40 * 10^9. -/
def clkUnit : Int := 1099511627776 * 1000000000

/-- D in clock units; what a slew has advanced below 2^-40 ns is no part of D (R293). -/
def DomClock.units (c : DomClock) : Int := c.d * 1000000000

def Clock.dom (c : Clock) (d : Nat) : DomClock := if d = 0 then c.dom0 else c.dom1

def State.dom (s : State) (d : Nat) : DomClock := s.clk.dom d

def State.setDom (s : State) (d : Nat) (x : DomClock) : State :=
  if d = 0 then { s with clk := { s.clk with dom0 := x } } else { s with clk := { s.clk with dom1 := x } }

/-- PTP_RATE.RATE of a domain, in units of 2^-40 (R293, R310). -/
def State.rateOf (s : State) (d : Nat) : Int := signed 32 (s.reg (R.PTP_RATE d)).toNat

/-- PTP_SLEW.PPB of a domain, clamped to its range (R310). -/
def State.ppbOf (s : State) (d : Nat) : Nat := clamp 1 50000 (s.regF (R.PTP_SLEW d) 16 0)

/-- The selected domain: TIME_SEL.DOMAIN in force (R296). -/
def State.selDom (s : State) : Nat := s.regF R.TIME_SEL 0 0

/-- How far `n` steps of 2 ns take a slew at `ppb` towards 0, in clock units (R293, R297). -/
def slewBy (left : Int) (ppb n : Nat) : Int :=
  let most : Int := (2 * ppb * n : Nat) * 1099511627776
  if 0 ≤ left then min left most else max left (-most)

/-- Steps of 2 ns after which a slew of size `left` at `ppb` has reached 0. -/
def slewSteps (left : Int) (ppb : Nat) : Nat :=
  let per : Nat := 2 * ppb * 1099511627776
  (left.natAbs + per - 1) / per

/-- A domain clock after `n` steps of 2 ns, `m` of which may slew; a STEP takes effect at the first (R293, R294). -/
def DomClock.run (c : DomClock) (rate : Int) (ppb n m : Nat) : DomClock :=
  let sl := slewBy c.slewLeft ppb m
  let frac := c.rest + sl
  let ofs := if n = 0 then 0 else c.stepBy
  { c with
    d := c.d + (n : Int) * 2 * (1099511627776 + rate) + frac / 1000000000 + ofs * 1099511627776
    rest := frac % 1000000000
    stepBy := c.stepBy - ofs
    slewLeft := c.slewLeft - sl }

/-- LOCAL_TIME and the clocks after `n` steps of 2 ns (R291, R293, R297). -/
def State.runClocks (s : State) (n : Nat) : State :=
  let sel := s.selDom
  let pp := s.ppbOf sel
  let used := if s.clk.switching then min n (slewSteps s.clk.phase pp) else 0
  let slewN := fun (d : Nat) => if d = sel then n - used else n
  let ph := if s.clk.switching then slewBy s.clk.phase pp n else 0
  { s with clk := { s.clk with
      lt := s.clk.lt + 2 * n
      dom0 := s.clk.dom0.run (s.rateOf 0) (s.ppbOf 0) n (slewN 0)
      dom1 := s.clk.dom1.run (s.rateOf 1) (s.ppbOf 1) n (slewN 1)
      phase := s.clk.phase - ph } }

/-- The time unit stands still in PARK and DORMANT (R292). -/
def State.clockStopped (s : State) : Bool := s.pwr.state == .park || s.pwr.state == .dormant

/-- The domain clocks run on at their rates, without slew, through PARK (R293). -/
def State.driftClocks (s : State) (n : Nat) : State :=
  { s with clk := { s.clk with
      lt := s.clk.lt + 2 * n
      dom0 := s.clk.dom0.run (s.rateOf 0) (s.ppbOf 0) n 0
      dom1 := s.clk.dom1.run (s.rateOf 1) (s.ppbOf 1) n 0 } }

/-- LOCAL_TIME as the always-on count of 32.768 kHz cycles gives it at instant `t` of PARK or DORMANT (R292). -/
def State.parkTime (s : State) (t : Nat) : Nat :=
  let cycles := (t - s.clk.parkAt) * 1000000 / 30517578125
  (s.clk.parkAt + cycles * 30517578125 / 1000000) / 2 * 2

/-- Time passes up to the instant of a command; an instant not later than LOCAL_TIME leaves it (R291). In PARK and
DORMANT it passes in whole cycles of the crystal (R292). It stays 0 while power-on reset holds (R443).
DESIGN CHOICE: notes/assumptions/4.md. DEDUCED: notes/assumptions/48.md. -/
def State.runTo (s : State) (t : Nat) : State :=
  if s.clk.held then s
  else if s.clockStopped then s.driftClocks ((s.parkTime t - s.clk.lt) / 2) else s.runClocks ((t - s.clk.lt) / 2)

/-- The integer nanoseconds of a clock value. -/
def nsOf (v : Int) : Int := v / clkUnit

/-- PTP_TIME of a domain in ns, as a 64-bit value. -/
def State.domNs (s : State) (d : Nat) : Nat := unsigned 64 (nsOf (s.dom d).units)

/-- SYNC_TIME in clock units (R296). -/
def State.syncUnits (s : State) : Int := (s.dom s.selDom).units + s.clk.phase

/-- SYNC_TIME in ns, as a 64-bit value (R296). -/
def State.syncNs (s : State) : Nat := unsigned 64 (nsOf s.syncUnits)

/-- TIME_STAT.VALID (R296). -/
def State.syncValid (s : State) : Bool :=
  match (s.dom s.selDom).state with
  | .free => s.regB R.TIME_SEL 4
  | _ => true

/-- A LOCAL_TIME stamp converted to SYNC_TIME at this instant (R300). -/
def State.toSync (s : State) (t : Nat) : Nat :=
  let back : Int := ((s.clk.lt : Int) - t) * (1099511627776 + s.rateOf s.selDom) * 1000000000
  unsigned 64 (nsOf (s.syncUnits - back))

/-- VALID_CHANGE, raised by every change of validity (R296). -/
def State.noteValid (s old : State) : State := s.raiseIf (s.syncValid != old.syncValid) 7 0

/-- The page index of a domain's page (R310). -/
def ptpPage (d : Nat) : Nat := 8 + d

/-- A domain takes a new state; every change raises STATE (R295). -/
def State.setDomState (s : State) (d : Nat) (st : DomState) : State :=
  let c := s.dom d
  let s' := s.setDom d { c with state := st, holdSince := if st == .holdover then s.clk.lt else c.holdSince }
  if c.state = st then s else (s'.raise (ptpPage d) 0).noteValid s

/-- PTP_CFG.EN (R310). -/
def State.domEn (s : State) (d : Nat) : Bool := s.regB (R.PTP_CFG d) 0

/-- An adjustment restarts the watchdog (R294). -/
def State.noteAdjust (s : State) (d : Nat) : State := s.setDom d { s.dom d with lastAdjust := s.clk.lt }

/-- The write of PTP_CMD.SLEW (R294). -/
def State.ptpSlew (s : State) (d : Nat) : State :=
  let c := s.dom d
  let top : Int := 2147483647 * clkUnit
  let want := c.slewLeft + signed 32 c.adjOfs.toNat * clkUnit
  (s.setDom d { c with slewLeft := max (-top) (min top want) }).noteAdjust d

/-- A step of SYNC_TIME of `ns` at LOCAL_TIME `lt`: TIME_STEP, TIME_STEP_NS and SYNC_STEP (R299). -/
def State.noteStep (s : State) (lt : Nat) (ns : Int) : State :=
  let n := max (-2147483647) (min 2147483647 ns)
  ({ s with clk := { s.clk with stepTime := lt, stepNs := n } } : State).raise 7 2

/-- The write of PTP_CMD.STEP: D takes the offset at the next 2 ns step, and the step of SYNC_TIME is recorded with that
instant (R294, R297, R299). DEDUCED: notes/assumptions/48.md. -/
def State.ptpStep (s : State) (d : Nat) : State :=
  let c := s.dom d
  let ofs := signed 32 c.adjOfs.toNat
  let s := (s.setDom d { c with stepBy := c.stepBy + ofs, slewLeft := 0, rest := 0 }).noteAdjust d
  if d = s.selDom then s.noteStep (s.clk.lt + 2) ofs else s

/-- The write of PTP_CMD.LOCKED (R294, R295). -/
def State.ptpLocked (s : State) (d : Nat) : State :=
  let s := s.noteAdjust d
  if s.domEn d && (s.dom d).state != .synced then s.setDomState d .synced else s

/-- The write of PTP_CMD.HOLDOVER (R295). -/
def State.ptpHoldover (s : State) (d : Nat) : State :=
  if (s.dom d).state = .synced then s.setDomState d .holdover else s

/-- The write of PTP_CMD.TX_POP (R306, R310). -/
def State.ptpTxPop (s : State) (d : Nat) : State := s.setDom d { s.dom d with stamps := (s.dom d).stamps.drop 1 }

/-- The write of a whole PTP_CMD word: with more than one of SLEW, STEP, LOCKED and HOLDOVER it changes nothing (R294). -/
def State.ptpCmd (s : State) (d : Nat) (w : Word) : State :=
  if (bitsOf w 4).length > 1 then s
  else
    let s := if bit w 0 then s.ptpSlew d else if bit w 1 then s.ptpStep d else if bit w 2 then s.ptpLocked d
      else if bit w 3 then s.ptpHoldover d else s
    if bit w 4 then s.ptpTxPop d else s

/-- The write of PTP_RATE, clamped to 1,000 ppm (R294, R310). -/
def State.ptpRate (s : State) (d : Nat) (w : Word) : State :=
  let r := max (-1099511628) (min 1099511628 (signed 32 w.toNat))
  (s.setReg (R.PTP_RATE d) (word (unsigned 32 r))).noteAdjust d

/-- A commit has changed TIME_SEL.DOMAIN: the seamless or abrupt switch at its edge, `s` being the state with the new
selection and `old` the one before the edge (R297, R298). -/
def State.switchDomain (s old : State) : State :=
  let newD := s.dom s.selDom
  let diff := old.syncUnits - newD.units
  if s.regB R.TIME_SEL 1 || 1000000 * clkUnit < diff.natAbs then
    let s : State := { s with clk := { s.clk with phase := 0, switching := false, abruptLast := true } }
    (s.raise 7 1).noteStep s.clk.lt (nsOf s.syncUnits - nsOf old.syncUnits)
  else { s with clk := { s.clk with phase := diff, switching := true, abruptLast := false } }

end Sys2Proof.Machine
end

