-- ==== Sys2Proof/Machine/LoadOps.lean ====
section
/-! DEFINITION. Shared operations of the load stage: classes and ratings, configuration, the effective command, entering
states, trips, and closing a channel (R55 to R108). -/

namespace Sys2Proof.Machine

/-! ## Classes and numbering (R55) -/

/-- Class of a channel: 0 H, 1 M, 2 L, 3 S. -/
def chClass (c : Nat) : Nat := if c % 32 < 2 then 0 else if c % 32 < 8 then 1 else if c % 32 < 24 then 2 else 3

/-- Continuous rating of the GZ880-LQ in mA, which the fixed trips follow. -/
def chRating (c : Nat) : Nat :=
  if chClass c = 0 then 100000 else if chClass c = 1 then 30000 else if chClass c = 2 then 10000 else 3000

/-- Short-circuit trip in mA: six times the rating. -/
def chTripMa (c : Nat) : Nat := 6 * chRating c

/-- Reverse-current trip in mA: one tenth of the rating. -/
def chReverseMa (c : Nat) : Nat := chRating c / 10

def lscPage (c : Nat) : Nat := 17 + c / 8
def lsbPage (b : Nat) : Nat := 11 + b
/-- The page with the feed registers of a feed: LSB0 or LSB2 (R84). -/
def feedPage (f : Nat) : Nat := 11 + 2 * f

def State.chan (s : State) (c : Nat) : Chan := KMap.get s.load.chans {} c
def State.setChan (s : State) (c : Nat) (x : Chan) : State :=
  { s with load := { s.load with chans := KMap.put s.load.chans c x } }
def State.updChan (s : State) (c : Nat) (f : Chan → Chan) : State := s.setChan c (f (s.chan c))

def State.lbank (s : State) (b : Nat) : Bank := KMap.get s.load.banks {} b
def State.setLbank (s : State) (b : Nat) (x : Bank) : State :=
  { s with load := { s.load with banks := KMap.put s.load.banks b x } }

def State.feedSt (s : State) (f : Nat) : Feed := KMap.get s.load.feeds {} f
def State.setFeed (s : State) (f : Nat) (x : Feed) : State :=
  { s with load := { s.load with feeds := KMap.put s.load.feeds f x } }

def State.pgenSt (s : State) (g : Nat) : Pgen := KMap.get s.load.pgens {} g
def State.setPgen (s : State) (g : Nat) (x : Pgen) : State :=
  { s with load := { s.load with pgens := KMap.put s.load.pgens g x } }

/-- Cycle number of the load-stage clock at a LOCAL_TIME: 2,097,152 cycles a second from its start (R58). -/
def State.cycleAt (s : State) (t : Nat) : Nat := (t - s.load.clockAt) * 2097152 / 1000000000

/-- Whether an earlier instant lies in the load-stage cycle of this one; while the clock stands, only this very instant
does. -/
def State.inCycle (s : State) (t0 : Nat) : Bool :=
  if s.load.clockOn then decide (s.load.clockAt ≤ t0) && s.cycleAt s.clk.lt == s.cycleAt t0 else t0 == s.clk.lt

/-- Whether the last write of CAUSE fell in the load-stage cycle of this instant (R81).
DEDUCED: notes/assumptions/27.md. -/
def State.sameCycle (s : State) (ch : Chan) : Bool := ch.cause != 0 && s.inCycle ch.tripTime

/-! ## Configuration -/

/-- No load-stage edge has come since the last commit to the load stage's pages (R59). -/
def State.cfgStale (s : State) : Bool := if s.load.clockOn then s.inCycle s.load.cfgAt else s.load.startOwed.isSome

/-- The value of an LSC, LSB or PGEN register that the protection goes by: the active one, from the first load-stage edge
after the commit that applied it (R59). DESIGN CHOICE: notes/assumptions/11.md. -/
def State.cfg (s : State) (addr : Nat) : Word :=
  if s.cfgStale then (KMap.get? s.load.cfgBefore addr).getD (s.reg addr) else s.reg addr
def State.cfgF (s : State) (addr hi lo : Nat) : Nat := fld (s.cfg addr) hi lo
def State.cfgB (s : State) (addr k : Nat) : Bool := bit (s.cfg addr) k

/-- A commit applied values to registers of an LSC, LSB or PGEN page: the values before it stay in force up to the next
edge, and a stopped clock is to start (R59). DESIGN CHOICE: notes/assumptions/11.md. -/
def State.noteCfg (s old : State) (l : KMap Word) : State :=
  let keep := if s.cfgStale then s.load.cfgBefore else []
  { s with load := { s.load with
      cfgBefore := l.foldl (fun m x => if (KMap.get? m x.1).isSome then m else KMap.put m x.1 (old.reg x.1)) keep
      cfgAt := s.clk.lt
      startOwed := if s.load.clockOn then none else some (s.load.startOwed.getD s.clk.lt) } }

/-- The firmware bank in use: a switch takes effect at the first load-stage edge after its commit (R59, R419). -/
def State.firmwareBank (s : State) : Bool :=
  let stale := s.load.fwAt.any (fun t => if s.load.clockOn then s.inCycle t else decide (s.load.clockAt < t))
  if stale then !s.load.fwBank else s.load.fwBank

/-- The firmware that the load stage controller runs (R419). -/
def State.loadFirmware (s : State) : List Byte := KMap.get s.load.fw [] s.firmwareBank.toNat

/-- A commit by partition 0 with ALL = 1 switches to the spare bank if it holds a new part; everything else of the load
stage is kept (R419). DEDUCED: notes/assumptions/74.md. -/
def State.switchFirmware (s : State) : State :=
  if s.load.fwReady then
    { s with load := { s.load with fwBank := !s.load.fwBank, fwReady := false, fwAt := some s.clk.lt } }
  else s

def State.inrEn (s : State) (c : Nat) : Bool := s.cfgB (R.LSC_PROT c) 3
def State.shedPrio (s : State) (c : Nat) : Nat := s.cfgF (R.LSC_PROT c) 7 4
/-- The inrush profile of a channel's bank that LSC_PROT names (R66). -/
def State.inrProf (s : State) (c : Nat) : Word := s.cfg (R.LSB_INR_PROF (c / 32) (s.cfgF (R.LSC_PROT c) 2 0))
/-- The budget N of a channel's profile; 0 behaves as 1 (R66). -/
def State.inrBudget (s : State) (c : Nat) : Nat := max 1 (fld (s.inrProf c) 31 24)
/-- ILIM of a channel's profile in mA: sixteenths of its GZ880-LQ rating, 16 to 76 (R66). -/
def State.inrIlimMa (s : State) (c : Nat) : Nat := clamp 16 76 (fld (s.inrProf c) 7 0) * chRating c / 16
/-- T_OFF and T_LIM of a channel's profile in ns (R66). -/
def State.inrOffNs (s : State) (c : Nat) : Nat := clamp 1 500 (fld (s.inrProf c) 23 15) * 100000
def State.inrLimNs (s : State) (c : Nat) : Nat := clamp 1 100 (fld (s.inrProf c) 14 8) * 10000

/-- OFF_DV and ON_DV of a bank in mV (R84). -/
def State.offMv (s : State) (b : Nat) : Nat := clamp 90 180 (s.cfgF (R.LSB_UV_CFG b) 7 0) * 100
def State.onMv (s : State) (b : Nat) : Nat :=
  max (s.cfgF (R.LSB_UV_CFG b) 15 8 * 100) (s.offMv b + 1000)
def State.settleNs (s : State) (b : Nat) : Nat := max 1 (s.cfgF (R.LSB_UV_CFG b) 23 16) * 1000000
def State.stepNs (s : State) (b : Nat) : Nat := clamp 100 25000 (s.cfgF (R.LSB_STAGGER b) 14 0) * 1000

/-- Class temperature of LSC_WIRE_T.INSUL; none where it is invalid (R62). -/
def insulTemp (i : Nat) : Option Int :=
  if i = 0 then some 85 else if i = 1 then some 100 else if i = 2 then some 125 else if i = 3 then some 150
  else if i = 4 then some 175 else none

/-- LSB_WIRE_AMB.AMB_C, clamped (R84). -/
def State.ambient (s : State) (b : Nat) : Int := max (-40) (min 125 (signed 8 (s.cfgF (R.LSB_WIRE_AMB b) 7 0)))

/-- The allowed rise of R62 in K; 0 or less where there is none. -/
def State.riseLimit (s : State) (c : Nat) : Int :=
  match insulTemp (s.cfgF (R.LSC_WIRE_T c) 14 12) with
  | some tc => tc - s.ambient (c / 32)
  | none => 0

/-- LSC_STATUS.CFG_INVALID (R63). -/
def State.cfgInvalid (s : State) (c : Nat) : Bool :=
  s.cfgF (R.LSC_WIRE_K c) 19 0 == 0 || s.cfgF (R.LSC_WIRE_T c) 11 0 == 0 || s.riseLimit c ≤ 0

/-! ## The effective command (R86 to R88, R94, R100) -/

/-- Whether a channel belongs to the spread set of generator `g` (R94). -/
def State.inSpread (s : State) (g c : Nat) : Bool :=
  let w := s.reg (R.LSC_CTRL c)
  fld w 11 8 == g && (fld w 1 0 == 2 || bit w 2)

/-- The spread set of a generator, ascending (R94). -/
def State.spreadSet (s : State) (g : Nat) : List Nat := (List.range 128).filter (s.inSpread g)

/-- The effective phase of a channel (R94). -/
def State.effPhase (s : State) (c : Nat) : Nat :=
  let g := s.regF (R.LSC_CTRL c) 11 8
  if s.regB (R.PGEN_CFG g) 20 && s.inSpread g c then
    1000 * ((s.spreadSet g).filter (fun x => x < c)).length / (s.spreadSet g).length
  else
    let p := s.regF (R.LSC_PHASE c) 9 0
    if p < 1000 then p else 0

/-- A PWM command at a duty; 1,001 and above behave as 1,000 (R109). -/
def State.pwmCmd (s : State) (c duty : Nat) : Cmd := ⟨.pwm, min duty 1000, s.effPhase c⟩

/-- The command of LSC_CTRL (R87). -/
def State.ctrlCmd (s : State) (c : Nat) : Cmd :=
  let w := s.reg (R.LSC_CTRL c)
  if fld w 1 0 = 1 then ⟨.on, 0, 0⟩ else if fld w 1 0 = 2 then s.pwmCmd c (fld w 25 16) else {}

/-- The command of the last gateway value (R88). -/
def State.gwCmd (s : State) (c : Nat) : Cmd :=
  let v := (s.chan c).gwValue
  if v = 0 then {} else if v < 1000 then s.pwmCmd c v else ⟨.on, 0, 0⟩

/-- The safe command of a word of LSC_LEASE, `hold` being the one HOLD stands for (R100). -/
def State.safeCmdOfWord (s : State) (c : Nat) (w : Word) (hold : Cmd) : Cmd :=
  if fld w 17 16 = 0 then {} else if fld w 17 16 = 1 then ⟨.on, 0, 0⟩ else if fld w 17 16 = 2 then hold
  else s.pwmCmd c (fld w 31 22)

/-- The safe command of LSC_LEASE (R100). -/
def State.safeCmdOf (s : State) (c : Nat) (hold : Cmd) : Cmd := s.safeCmdOfWord c (s.reg (R.LSC_LEASE c)) hold

/-- Whether this unit has the authority of partition `p`: ACTIVE, or SOLO (R380). -/
def State.roleActs (s : State) (p : Nat) : Bool :=
  let r := s.roleOf p
  r == .active || r == .solo

/-- The standby mask of a cross-fed channel (R106). -/
def State.standbyMasked (s : State) (c : Nat) : Bool :=
  s.hw.paired && 2 ≤ s.regF (R.LSC_CTRL c) 5 4 && !s.roleActs (s.pageOwner (lscPage c))

/-- The effective command of a channel and its source, LSC_OUT.ESRC (R86). -/
def State.effCmd (s : State) (c : Nat) : Cmd × Nat :=
  let ch := s.chan c
  let base : Cmd × Nat :=
    if s.cfgInvalid c then ({}, 5)
    else match ch.lease with
      | .idle => ({}, 0)
      | .expired => (s.safeCmdOf c ch.safeCmd, 3)
      | .running => if s.regB (R.LSC_CTRL c) 2 then (s.gwCmd c, 2) else (s.ctrlCmd c, 1)
  if s.standbyMasked c && base.1.mode != .off then ({}, 4) else base

/-- Whether an effective command conducts. -/
def Cmd.conducts (x : Cmd) : Bool := x.mode != .off

/-- Whether a safe command conducts (R100): a pulse train of duty 0 never does (R93).
DEDUCED: notes/assumptions/26.md. -/
def Cmd.safeConducts (x : Cmd) : Bool := x.mode == .on || (x.mode == .pwm && x.duty != 0)

/-- Whether a channel is to conduct under its effective command. DEDUCED: notes/assumptions/26.md. -/
def State.wantsOn (s : State) (c : Nat) : Bool :=
  if (s.chan c).lease == .expired then (s.effCmd c).1.safeConducts else (s.effCmd c).1.conducts

/-- *Conducting* of R80: ON, PWM, INRUSH, and LEASE_SAFE while the safe command conducts. -/
def Chan.conducting (ch : Chan) : Bool :=
  match ch.st with
  | .on | .pwm | .inrush => true
  | .leaseSafe => ch.out.safeConducts || ch.safePending
  | _ => false

/-! ## Entering states (R81) -/

/-- The causes recorded at an entry into TRIPPED, UV_HELD or LEASE_SAFE; `same`: the last write of CAUSE fell in the
same load-stage cycle (R81). -/
def Chan.stamp (ch : Chan) (same : Bool) (lt cause : Nat) : Chan :=
  let also := if same && ch.cause != cause then ch.also ||| 2 ^ (ch.cause - 1) else if same then ch.also else 0
  { ch with cause := cause, also := also, tripTime := lt }

/-- The place of a cause in TRIPS_BY_CAUSE (R119). -/
def causeIndex (c : Nat) : Nat := if c < 5 then c - 1 else c - 2

/-- One more trip of a cause in the counts for the ledger (R119). -/
def Accum.addCause (a : Accum) (cause : Nat) : Accum :=
  { a with byCause := a.byCause.set (causeIndex cause) (satAdd 16 (a.byCause.getD (causeIndex cause) 0) 1) }

/-- A measurement ends: with a value compared and none different, the run of mismatches ends (R117). -/
def Chan.endMeasure (ch : Chan) : Chan :=
  { ch with
    mismatchRun := if ch.compared && !ch.differed then 0 else ch.mismatchRun
    compared := false, differed := false, taken := [], refFill := false }

/-- A channel that needs the load-stage clock for what it does, whatever is commanded (R334). -/
def Chan.works (x : Chan) : Bool :=
  match x.st with
  | .off | .backfed | .tripped => false
  | .leaseSafe => x.conducting
  | _ => true

/-- A channel takes a new value; leaving OFF abandons an off-state check and an interrogation (R72, R116), and work that
ends between two model steps counts for the stop of the clock (R334). -/
def State.moveChan (s : State) (c : Nat) (x : Chan) : State :=
  let old := s.chan c
  let s : State := if old.works || x.works then { s with load := { s.load with neededAt := s.clk.lt } } else s
  if old.st == .off && x.st != .off then
    let b := s.lbank (c / 32)
    let run := b.interrog == some c
    let s := if run then s.setLbank (c / 32) { b with interrog := none } else s
    s.setChan c { x with olCheck := false, tagState := if run then .aborted else x.tagState, tagRetry := false,
                         tagAttempts := if run then 0 else x.tagAttempts, tagTx := [] }
  else s.setChan c x

/-- A running interrogation of a channel is aborted (R116). -/
def State.abortTag (s : State) (c : Nat) : State :=
  let b := s.lbank (c / 32)
  if b.interrog == some c then
    (s.setLbank (c / 32) { b with interrog := none }).updChan c (fun ch =>
      { ch with tagState := .aborted, tagAttempts := 0, tagRetry := false, tagTx := [] })
  else s

/-- A channel may begin a pending interrogation (R112). -/
def State.tagReady (s : State) (c : Nat) : Bool :=
  let ch := s.chan c
  ch.tagPending && s.regB (R.LSC_ID_CFG c) 1 && ch.st == .off && s.load.clockOn && !ch.olCheck

/-- A channel's pending interrogation is the next of its bank: none runs there and no lower one is ready (R112). -/
def State.tagNext (s : State) (c : Nat) : Bool :=
  (s.lbank (c / 32)).interrog.isNone && s.tagReady c && !(List.range (c % 32)).any (fun n => s.tagReady (c / 32 * 32 + n))

/-- The load of a channel is shared with the partner's and the link is up (R124). -/
def State.sharedLoad (s : State) (c : Nat) : Bool :=
  s.hw.paired && s.regB (R.LSC_ID_CFG c) 31 && s.ulf.state == .up

/-- A closing from a non-conducting state is counted once (R119) and begins a measurement (R111); the measurement before
it ends when it took no decay (R117). -/
def Chan.countClosing (ch : Chan) (lt : Nat) : Chan :=
  let ch := ch.endMeasure
  { ch with
    closedAt := lt, coldDue := ch.lastConduct = 0 || ch.lastConduct + 60000000000 ≤ lt
    sigOpen := true, sigSteps := 0, sigPeak := 0, decayDue := false, skipMeasure := false
    acc := { ch.acc with closings := ch.acc.closings + 1 } }

/-- The channel stops conducting and takes a state; a running on-state open-load check stops (R71), and so does the
measurement of a closing, but for a pause between inrush bursts; the decay is due of an opening from ON or PWM that is no
trip (R111). -/
def Chan.open_ (ch : Chan) (st : ChState) (lt : Nat) : Chan :=
  { ch with
    st := st, out := {}, pulses := [], pulseOn := false, safePending := false, closeWait := false, olRun := 0
    lastConduct := if ch.conducting then lt else ch.lastConduct
    coldDue := ch.coldDue && st == .retryWait, sigOpen := ch.sigOpen && st == .retryWait
    decayDue := if ch.conducting then (ch.st == .on || ch.st == .pwm) && st != .tripped else ch.decayDue }

/-- A protection trip (R80, R81): the channel enters TRIPPED, or a TRIPPED channel of the same cycle records a further
cause. DESIGN CHOICE: notes/assumptions/12.md. DEDUCED: notes/assumptions/27.md. -/
def State.trip (s : State) (c cause : Nat) : State :=
  let ch := s.chan c
  let same := s.sameCycle ch
  if ch.st == .tripped then
    if same && ch.cause != cause then
      let lowest := min ch.cause cause
      let other := max ch.cause cause
      s.setChan c { ch with cause := lowest, also := ch.also ||| 2 ^ (other - 1) }
    else s
  else
    let x := ((ch.open_ .tripped s.clk.lt).stamp same s.clk.lt cause).endMeasure
    let x := { x with acc := { x.acc.addCause cause with trips := x.acc.trips + 1 }
                      tripFrom := if ch.st == .uvHeld && same then ch.tripFrom else ch.st }
    ((s.moveChan c x).addF (R.LSC_TRIP_COUNT c) 15 0 1).raise (lscPage c) (c % 8)

/-- A channel in TRIPPED or UV_HELD that conducted at the start of this load-stage cycle (R81). -/
def State.justOff (s : State) (ch : Chan) : Bool :=
  (ch.st == .tripped || ch.st == .uvHeld) && s.sameCycle ch &&
    (ch.tripFrom == .on || ch.tripFrom == .pwm || ch.tripFrom == .inrush || ch.tripFrom == .leaseSafe)

/-- Whether a protection that acts on conducting channels may act now: the channel conducts, or a trip or a hold of this
very cycle has switched it off (R81). -/
def State.mayTrip (s : State) (c : Nat) : Bool :=
  let ch := s.chan c
  ch.conducting || s.justOff ch

/-- Close permission (R76): LSC_VOUT is no more than 1.0 V above LSB_VBANK. -/
def State.closeOk (s : State) (c : Nat) : Bool :=
  signed 16 (s.regF (R.LSC_VOUT c) 15 0) * 10 ≤ (s.regF (R.LSB_VBANK (c / 32)) 15 0 : Int) + 1000

/-- Entry into INRUSH: a new burst, with USED and EXEMPT at 0 (R66). -/
def State.enterInrush (s : State) (c : Nat) : State :=
  let ch := s.chan c
  s.moveChan c (({ ch with st := .inrush, used := 0, exempt := 0, burstAt := s.clk.lt, out := ⟨.on, 0, 0⟩
                           closeWait := false, safePending := false, pulses := [], pulseOn := false } : Chan).countClosing
    s.clk.lt)

/-- A channel's output takes the safe command `cmd` in LEASE_SAFE: OFF opens it, ON acts at once, PWM waits for its
boundary (R100). DEDUCED: notes/assumptions/27.md. -/
def Chan.takeSafe (ch : Chan) (cmd : Cmd) (lt : Nat) : Chan :=
  let x : Chan := match cmd.mode with
    | .off => ch.open_ .leaseSafe lt
    | .on => { ch with st := .leaseSafe, closeWait := false, out := cmd, safePending := false, pulses := [], pulseOn := false }
    | .pwm =>
      if cmd.duty = 0 && !ch.conducting then { ch.open_ .leaseSafe lt with out := cmd }
      else { ch with st := .leaseSafe, closeWait := false, safePending := true }
  if cmd.safeConducts && !ch.conducting then x.countClosing lt else x

/-- Entry into LEASE_SAFE with cause 7 (R81, R100). -/
def State.enterLeaseSafe (s : State) (c : Nat) (cmd : Cmd) : State :=
  let ch := s.chan c
  let x := (ch.takeSafe cmd s.clk.lt).stamp (s.sameCycle ch) s.clk.lt 7
  s.moveChan c { x with acc := x.acc.addCause 7 }

/-- A non-conducting channel closes for the effective command `cmd`, permission given: through INRUSH where it is
enabled; under an expired lease into LEASE_SAFE, which is no new entry for a channel already there; a PWM command without inrush waits for its boundary in PWM. -/
def State.closeFor (s : State) (c : Nat) (cmd : Cmd) (expired : Bool) : State :=
  if s.inrEn c then s.enterInrush c
  else if expired then
    if (s.chan c).st == .leaseSafe then s.setChan c ((s.chan c).takeSafe cmd s.clk.lt) else s.enterLeaseSafe c cmd
  else
    let ch := s.chan c
    let x : Chan := { ch with closeWait := false, safePending := false, pulses := [], pulseOn := false }
    match cmd.mode with
    | .off => s
    | .on => s.moveChan c (({ x with st := .on, out := cmd } : Chan).countClosing s.clk.lt)
    | .pwm => s.moveChan c (({ x with st := .pwm, out := {} } : Chan).countClosing s.clk.lt)

/-- The same where close permission is asked first: without it the channel keeps its state and shows CLOSE_WAIT (R76). -/
def State.tryClose (s : State) (c : Nat) (cmd : Cmd) (expired : Bool) : State :=
  if s.closeOk c then s.closeFor c cmd expired else s.updChan c (fun ch => { ch with closeWait := true })

/-! ## Leases (R97 to R101) -/

/-- The ticks a renewal loads: LEASE_MS × 1.024, rounded up; values below 10 ms behave as 10 (R97, R109). -/
def State.leaseTicks (s : State) (c : Nat) : Nat := ceilDiv (max 10 (s.regF (R.LSC_LEASE c) 15 0) * 1024) 1000

/-- Number of the 32.768 kHz edge at or before an instant. -/
def edge32k (t : Nat) : Nat := t * 32768 / 1000000000

/-- The enable bit of LSC_LEASE for a renewal source: RENEW_SW, RENEW_GW or PAIR_RENEW (R98). -/
def State.renewEnabled (s : State) (c src : Nat) : Bool := s.regB (R.LSC_LEASE c) (17 + src)

/-- A renewal is taken (R97, R98, R101). A rearm, which a gateway write to an EXPIRED lease is with GW_REARM = 1, clears
RENEW_REFUSED and renews in every state; a plain renewal needs the enable bit of its source and renews only a lease
that is not EXPIRED. DEDUCED: notes/assumptions/25.md. -/
def State.takeRenewal (s : State) (c : Nat) (r : Renewal) : State :=
  let ch := s.chan c
  let expired := ch.lease == .expired
  let rearm := r.rearm || (r.src == 2 && expired && s.regB (R.LSC_LEASE c) 21)
  if rearm then
    s.setChan c { ch with lease := .running, left := s.leaseTicks c, lastSrc := r.src, renewRefused := false }
  else if !s.renewEnabled c r.src then
    if r.src == 1 then s.setChan c { ch with renewRefused := true } else s
  else if expired then s.setChan c { ch with renewRefused := true }
  else s.setChan c { ch with lease := .running, left := s.leaseTicks c, lastSrc := r.src }

/-- The renewals of a channel whose 32.768 kHz edge has come (R99). DEDUCED: notes/assumptions/25.md. -/
def State.takeDue (s : State) (c : Nat) : State :=
  let due := (s.chan c).renewals.filter (fun r => edge32k r.at_ < edge32k s.clk.lt)
  let later := (s.chan c).renewals.filter (fun r => edge32k s.clk.lt ≤ edge32k r.at_)
  (due.foldl (fun s r => s.takeRenewal c r) s).updChan c (fun ch => { ch with renewals := later })

/-- Time passes up to the instant of a command, and the always-on domain takes the renewals whose edge has passed (R99).
DEDUCED: notes/assumptions/25.md. -/
def State.advance (s : State) (t : Nat) : State :=
  let n := s.runTo t
  let l := n.load.chans.filter (fun x => !x.2.renewals.isEmpty)
  { n with load := (l.foldl (fun s x => s.takeDue x.1) n).load }

/-- All renewals of a channel are taken, as at a lease tick (R99). -/
def State.takeAll (s : State) (c : Nat) : State :=
  ((s.chan c).renewals.foldl (fun s r => s.takeRenewal c r) s).updChan c (fun ch => { ch with renewals := [] })

/-- A renewal is offered; the always-on domain takes it, or refuses it, at the next 32.768 kHz edge (R98, R99).
DEDUCED: notes/assumptions/25.md. -/
def State.offerRenewal (s : State) (c src : Nat) (rearm : Bool) : State :=
  s.updChan c (fun ch => { ch with renewals := ch.renewals ++ [⟨s.clk.lt, src, rearm⟩] })

/-- LSC_RENEW or a channel's bits of LSC_RENEW_MASK; with both bits it acts as one rearm (R101). -/
def State.renewBits (s : State) (c : Nat) (renew rearm : Bool) : State :=
  if rearm || renew then s.offerRenewal c 1 rearm else s

/-- LSC_RENEW_MASK of a page (R109). -/
def State.renewMask (s : State) (page : Nat) (w : Word) : State :=
  (List.range 8).foldl (fun s n => s.renewBits (8 * page + n) (bit w n) (bit w (8 + n))) s

/-- A gateway value arrives at a channel (R88, R98). -/
def State.gwWriteChan (s : State) (c v : Nat) : State :=
  (s.updChan c (fun ch =>
    { ch with gwValid := true, gwWrites := (ch.gwWrites + 1) % 256, gwValue := if v = 65535 then ch.gwValue else v })).offerRenewal
    c 2 false

/-- The renewal by the partner's authority lease for partition `p` (R108). -/
def State.pairRenew (s : State) (p : Nat) : State :=
  (List.range 128).foldl (fun s c =>
    if s.pageOwner (lscPage c) == p && s.regB (R.LSC_LEASE c) 20 then s.offerRenewal c 3 false else s) s

/-- The truncation of RUNNING leases at a pin reset, except where `spared` says the partner is ACTIVE (R105). -/
def State.truncateLeases (s : State) (spared : Nat → Bool) : State :=
  (List.range 128).foldl (fun s c =>
    let s := if (s.chan c).renewals.isEmpty then s else s.takeDue c
    if (s.chan c).lease == .running && !spared (s.pageOwner (lscPage c)) then
      s.updChan c (fun ch => { ch with left := min ch.left 10 })
    else s) s

/-! ## What the registers show (R84, R85, R109, R110) -/

def ChState.code : ChState → Nat
  | .off => 0 | .on => 1 | .pwm => 2 | .inrush => 3 | .retryWait => 4 | .tripped => 5 | .uvHeld => 6
  | .leaseSafe => 7 | .backfed => 8

def CmdMode.code : CmdMode → Nat
  | .off => 0 | .on => 1 | .pwm => 2

def LeaseState.code : LeaseState → Nat
  | .idle => 0 | .running => 1 | .expired => 2

/-- LSC_STATUS (R85). -/
def State.lscStatus (s : State) (c : Nat) : Word :=
  let ch := s.chan c
  word (ch.st.code + ch.cause * 16 + ch.also % 512 * 256 + ch.olOn.toNat * 2 ^ 17 + ch.olOff.toNat * 2 ^ 18
    + ch.wireWarn.toNat * 2 ^ 19 + ch.tjWarn.toNat * 2 ^ 20 + ch.lockout.toNat * 2 ^ 21
    + (s.cfgInvalid c).toNat * 2 ^ 22 + ch.ackRefused.toNat * 2 ^ 23 + ch.closeWait.toNat * 2 ^ 24)

/-- LSC_OUT (R109). -/
def State.lscOut (s : State) (c : Nat) : Word :=
  let e := (s.takeDue c).effCmd c
  let p := e.1.mode == .pwm
  word (e.2 * 2 ^ 28 + e.1.mode.code * 2 ^ 24 + (if p then e.1.phase * 4096 + e.1.duty else 0))

/-- LSC_LEASE_STAT (R109). -/
def State.lscLeaseStat (s : State) (c : Nat) : Word :=
  let ch := (s.takeDue c).chan c
  word (ch.renewRefused.toNat * 2 ^ 31 + ch.lastSrc * 2 ^ 26 + ch.lease.code * 2 ^ 24 + ch.left % 2 ^ 20)

/-- The registers of an LSC page that show the state of its channels; `none` for every other offset. -/
def State.viewLsc (s : State) (page off : Nat) : Option Word :=
  let sum := fun (f : Chan → Bool) => (wordOfBits ((List.range 8).filter (fun n => f (s.chan (8 * page + n))))).toNat
  if off = 0x40 then
    some (word (page / 4 * 2 ^ 16 + ((List.range 8).map (fun n => chClass (8 * page + n) * 4 ^ n)).sum))
  else if off = 0x44 then
    some (word (sum (·.wireWarn) * 2 ^ 24 + sum (fun x => x.st == .backfed) * 2 ^ 16
      + sum (fun x => x.olOn || x.olOff) * 2 ^ 8 + sum (fun x => x.st == .tripped)))
  else if off < 0x100 || 0x500 ≤ off then none
  else
    let c := 8 * page + (off - 0x100) / 0x80
    let ch := s.chan c
    let r := (off - 0x100) % 0x80
    if r = 0x10 then some (s.lscLeaseStat c)
    else if r = 0x14 then some (word (ch.gwValid.toNat * 2 ^ 31 + ch.gwWrites * 2 ^ 16 + ch.gwValue))
    else if r = 0x18 then some (s.lscOut c)
    else if r = 0x38 then
      some (setFld (setFld (setFld (setFld (s.reg (R.LSC_ID_STATUS c)) 10 10 ch.limited.toNat) 9 8 ch.mismatchRun) 7 4
        (match ch.matchSt with | .unknown => 0 | .same => 1 | .mismatch => 2 | .replaced => 3)) 3 0
        (match ch.tagState with
          | .disabled => 0 | .idle => 1 | .busy => 2 | .tagged => 3 | .noTag => 4 | .crcError => 5 | .lowImpedance => 6
          | .aborted => 7))
    else if r = 0x40 then some (s.lscStatus c)
    else if r = 0x5C then
      some (word ((if s.cfgInvalid c then 0 else (s.riseLimit c).toNat * 256) * 65536 + min (ch.rise / 65536) 65535))
    else if r = 0x68 then some (lowWord ch.tripTime)
    else if r = 0x6C then some (highWord ch.tripTime)
    else if r = 0x78 then some (word (min ch.scTrips.length 8 * 65536 + ch.exempt % 256 * 256 + ch.used % 256))
    else none

/-- The registers of an LSB page that show the state of its bank and feed. -/
def State.viewLsb (s : State) (b off : Nat) : Option Word :=
  let k := s.lbank b
  let f := s.feedSt (b / 2)
  if off = 0x40 then
    some (word ((if s.hw.variant == .lq then 200 else 120) * 65536 + (if b % 2 = 0 then 256 else 0) + b / 2 * 16 + b))
  else if off = 0x44 then
    some (word (k.shedLevel * 256 + k.above.toNat * 128 + k.scWindow.isSome.toNat * 64 + k.stagger.toNat * 8
      + k.settling.isSome.toNat * 4 + k.uv.toNat * 2
      + (match k.vnow with | some v => (decide (v < s.offMv b)).toNat | none => 0)))
  else if 0xA0 ≤ off && off < 0xB0 && b % 2 = 1 then some 0
  else if off = 0xA8 then
    some (word (f.shedLevel * 65536 + min f.timer 255 * 256 + f.restoring.toNat * 4 + f.shedding.toNat * 2 + f.above.toNat))
  else none

/-- The registers of the PGEN page that show the generators. -/
def State.viewPgen (s : State) (off : Nat) : Option Word :=
  if off < 0x100 || 0x300 ≤ off then none
  else
    let g := (off - 0x100) / 0x20
    let r := (off - 0x100) % 0x20
    if r = 4 then some (word (s.spreadSet g).length)
    else if r = 8 then some (lowWord (s.pgenSt g).start)
    else if r = 0xC then some (highWord (s.pgenSt g).start)
    else none

end Sys2Proof.Machine
end

