-- ==== Sys2Proof/Machine/Access.lean ====
section
/-! DEFINITION. The checks of a register-page access (R2, R38, R42), and the two frames every meaning is written in: an
event at an instant, and a software write to a register of a page. -/

namespace Sys2Proof.Machine

/-- How a command ends: in a next state; no command of this module faults. -/
abbrev Result : Type := Host.Outcome State Fault Refusal

/-- The terms of the shared pages for a partition other than 0, at an offset of the lower half (R36, R351, R404). -/
def sharedPageOk (idx off : Nat) (write : Bool) : Option Bool :=
  if idx = 0 then some (0x40 ≤ off || (0x10 ≤ off && off < 0x20))
  else if idx = 5 then some (0x40 ≤ off && (!write || (0x4C ≤ off && off < 0x58)))
  else if idx = 113 then some (0x40 ≤ off && (!write || off = 0x84))
  else none

/-- Why an access to a register page is refused, if it is (R2, R38, R42). DEDUCED: notes/assumptions/16.md. -/
def State.checkPage (s : State) (a : Acc) (addr : Nat) (write : Bool) (size : Nat) : Option BusCause :=
  match pageAt addr with
  | none => some .unmapped
  | some idx =>
    if size ≠ 4 || addr % 4 ≠ 0 then some .size
    else
      let off := addr % 0x800
      let p := State.accPart a
      if a.req.val = 19 && !s.sec.svcOpen then some .notOwner
      else if p = 0 then none
      else if off < 0xC then (if write && s.pageOwner idx ≠ p then some .notOwner else none)
      else match sharedPageOk idx off write with
        | some true => none
        | some false => some .notOwner
        | none => if s.pageOwner idx = p then none else some .notOwner

/-- The load channels whose STATE or CAUSE is not what it was are offered to the gateway, the lower number first and
after every other offer of the command (R256, R266). -/
def State.offerChans (s old : State) : State :=
  if s.load.chans = old.load.chans then s
  else
    let key (x : State) (c : Nat) : Word := x.lscStatus c &&& 0xFF
    ((List.range 128).filter (fun c => s.chan c != old.chan c && key s c != key old c)).foldl (fun s c =>
      s.gwOffer { kind := 7, direct := some (2304 + c), stamp := s.clk.lt,
                  data := wordBytes [s.lscStatus c, s.reg (R.LSC_IMEAS c), s.reg (R.LSC_VOUT c), s.reg (R.LSC_TJ c)] }) s

/-- The state `n` a command ends in, with the queue of commands and the hold of power-on reset as they were in `s`: no
command but those of power-on touches them (R443). -/
def State.settle (s n : State) : State := { n with pending := s.pending, clk := { n.clk with held := s.clk.held } }

/-- The frame of every command: time advances to its instant, then its effect, then the offers of the load channels.
Nothing happens while power-on reset holds the module (R443).
DESIGN CHOICE: notes/assumptions/4.md. DESIGN CHOICE: notes/assumptions/5.md. DESIGN CHOICE: notes/assumptions/17.md. DEDUCED: notes/assumptions/61.md. -/
def commandAt (t : Nat) (f : State → State) (s : State) : Result :=
  if s.clk.held then .next s
  else
    let n := s.advance t
    .next (s.settle ((f n).offerChans n))

/-- An event at instant `t`. DESIGN CHOICE: notes/assumptions/5.md. DEDUCED: notes/assumptions/61.md. -/
def eventAt (t : Nat) (f : State → State) (s : State) : Result := commandAt t f s

/-- A software write to a register: time advances to its arrival, the access is checked, and a write that is let
through has its effect and completes (R42, R44). -/
def writeTo (a : Acc) (addr : Nat) (f : State → State) (s : State) : Result :=
  commandAt a.t (fun s =>
    match s.checkPage a addr true 4 with
    | some c => s.violation a addr true c
    | none => f s.done) s

end Sys2Proof.Machine
end

