-- ==== Sys2Proof/Machine/CanBase.lean ====
section
/-! DEFINITION. CAN frames as buffers and packets hold them (spec/07, R150, R154, R155). -/

namespace Sys2Proof.Machine

def canPage (c : Nat) : Nat := 37 + c

def State.can (s : State) (c : Nat) : CanChan := KMap.get s.buses.can {} c
def State.setCan (s : State) (c : Nat) (x : CanChan) : State :=
  { s with buses := { s.buses with can := KMap.put s.buses.can c x } }

/-- CAN XL channels: CAN8 to CAN11 (R141). -/
def canXl (c : Nat) : Bool := 8 ≤ c

/-- The next valid data length of a CAN FD frame (R150). -/
def fdLen (n : Nat) : Nat :=
  if n ≤ 8 then n else if n ≤ 12 then 12 else if n ≤ 16 then 16 else if n ≤ 20 then 20 else if n ≤ 24 then 24
  else if n ≤ 32 then 32 else if n ≤ 48 then 48 else 64

/-- The frame that identifier, format, acceptance-field and data words stand for, as it is sent (R150). -/
def frameOfWords (id af : Word) (len : Nat) (data : List Byte) (fdf brs xlf sec : Bool) (vcid sdt : Nat) : CanFrame :=
  let fd := fdf && !xlf
  let rtr := bit id 30 && !fdf && !xlf
  let n := if xlf then len else if fd then fdLen (min len 64) else min len 8
  let body := (data.take (min len n) ++ List.replicate (n - min len data.length) (0xCC : Byte)).take n
  { id := fld id 28 0, ide := bit id 29, rtr := rtr, fdf := fd, brs := brs && fd, xlf := xlf, sec := sec
    vcid := vcid, sdt := sdt, af := af.toNat, len := n, data := if rtr then [] else body }

/-- Whether a frame's request goes to TX_FAILED at once (R150). -/
def State.frameRefused (s : State) (c : Nat) (fdf xlf : Bool) (len : Nat) : Bool :=
  let ctrl := (s.can c).ctrl
  (fdf && !xlf && !bit ctrl 15) || (xlf && !bit ctrl 16) || (xlf && len = 0)

/-- The frame of a packet in the layout of R154 (R155). -/
def packetFrame (l : List Byte) : CanFrame :=
  let id := word (leVal ((l.drop 8).take 4))
  let fmt := word (leVal ((l.drop 12).take 4))
  let xl := word (leVal ((l.drop 16).take 4))
  frameOfWords id (word (leVal ((l.drop 20).take 4))) (fld fmt 11 0) (l.drop 24) (bit fmt 12) (bit fmt 13) (bit fmt 15)
    (bit fmt 16) (fld xl 7 0) (fld xl 15 8)

/-- A message queue (R209). -/
def isMsgQueue (q : Nat) : Bool := 216 ≤ q && q < 4096

/-- A queue a page may use: a message queue that the page's owner owns (R155, R167). -/
def State.ownQueue (s : State) (idx q : Nat) : Bool := isMsgQueue q && s.queueOwner q == s.pageOwner idx

end Sys2Proof.Machine
end

