-- ==== Sys2Proof/Machine/Pool.lean ====
section
/-! DEFINITION. The cell pool and its queues: cells and banks, packets, the policy of message queues, and the queue
apertures (spec/09, R207 to R225). -/

namespace Sys2Proof.Machine

/-! ## Banks (R207, R208, R223, R224) -/

def qmgrPage : Nat := 84

/-- Cells per bank (R207). -/
def bankSize (b : Nat) : Nat := if b < 16 then 4096 else 2097152

/-- The extension base: the bits of its registers that R230 says are used (R208). -/
def State.extBase (s : State) : Nat := s.regF R.QMGR_EXT_BASE_LO 31 29 * 0x20000000 + s.regF R.QMGR_EXT_BASE_HI 3 0 * 2 ^ 32

/-- The extension banks that the configuration enables. -/
def State.extEnabled (s : State) : List Nat := (bitsOf (s.reg R.QMGR_BANK_ENABLE) 32).filter (16 ≤ ·)

/-- Whether an address range lies within DRAM (R37). -/
def inDram (addr len : Nat) : Bool := 0x800000000 ≤ addr && addr + len ≤ 0xC00000000

/-- QMGR_BANK_STATUS.EXT_INVALID (R208). -/
def State.extInvalid (s : State) : Bool :=
  s.regF R.QMGR_EXT_BASE_LO 28 0 != 0 || s.extEnabled.any (fun b => !inDram (s.extBase + (b - 16) * 0x20000000) 0x20000000)

def State.bankRaw (s : State) (b : Nat) : PoolBank :=
  KMap.get s.pool.banks { state := if b < 16 then .active else .off } b

/-- A bank; every extension bank behaves as OFF while EXT_INVALID is 1 (R208). -/
def State.pbank (s : State) (b : Nat) : PoolBank :=
  if 16 ≤ b && s.extInvalid then { s.bankRaw b with state := .off } else s.bankRaw b

def State.setPbank (s : State) (b : Nat) (x : PoolBank) : State :=
  { s with pool := { s.pool with banks := KMap.put s.pool.banks b x } }

/-- The banks of a pool: on-chip or extension. -/
def poolBanks (ext : Bool) : List Nat := if ext then (List.range 16).map (· + 16) else List.range 16

def PoolBank.used (x : PoolBank) : Nat := x.taken.length

def State.freeOf (s : State) (b : Nat) : Nat := bankSize b - (s.pbank b).used

/-- The 26-bit index of a cell of a bank, and the bank and the cell that an index names (R207). -/
def cellIndex (b c : Nat) : Nat := if b < 16 then b * 4096 + c else 0x2000000 + (b - 16) * 0x200000 + c
def cellBankOf (i : Nat) : Nat := if i < 0x2000000 then i / 4096 % 16 else 16 + i / 0x200000 % 16
def cellOf (i : Nat) : Nat := if i < 0x2000000 then i % 4096 else i % 0x200000

/-- The storage address of an extension cell (R207). -/
def State.cellAddr (s : State) (i : Nat) : Nat := s.extBase + (cellBankOf i - 16) * 0x20000000 + 256 * cellOf i

/-- The free cell with `k` free cells below it, from cell `n` up; `taken` ascends. -/
def nthFree : List Nat → Nat → Nat → Nat
  | [], n, k => n + k
  | x :: t, n, k => if k < x - n then n + k else nthFree t (x + 1) (k - (x - n))

/-- F: the free cells of the ACTIVE banks of a pool (R224). -/
def State.poolF (s : State) (ext : Bool) : Nat :=
  ((poolBanks ext).filter (fun b => (s.pbank b).state == .active)).foldl (fun n b => n + s.freeOf b) 0

/-- The free cells of ACTIVE and PAUSED banks: QMGR_FREE and QMGR_EXT_FREE (R224). -/
def State.poolFree (s : State) (ext : Bool) : Nat :=
  ((poolBanks ext).filter (fun b => (s.pbank b).state == .active || (s.pbank b).state == .paused)).foldl
    (fun n b => n + s.freeOf b) 0

/-- The reserve of a pool (R216). -/
def State.poolReserve (s : State) (ext : Bool) : Nat :=
  if ext then s.regF R.QMGR_EXT_RESERVE 25 0 else s.regF R.QMGR_RESERVE 16 0

/-- QMGR_FREE_MIN takes the current on-chip free count when that is lower. -/
def State.noteFree (s : State) : State :=
  if s.poolFree false < s.regF R.QMGR_FREE_MIN 25 0 then s.putF R.QMGR_FREE_MIN 25 0 (s.poolFree false) else s

/-- POOL_LOW and EXT_LOW are raised when F falls below the reserve (R224). -/
def State.noteLow (s old : State) : State :=
  let low (x : State) (ext : Bool) : Bool := x.poolF ext < x.poolReserve ext
  (s.raiseIf (low s false && !low old false) qmgrPage 0).raiseIf (low s true && !low old true) qmgrPage 1

/-- The bank of a list with the most free cells, the lower number first on a tie (R223). -/
def State.mostFree (s : State) (l : List Nat) : Option Nat :=
  l.foldl (fun best b =>
    if s.freeOf b = 0 then best
    else match best with
      | none => some b
      | some x => if s.freeOf x < s.freeOf b then some b else some x) none

/-- The bank the next cell of a pool is taken from (R223). -/
def State.cellBank (s : State) (ext : Bool) : Option Nat :=
  let of (st : BankState) := (poolBanks ext).filter (fun b => (s.pbank b).state == st)
  match s.mostFree (of .active) with
  | some b => some b
  | none => s.mostFree (of .paused)

/-- A cell is taken: its index and the new state. Which free cell of the bank it is, the spec does not say: the lowest on
chip, where no access sees it, and a free value in DRAM. DESIGN CHOICE: notes/assumptions/73.md. -/
def State.takeCell (s : State) (ext : Bool) : Option (Nat × State) :=
  match s.cellBank ext with
  | none => none
  | some b =>
    let x := s.bankRaw b
    let r := if ext then s.takeFree else (0, s)
    let c := nthFree x.taken 0 (r.1 % s.freeOf b)
    some (cellIndex b c, (((r.2.setPbank b { x with taken := insertSorted x.taken c }).noteFree).noteLow s))

/-- Cells return to the free lists of their banks. -/
def State.freeCells (s : State) (l : List Nat) : State :=
  l.foldl (fun s i =>
    let b := cellBankOf i
    let x := s.bankRaw b
    s.setPbank b { x with taken := x.taken.filter (fun c => c ≠ cellOf i) }) s

/-- Bytes are written into a cell: those of an extension cell lie in DRAM (R207). -/
def State.storeCell (s : State) (i off : Nat) (l : List Byte) : State :=
  if 0x2000000 ≤ i && inDram (s.cellAddr i + off) l.length then s.writeBytes (s.cellAddr i + off) l else s

/-! ## Queues and packets (R209 to R212) -/

def State.queue (s : State) (q : Nat) : Queue := KMap.get s.pool.queues {} q

def State.setQueue (s : State) (q : Nat) (x : Queue) : State :=
  { s with pool := { s.pool with queues := KMap.set s.pool.queues {} q x } }

def cfgAReset : Word := 0x2710
def cfgBReset : Word := 0x40

def State.qcfgA (s : State) (q : Nat) : Word := KMap.get s.pool.cfgA cfgAReset q
def State.qcfgB (s : State) (q : Nat) : Word := KMap.get s.pool.cfgB cfgBReset q

/-- The age limit of a queue in ns (R188, R218). -/
def State.ageNs (s : State) (q : Nat) : Nat :=
  let us := if q < 216 then s.regF (R.SWP_QCFG (q / 8) (q % 8)) 17 0 else fld (s.qcfgA q) 17 0
  (if us = 0 then 262143 else us) * 1000

/-- Read words of a packet (R212). -/
def Packet.readWords (p : Packet) : Nat := ceilDiv p.data.length 32

/-- Read words not yet popped. -/
def Packet.left (p : Packet) : Nat := p.readWords - p.popped

/-- The cells a packet of a message queue still holds. -/
def Packet.held (p : Packet) : Nat := p.cells.length - p.freed

/-- The live open packets of a queue, and of the module (R210). -/
def Queue.liveOpens (x : Queue) : List Packet := (x.opens.map (·.2)).filter (fun p => !p.dead)

def State.openCount (s : State) : Nat := s.pool.queues.foldl (fun n x => n + x.2.liveOpens.length) 0

/-- The cells a message queue's visible and open packets hold (R216). -/
def Queue.heldCells (x : Queue) : Nat :=
  (x.visible ++ x.liveOpens).foldl (fun n p => n + p.held) 0

/-- QCNT_Q of a queue (R222). -/
def Queue.count (x : Queue) : Word :=
  let n := x.visible.foldl (fun n p => n + p.left) 0
  setBit (setBit (setBit (mkF 27 0 (min n 0xFFFFFFF)) 29 (!x.liveOpens.isEmpty)) 30 (x.gap != 0)) 31 (!x.visible.isEmpty)

def WrResult.code : WrResult → Nat
  | .none => 0 | .committed => 1 | .rewound => 2 | .droppedFull => 3 | .droppedPool => 4 | .droppedLong => 5
  | .droppedOpen => 6 | .droppedAge => 7 | .droppedState => 8 | .emptyCommit => 9

/-- WR_STATUS of a writer (R213). DEDUCED: notes/assumptions/34.md. -/
def Queue.wrStatus (x : Queue) (w : Nat) : Word :=
  let r := mkF 19 16 (KMap.get x.results .none w).code
  match KMap.get? x.opens w with
  | none => r
  | some p => setBit (setBit (setFld r 15 0 (if p.dead then 0 else p.data.length / 4)) 30 p.dead) 31 true

/-- RD_HEAD of a queue (R213). -/
def Queue.rdHead (x : Queue) : Word :=
  match x.visible with
  | [] => 0
  | p :: _ => setBit (mkF 16 0 (p.data.length - 32 * p.popped)) 31 (p.popped != 0)

/-- An open packet of writer `w` is dropped (R216, R217): its cells return, the gap counter takes `gap`, and further
words are discarded. DEDUCED: notes/assumptions/34.md. -/
def State.dropOpen (s : State) (q w : Nat) (r : WrResult) (gap : Nat) : State :=
  let x := s.queue q
  let p := KMap.get x.opens {} w
  let s := s.freeCells (p.cells.drop p.freed)
  s.setQueue q { x with opens := KMap.put x.opens w { p with dead := true, data := [], cells := [], freed := 0 },
                        results := KMap.put x.results w r, gap := x.gap + gap }

/-- A drop under R216: it counts in QMGR_MSG_DROP and in the gap counter. -/
def State.dropMsg (s : State) (q w : Nat) (r : WrResult) : State :=
  (s.dropOpen q w r 1).addF R.QMGR_MSG_DROP 31 0 1

/-- Why a message queue refuses a cell (R216), the conditions in the order of the table. -/
def State.cellRefused (s : State) (q : Nat) : Option WrResult :=
  let ext := bit (s.qcfgA q) 30
  if !bit (s.qcfgA q) 31 then some .droppedState
  else if max 1 (fld (s.qcfgB q) 25 0) < (s.queue q).heldCells + 1 then some .droppedFull
  else if s.poolFree ext ≤ s.poolReserve ext then some .droppedPool
  else none

/-- Replace the open packet of a writer. -/
def State.putOpen (s : State) (q w : Nat) (p : Packet) : State :=
  let x := s.queue q
  s.setQueue q { x with opens := KMap.put x.opens w p }

/-- One write word (4 bytes) is appended to the open packet of writer `w` (R210, R213, R216).
DEDUCED: notes/assumptions/34.md. -/
def State.appendWord (s : State) (q w part : Nat) (colour : Option Bool) (bytes : List Byte) : State :=
  let s := match KMap.get? (s.queue q).opens w with
    | some _ => s
    | none =>
      let full := decide (1024 ≤ s.openCount)
      let s := s.putOpen q w { writer := w, part := part, born := s.clk.lt, colour := colour }
      if full then s.dropOpen q w .droppedOpen 0 else s
  let p := KMap.get (s.queue q).opens {} w
  if p.dead then s
  else if p.data.length = 131072 then s.dropOpen q w .droppedLong 0
  else if p.data.length % 256 = 0 then
    match s.cellRefused q with
    | some r => s.dropMsg q w r
    | none =>
      match s.takeCell (bit (s.qcfgA q) 30) with
      | none => s.dropMsg q w .droppedPool
      | some (i, s) => (s.storeCell i 0 bytes).putOpen q w { p with data := p.data ++ bytes, cells := p.cells ++ [i] }
  else
    (s.storeCell (p.cells.getD (p.data.length / 256) 0) (p.data.length % 256) bytes).putOpen q w
      { p with data := p.data ++ bytes }

/-- The open packet of writer `w` leaves its slot with a result. -/
def State.closeOpen (s : State) (q w : Nat) (r : WrResult) : State :=
  let x := s.queue q
  s.setQueue q { x with opens := KMap.del x.opens w, results := KMap.put x.results w r }

/-- The cells of a frame that every copy has passed return to the free list; the frame leaves with its last copy
(R215, R187, R27). `hold` keeps a frame that is still arriving. -/
def State.releaseFrame (s : State) (f : Nat) (hold : Bool) : State :=
  match KMap.get? s.pool.frames f with
  | none => s
  | some fr =>
    let copies := s.pool.queues.flatMap (fun x => x.2.visible.filter (fun p => (p.copy.map (·.frame)) == some f))
    if copies.isEmpty && !hold then
      let s := s.freeCells (fr.cells.drop fr.freed)
      { s with pool := { s.pool with frames := KMap.del s.pool.frames f } }
    else if hold then s
    else
      let passed := copies.foldl (fun n p => min n (p.popped / 8)) fr.cells.length
      let s := s.freeCells ((fr.cells.take passed).drop fr.freed)
      { s with pool := { s.pool with frames := KMap.put s.pool.frames f { fr with freed := max fr.freed passed } } }

/-- Cells of a packet that leaves its queue return to the free list (R211, R219). -/
def State.packetCells (s : State) (p : Packet) : State :=
  match p.copy with
  | none => s.freeCells (p.cells.drop p.freed)
  | some m => s.releaseFrame m.frame m.arriving

/-- The queue of a channel's transmit stream, when the stream is in use (R155). -/
def State.txsQueue (s : State) (c : Nat) : Option Nat :=
  let w := s.reg (R.CAN_TXSCFG c)
  let q := fld w 11 0
  if canXl c && bit w 31 && s.ownQueue (canPage c) q then some q else none

/-- DEDUCED: notes/assumptions/36.md. -/
def State.txsHead (s : State) (c : Nat) : Option (Nat × Packet) :=
  match s.txsQueue c with
  | none => none
  | some q => match (s.queue q).visible with
    | [] => none
    | p :: _ => some (q, p)

/-- A stream head that cannot be sent: its request fails at once (R150). -/
def State.txsBad (s : State) (c : Nat) (p : Packet) : Bool :=
  let f := packetFrame p.data
  s.frameRefused c f.fdf f.xlf f.len || p.data.length < 24 || 2048 < f.len

/-- The stream head, at the front of queue `q`, reaches a final state and is read out (R155). -/
def State.txsLeaves (s : State) (c q : Nat) (p : Packet) (rest : List Packet) : State :=
  let x := s.can c
  let s := s.setCan c { x with stream := { x.stream with
    code := .txIdle, seq := (x.stream.seq + 1) % 65536, attempts := 0, cancelPending := false } }
  (s.setQueue q { s.queue q with visible := rest }).packetCells p

/-- The stream heads of a channel that cannot be sent fail at once (R150). -/
def State.txsDrop (s : State) (c : Nat) : Nat → State
  | 0 => s
  | n + 1 =>
    match s.txsHead c with
    | none => s
    | some (q, p) =>
      if (s.can c).stream.code != .txActive && s.txsBad c p then
        State.txsDrop (s.txsLeaves c q p ((s.queue q).visible.drop 1)) c n
      else s

/-- The same of every channel with a transmit stream. DEDUCED: notes/assumptions/36.md. -/
def State.txsSweep (s : State) : State :=
  [8, 9, 10, 11].foldl (fun s c =>
    match s.txsQueue c with
    | none => s
    | some q => s.txsDrop c (s.queue q).visible.length) s

/-- A packet has left its queue: its cells return, and a stream has a new head. -/
def State.leavePacket (s : State) (p : Packet) : State := (s.packetCells p).txsSweep

/-- A packet becomes visible at the tail and takes the gap counter (R211, R217). -/
def State.pushVisible (s : State) (q : Nat) (p : Packet) : State :=
  let x := s.queue q
  (s.setQueue q { x with visible := x.visible ++ [{ p with gap := min 65535 x.gap, seen := some s.clk.lt }], gap := 0 }).txsSweep

/-- The open packet of writer `w` is committed; `last` is the number of valid bytes of its last word (R211, R213). -/
def State.commitPacket (s : State) (q w last : Nat) : State :=
  let x := s.queue q
  match KMap.get? x.opens w with
  | none => s.setQueue q { x with results := KMap.put x.results w .emptyCommit }
  | some p =>
    let n := p.data.length - 4 + last
    if p.dead then s.setQueue q { x with opens := KMap.del x.opens w }
    else if 131071 < n then (s.dropOpen q w .droppedLong 0).closeOpen q w .droppedLong
    else (s.closeOpen q w .committed).pushVisible q { p with data := p.data.take n }

/-- The open packet of writer `w` is rewound (R211). -/
def State.rewindPacket (s : State) (q w : Nat) : State :=
  let x := s.queue q
  match KMap.get? x.opens w with
  | none => s
  | some p =>
    if p.dead then s.setQueue q { x with opens := KMap.del x.opens w }
    else (s.freeCells (p.cells.drop p.freed)).closeOpen q w .rewound

/-- A list of bytes cut into pieces of `n`. -/
def chunks (n : Nat) : Nat → List Byte → List (List Byte)
  | 0, _ => []
  | k + 1, l => if l.isEmpty then [] else l.take n :: chunks n k (l.drop n)

/-- Bytes filled up with zeros to `n`. -/
def padTo (n : Nat) (l : List Byte) : List Byte := l ++ List.replicate (n - l.length) 0

/-- The words of a byte list are appended. -/
def State.appendBytes (s : State) (q w part : Nat) (colour : Option Bool) (l : List Byte) : State :=
  (chunks 4 (l.length + 1) l).foldl (fun s x => s.appendWord q w part colour (padTo 4 x)) s

/-- Valid bytes of the last word of an `n`-byte packet. -/
def lastValid (n : Nat) : Nat := if n % 4 = 0 then 4 else n % 4

/-- A hardware writer writes one whole packet; the flag says whether it became visible (R211, R216). -/
def State.writePacket (s : State) (q w part : Nat) (colour : Option Bool) (l : List Byte) : State × Bool :=
  if !isMsgQueue q || l.isEmpty then (s, false)
  else
    let s := (s.appendBytes q w part colour l).commitPacket q w (lastValid l.length)
    (s, KMap.get (s.queue q).results .none w == .committed)

/-! ## Reading (R212, R215) -/

/-- Bytes of read word `i` of a packet. -/
def Packet.word32 (p : Packet) (i : Nat) : List Byte := padTo 32 ((p.data.drop (32 * i)).take 32)

/-- The tag of read word `i` of a packet (R212). -/
def Packet.tag (p : Packet) (i : Nat) : Word :=
  let last := decide (i + 1 = p.readWords)
  let t := mkF 5 0 (min 32 (p.data.length - 32 * i))
  let t := setBit (setBit (setBit t 9 (i == 0)) 10 last) 12 (p.errs.contains i)
  if i = 0 then setFld t 31 16 p.gap else t

/-- What ECC finds in a cell that is read: QMGR_ECC, and ECC_UNCORR (R212, R230).
DESIGN CHOICE: notes/assumptions/64.md. -/
def State.cellFound (s : State) (e : EccFound) : State :=
  match e with
  | .clean => s
  | .corrected => s.addF R.QMGR_ECC 15 0 1
  | .uncorrectable => (s.addF R.QMGR_ECC 31 16 1).raise qmgrPage 4

/-- What ECC finds in the next read word of the head packet: an uncorrectable error sets ERR in its tag.
DESIGN CHOICE: notes/assumptions/64.md. -/
def State.cellEcc (s : State) (q : Nat) (e : EccFound) : State :=
  match (s.queue q).visible with
  | [] => s
  | p :: t =>
    let s := s.cellFound e
    if e = .uncorrectable then s.setQueue q { s.queue q with visible := { p with errs := p.popped :: p.errs } :: t } else s

/-- The head packet gives its next read word: its bytes, its tag, and the state after (R215). -/
def State.popWord (s : State) (q : Nat) : List Byte × Word × State :=
  let x := s.queue q
  match x.visible with
  | [] => (List.replicate 32 0, setBit 0 11 true, s)
  | p :: t =>
    let i := p.popped
    let p' := { p with popped := i + 1 }
    if p'.readWords ≤ i + 1 then (p.word32 i, p.tag i, (s.setQueue q { x with visible := t }).leavePacket p)
    else
      let passed := (i + 1) / 8
      let (p', s') := match p.copy with
        | none => ({ p' with freed := max p.freed passed }, s.freeCells ((p.cells.take passed).drop p.freed))
        | some _ => (p', s)
      let s' := s'.setQueue q { x with visible := p' :: t }
      (p.word32 i, p.tag i, match p.copy with
        | none => s'
        | some m => s'.releaseFrame m.frame m.arriving)

/-- The head packet leaves whole, as hardware consumers read it: its bytes, its gap tag and the state after. -/
def State.popPacket (s : State) (q : Nat) : Option (Packet × State) :=
  let x := s.queue q
  match x.visible with
  | [] => none
  | p :: t => some (p, (s.setQueue q { x with visible := t }).leavePacket p)

/-- The head packet leaves whole to a hardware reader, `e` being what ECC finds in its cells (R212, R230).
DEDUCED: notes/assumptions/32.md. DEDUCED: notes/assumptions/34.md. -/
def State.readPacket (s : State) (q : Nat) (e : EccFound) : Option (Packet × State) :=
  (s.popPacket q).map (fun r =>
    (if e = .uncorrectable then { r.1 with errs := r.1.popped :: r.1.errs } else r.1, r.2.cellFound e))

/-- Every visible packet of a queue that meets a condition leaves (R219). -/
def State.dropVisible (s : State) (q : Nat) (c : Packet → Bool) : State :=
  let x := s.queue q
  let s := s.setQueue q { x with visible := x.visible.filter (fun p => !c p) }
  (x.visible.filter c).foldl (fun s p => s.leavePacket p) s

/-! ## Ageing of message queues (R217, R218) -/

def State.tooOld (s : State) (q : Nat) (p : Packet) : Bool := !p.claimed && decide (p.born + s.ageNs q < s.clk.lt)

/-- The visible packets left after ageing, with the gap counts moved on, and the count still to pass (R217). -/
def ageOut (old : Packet → Bool) : Nat → List Packet → List Packet × Nat
  | n, [] => ([], n)
  | n, p :: t =>
    if old p then ageOut old (n + 1 + (if p.popped = 0 then p.gap else 0)) t
    else
      let r := ageOut old 0 t
      ({ p with gap := if p.popped = 0 then min 65535 (p.gap + n) else p.gap } :: r.1, r.2)

/-- DEDUCED: notes/assumptions/34.md. -/
def State.ageQueue (s : State) (q : Nat) : State :=
  let old := s.tooOld q
  let s := ((s.queue q).opens.filter (fun x => !x.2.dead && old x.2)).foldl
    (fun s x => s.dropOpen q x.1 .droppedAge 1) s
  let x := s.queue q
  let gone := x.visible.filter old
  let r := ageOut old 0 x.visible
  let s := s.setQueue q { x with visible := r.1, gap := x.gap + r.2 }
  (gone.foldl (fun s p => s.leavePacket p) s).addF R.QMGR_AGED 31 0 gone.length

def execMsgAgeOut (t : Nat) (q : Fin 4096) (s : State) : Result :=
  eventAt t (fun s => if isMsgQueue q then s.ageQueue q else s) s

/-! ## Queue apertures (R213, R214) -/

def apertureBase : Nat := 0x21000000

/-- Whether the sizes of the layout allow an access (R213). -/
def apSizeOk (off size : Nat) : Bool :=
  if off < 0x7E0 then (size = 4 || size = 8) && off % size = 0 && off + size ≤ 0x7E0
  else if 0x800 ≤ off && off < 0x820 then
    (size = 32 && off = 0x800) || ((size = 4 || size = 8) && off % size = 0)
  else size = 4 && off % 4 = 0

/-- Why an aperture access is refused (R214). DEDUCED: notes/assumptions/34.md. -/
def State.apCheck (s : State) (a : Acc) (q off size : Nat) : Option BusCause :=
  let p := State.accPart a
  let writeHalf := decide (off < 0x800)
  let unmapped := q < 216 && (writeHalf || !(176 ≤ q && q < 200))
  if unmapped then some .unmapped
  else if !apSizeOk off size then some .size
  else if a.req.val = 19 && !s.sec.svcOpen then some .notOwner
  else if p = 0 || s.queueOwner q = p then none
  else if writeHalf && off ≤ 0x7E8 && isMsgQueue q && bit (s.qcfgA q) 29 then none
  else some .notOwner

/-- A software access to a queue aperture: time, the check, then its effect. -/
def apertureAt (a : Acc) (q off size : Nat) (write : Bool) (f : State → State) (s : State) : Result :=
  commandAt a.t (fun s =>
    match s.apCheck a q off size with
    | some c => s.violation a (apertureBase + 0x1000 * q + off) write c
    | none => f s) s

/-- A write to WR_DATA: its words in address order (R213). -/
def State.wrData (s : State) (a : Acc) (q val size : Nat) : State :=
  (s.appendBytes q a.req (State.accPart a) none (leBytes size val)).done

def execWrData (a : Acc) (q : Fin 4096) (off : Fin 2016) (val size : Nat) (s : State) : Result :=
  apertureAt a q off size true (fun s => s.wrData a q val size) s

/-- WR_COMMIT.BYTES: 0 behaves as 4, and larger values as the 4 bytes that a word has (R213). -/
def State.wrCommit (s : State) (a : Acc) (q val : Nat) : State :=
  let b := val % 8
  (s.commitPacket q a.req (if b = 0 || 4 < b then 4 else b)).done

def execWrCommit (a : Acc) (q : Fin 4096) (val : Word) (s : State) : Result :=
  apertureAt a q 0x7E0 4 true (fun s => s.wrCommit a q val.toNat) s

def execWrRewind (a : Acc) (q : Fin 4096) (s : State) : Result :=
  apertureAt a q 0x7E4 4 true (fun s => (s.rewindPacket q a.req).done) s

/-- The rest of the head packet is discarded (R213). -/
def State.skipHead (s : State) (q : Nat) : State :=
  match s.popPacket q with
  | none => s
  | some (_, s) => s

def State.rdSkip (s : State) (q : Nat) (val : Word) : State := (if bit val 0 then s.skipHead q else s).done

def execRdSkip (a : Acc) (q : Fin 4096) (val : Word) (s : State) : Result :=
  apertureAt a q 0x828 4 true (fun s => s.rdSkip q val) s

/-- Every visible, unclaimed word of the queue is discarded, but for a packet that has become visible in this fabric
cycle (R219). -/
def State.flushQueue (s : State) (q : Nat) : State :=
  s.dropVisible q (fun p => !p.claimed && !(p.copy.map (·.begun)).getD false && p.seen != some s.clk.lt)

def State.qFlush (s : State) (q : Nat) (val : Word) : State := (if bit val 0 then s.flushQueue q else s).done

def execQFlush (a : Acc) (q : Fin 4096) (val : Word) (s : State) : Result :=
  apertureAt a q 0xFE0 4 true (fun s => s.qFlush q val) s

/-- A read at an aperture offset other than RD_WORD (R213). -/
def State.apRead (s : State) (a : Acc) (q off : Nat) : State :=
  let x := s.queue q
  if off = 0x7E8 then s.done (x.wrStatus a.req).toNat
  else if off = 0x820 then s.done (KMap.get x.latches {} a.req).tag.toNat
  else if off = 0x824 then s.done x.rdHead.toNat
  else if off = 0xFE8 then s.done x.count.toNat
  else s.done 0

/-! ## Banks added and removed (R223, R224) -/

/-- A bank takes a new state. -/
def State.moveBank (s : State) (b : Nat) (st : BankState) : State := s.setPbank b { s.bankRaw b with state := st }

/-- A DRAINING bank is PAUSED while F is below the reserve (R224). -/
def State.bankPaused (s : State) (b : Nat) : State :=
  if (s.pbank b).state == .draining && s.poolF (16 ≤ b) < s.poolReserve (16 ≤ b) then
    (s.moveBank b .paused).raise qmgrPage 3
  else s

def execBankPaused (t : Nat) (bank : Fin 32) (s : State) : Result := eventAt t (fun s => s.bankPaused bank) s

def State.bankUnpaused (s : State) (b : Nat) : State :=
  if (s.pbank b).state == .paused && s.poolReserve (16 ≤ b) + 512 ≤ s.poolF (16 ≤ b) then (s.moveBank b .draining).noteFree else s

def execBankUnpaused (t : Nat) (bank : Fin 32) (s : State) : Result := eventAt t (fun s => s.bankUnpaused bank) s

def State.bankDone (s : State) (b : Nat) : State :=
  if (s.pbank b).state == .draining && (s.pbank b).used = 0 then (s.moveBank b .off).raise qmgrPage 2 else s

def execBankDone (t : Nat) (bank : Fin 32) (s : State) : Result := eventAt t (fun s => s.bankDone bank) s

/-- The QMGR page was committed, `before` being the state before the edge: banks come and go, the free counts and the
reserves are compared anew, and the ring of the recorder is judged (R223, R224, R226). -/
def State.bankCommit (s before : State) : State :=
  let old := before.reg R.QMGR_BANK_ENABLE
  let new := s.reg R.QMGR_BANK_ENABLE
  let s : State := { s with pool := { s.pool with trace := { s.pool.trace with judged := true } } }
  let s := (bitsOf (new &&& ~~~old) 32).foldl (fun s b => (s.moveBank b .active)) s
  let gone := (bitsOf (old &&& ~~~new) 32).filter (fun b => (s.bankRaw b).state == .active)
  let s := gone.foldl (fun s b => s.moveBank b .draining) s
  (gone.foldl (fun s b => s.bankPaused b) s).noteFree.noteLow before

/-- QMGR_BANK_STATUS and the masks beside it (R224, R208). -/
def State.viewQmgr (s : State) (off : Nat) : Option Word :=
  let mask (c : BankState → Bool) : Word := wordOfBits ((List.range 32).filter (fun b => c (s.pbank b).state))
  let any (c : BankState → Bool) : Bool := (List.range 32).any (fun b => c (s.pbank b).state)
  let sel := s.regF R.QMGR_QSEL 11 0
  match off with
  | 0x58 => some (mask (· != .off))
  | 0x5C => some (mask (fun x => x == .draining || x == .paused))
  | 0x60 => some (setBit (setBit (setBit 0 31 (any (· == .paused))) 30 (any (fun x => x == .draining || x == .paused)))
      29 s.extInvalid)
  | 0x64 => some (word (s.poolFree false))
  | 0x68 => some (word (s.poolFree true))
  | 0x74 => some (if isMsgQueue sel then s.qcfgA sel else 0)
  | 0x78 => some (if isMsgQueue sel then s.qcfgB sel else 0)
  | 0x7C => some (word s.openCount)
  | _ => if 0x80 ≤ off && off < 0x100 then some (word (s.bankRaw ((off - 0x80) / 4)).used) else none

end Sys2Proof.Machine
end

