-- ==== Sys2Proof/Machine/MemOps.lean ====
section
/-! DEFINITION. The address space: its ranges (R37, R38), the memory protection of the partitions (R318 to R320), and the
rights to the on-die memories (R119, R122, R233, R311). -/

namespace Sys2Proof.Machine

/-- The ranges of R37, with the parts that R311 and R119 divide them into. -/
inductive MemRange where
  | none | bootRom | cache | pool | tables | tcm0 | tcm1 | shared | retention | loadSram | ledger | secSram | program
  | misc | window | mbWindow | linWindow | pages | partner | dram
  deriving DecidableEq, Repr

/-- The range an address lies in. -/
def rangeOf (a : Nat) : MemRange :=
  if a < 0x40000 then .bootRom
  else if a < 0x20000000 then .none
  else if a < 0x21000000 then .cache
  else if a < 0x22000000 then .pool
  else if a < 0x22800000 then .tables
  else if a < 0x22900000 then .tcm0
  else if a < 0x22A00000 then .tcm1
  else if a < 0x22C00000 then .shared
  else if a < 0x22D00000 then .retention
  else if a < 0x22D80000 then .loadSram
  else if a < 0x22E00000 then .ledger
  else if a < 0x22F00000 then .secSram
  else if a < 0x22F10000 then .program
  else if a < 0x23000000 then .misc
  else if (0x30000000 ≤ a && a < 0x30088000) || (0x30100000 ≤ a && a < 0x3010D800)
      || (0x30200000 ≤ a && a < 0x30610000) then .window
  else if 0x31000000 ≤ a && a < 0x31C00000 then .mbWindow
  else if 0x32000000 ≤ a && a < 0x32100000 then .linWindow
  else if 0x40000000 ≤ a && a < 0x41000000 then .pages
  else if 0x41000000 ≤ a && a < 0x42000000 then .partner
  else if 0x800000000 ≤ a && a < 0xC00000000 then .dram
  else .none

/-- Ranges that no access reaches (R38). -/
def MemRange.unmapped : MemRange → Bool
  | .none | .cache | .tables | .secSram => true
  | _ => false

/-- A kind of memory access (R318). -/
inductive MemKind where
  | read | write | fetch
  deriving DecidableEq, Repr

/-- The bit of a region's word 3 that permits an access. -/
def MemKind.permit : MemKind → Nat
  | .read => 0 | .write => 1 | .fetch => 2

/-! ## Regions (R318 to R320) -/

/-- Region `r` of partition `p` in a copy of the partition table: its word. -/
def ptRegion (m : KMap Word) (p r k : Nat) : Word := ptWord m p (0x400 + 16 * r + 4 * k)

def regionBase (m : KMap Word) (p r : Nat) : Nat :=
  fld (ptRegion m p r 0) 31 12 * 4096 + fld (ptRegion m p r 1) 3 0 * 2 ^ 32
def regionSize (m : KMap Word) (p r : Nat) : Nat := min 4194304 (fld (ptRegion m p r 2) 22 0) * 4096

/-- The session area of the transport engine, 16 MiB at TPE_BUF, while the engine is enabled (R277). -/
def State.tpeArea (s : State) : Nat := s.regPair R.TPE_BUF_LO R.TPE_BUF_HI % 2 ^ 36

/-- TPE_CTRL.BUF_INVALID (R277). -/
def State.tpeInvalid (s : State) : Bool :=
  s.regB R.TPE_CTRL 0 && (s.tpeArea % 0x1000000 != 0 || !inDram s.tpeArea 0x1000000)

/-- The transport engine is enabled and not disabled by its buffer (R277). -/
def State.tpeOn (s : State) : Bool := s.regB R.TPE_CTRL 0 && !s.tpeInvalid

/-- The engine areas, as base and size (R320). -/
def State.engineAreas (s : State) : List (Nat × Nat) :=
  (s.extEnabled.map (fun b => (s.extBase + (b - 16) * 0x20000000, 0x20000000)))
    ++ (if s.tpeOn then [(s.tpeArea, 0x1000000)] else [])

def overlaps (a n b k : Nat) : Bool := a < b + k && b < a + n

/-- Whether an address range touches an engine area. -/
def State.inEngineArea (s : State) (a n : Nat) : Bool := s.engineAreas.any (fun x => overlaps a n x.1 x.2)

/-- A region in force (R318, R320). -/
def State.regionOn (s : State) (m : KMap Word) (p r : Nat) : Bool :=
  bit (ptRegion m p r 3) 31 && regionSize m p r != 0 && !s.inEngineArea (regionBase m p r) (regionSize m p r)

/-- MIRROR regions of a partition total more than 256 MiB (R320). -/
def State.mirrorTooBig (s : State) (m : KMap Word) (p : Nat) : Bool :=
  decide (0x10000000 < ((List.range 32).filter (fun r => s.regionOn m p r && bit (ptRegion m p r 3) 4)).foldl
    (fun n r => n + regionSize m p r) 0)

/-- The regions of `p` that contain all of a range, by a permission bit. -/
def State.regionsAt (s : State) (m : KMap Word) (p a n k : Nat) : List Nat :=
  (List.range 32).filter (fun r =>
    s.regionOn m p r && bit (ptRegion m p r 3) k && regionBase m p r ≤ a && a + n ≤ regionBase m p r + regionSize m p r)

/-- A range of partition `p` is mirrored to the partner (R318, R394). -/
def State.mirroredAt (s : State) (m : KMap Word) (p a n : Nat) : Bool :=
  !s.mirrorTooBig m p && (s.regionsAt m p a n 1).any (fun r => bit (ptRegion m p r 3) 4)

/-! ## Access to memory (R38, R119, R122, R233, R311, R319) -/

/-- Why an access of `n` bytes by partition `p` and requester `req` is refused; `m` is the partition table in force.
DEDUCED: notes/assumptions/16.md. DEDUCED: notes/assumptions/50.md. -/
def State.memCheck (s : State) (m : KMap Word) (p req a n : Nat) (k : MemKind) : Option BusCause :=
  let owned (b : Bool) : Option BusCause := if b then none else some .notOwner
  if rangeOf a ≠ rangeOf (a + n - 1) || (rangeOf a).unmapped then some .unmapped
  else if req = 19 && !s.sec.svcOpen then some .notOwner
  else match rangeOf a with
    | .bootRom => owned (p = 0 && k ≠ .write)
    | .tcm0 => owned (p = 0 || req = 0)
    | .tcm1 => owned (p = 0 || req = 1)
    | .loadSram | .misc => owned (p = 0)
    | .ledger =>
      if !(p = 0 || ownerOfPage m 16 = p) then some .notOwner
      else if k = .write && !s.load.ledgRestore then some .refused else none
    | .program =>
      let c := (a - 0x22F00000) / 0x400
      if !(p = 0 || ownerOfPage m (101 + c / 8) = p) then some .notOwner
      else if n ≠ 4 || a % 4 ≠ 0 then some .size
      else
        let st := (KMap.get s.dma.chans {} c).state
        if k = .write && (st == .running || st == .waiting || st == .paused) then some .refused else none
    | .shared | .retention | .dram =>
      if p = 0 then owned (!s.inEngineArea a n) else owned (!(s.regionsAt m p a n k.permit).isEmpty)
    | _ => some .unmapped

/-- Refusals that are recorded as violations (R44, R122, R233). -/
def BusCause.recorded : BusCause → Bool
  | .notOwner | .size | .unmapped | .partnerWrite | .partnerDown => true
  | _ => false

/-- An access completes with a bus error, recorded where R44 says so. -/
def State.refuse (s : State) (a : Acc) (addr : Nat) (write : Bool) (c : BusCause) : State :=
  if c.recorded then s.violation a addr write c else s.busError c

end Sys2Proof.Machine
end

