-- ==== Sys2Proof/Machine/DmaOps.lean ====
section
/-! DEFINITION. The channels of the DMA engine: their state machine, boundaries, page commands and registers (R232 to R234,
R247, R253 to R255). A burst is issued and completed within the command that carries it out, so that no transaction is in
flight between commands. -/

namespace Sys2Proof.Machine

def dmaPage (c : Nat) : Nat := 101 + c / 8

def State.dchan (s : State) (c : Nat) : DmaChan := KMap.get s.dma.chans {} c

def State.setDchan (s : State) (c : Nat) (x : DmaChan) : State :=
  { s with dma := { s.dma with chans := KMap.put s.dma.chans c x } }

/-- The eight channels of DMA page `idx`. -/
def dmaChans (idx : Nat) : List Nat := (List.range 8).map (fun n => 8 * (idx - 101) + n)

/-- The address of the instruction at PC, and one of its words (R233, R235). -/
def State.dmaPcAddr (s : State) (c : Nat) : Nat := 0x22F00000 + 0x400 * c + 16 * (s.dchan c).pc
def State.dmaWord (s : State) (c k : Nat) : Word := word (s.readNum (s.dmaPcAddr c + 4 * k) 4)

/-- The owner of a channel (R232). -/
def State.dmaOwner (s : State) (c : Nat) : Nat := s.pageOwner (dmaPage c)

/-- The writer number of a channel: each channel is its own writer (R243). DEDUCED: notes/assumptions/34.md. -/
def dmaWriter (c : Nat) : Nat := 64 + c

/-- A started item is in progress: a step between its bursts, a step to be written back, a fence or a SIGNAL (R253). -/
def DmaChan.inStep (x : DmaChan) : Bool := x.move.isSome || x.back.isSome || x.fencing || x.signalling

def DmaChan.runs (x : DmaChan) : Bool := x.state == .running || x.state == .waiting
def DmaChan.rests (x : DmaChan) : Bool := x.state == .idle || x.state == .halted || x.state == .fault

/-- A partition reset is in its drain phase over a page (R324). -/
def State.resetDrains (s : State) (idx : Nat) : Bool :=
  (List.range 32).any (fun p =>
    let x := s.part p
    x.state == .resetting && x.phase == .drain && ownerOfPage x.scope idx == p)

/-- A channel at a boundary stops there when STOP was written, its page has left ACTIVE, or its owner is being reset
(R234, R253, R324). Under DRAIN it first carries out its prefetched descriptors, unless it is WAITING. -/
def State.dmaSettle (s : State) (c : Nat) : State :=
  let x := s.dchan c
  let pg := s.page (dmaPage c)
  if !x.runs || x.inStep then s
  else if x.stop then s.setDchan c { x with state := .halted, stop := false, prefetch := 0 }
  else if pg.mode == .active && !s.resetDrains (dmaPage c) then s
  else if pg.mode == .quiescing && pg.stop == .drain && x.prefetch != 0 && x.state == .running
      && !s.resetDrains (dmaPage c) then s
  else s.setDchan c { x with state := .paused, prefetch := 0 }

/-- Every channel of a page that is at a boundary stops. -/
def State.dmaSettlePage (s : State) (idx : Nat) : State := (dmaChans idx).foldl (fun s c => s.dmaSettle c) s

/-- RESUME continues the paused channels at PC (R253). DEDUCED: notes/assumptions/46.md. -/
def State.dmaResume (s : State) (idx : Nat) : State :=
  (dmaChans idx).foldl (fun s c =>
    let x := s.dchan c
    if x.state == .paused then s.setDchan c { x with state := .running } else s) s

/-- The words of a source packet that a burst has begun are discarded (R241, R252, R254). -/
def State.dropSource (s : State) (m : DmaMove) : State :=
  if fld m.w0 27 26 = 1 && m.done ≠ 0 then
    let q := fld m.w1 11 0
    match (s.queue q).visible with
    | p :: _ => if p.popped ≠ 0 then s.skipHead q else s
    | [] => s
  else s

/-- The open packets of a channel are rewound (R229). -/
def State.rewindAll (s : State) (w : Nat) : State :=
  (s.pool.queues.filter (fun x => (KMap.get? x.2.opens w).isSome)).foldl (fun s x => s.rewindPacket x.1 w) s

/-- SQUASH of one channel (R254): its open packets are rewound, whatever its state (R229). -/
def State.dmaHalt (s : State) (c : Nat) : State :=
  let x := s.dchan c
  let s := s.rewindAll (dmaWriter c)
  if !x.runs && x.state != .paused then s
  else
    let s := match x.move with
      | some m => (s.dropSource m).addF (R.DMA_DISCARD c) 31 0 (m.hold.length + 4 * m.wait.isSome.toNat)
      | none => s
    s.setDchan c { x with state := .halted, squashed := true, stop := false, prefetch := 0, move := none, back := none
                          fencing := false, acked := false, signalling := false }

/-- A fault stops the channel: its open packets are rewound, the cause and the address are recorded and FAULT is raised
(R252). -/
def State.dmaFault (s : State) (c : Nat) (cause : DmaCause) (addr : Nat) : State :=
  let s := s.rewindAll (dmaWriter c)
  (s.setDchan c { s.dchan c with
    state := .fault, cause := cause, faultAddr := addr, stop := false, prefetch := 0, move := none, back := none,
    fencing := false, acked := false, signalling := false }).raise (dmaPage c) 8

/-- A fault whose address the spec does not state. DESIGN CHOICE: notes/assumptions/47.md. -/
def State.dmaFaultFree (s : State) (c : Nat) (cause : DmaCause) : State :=
  let r := s.takeFree
  r.2.dmaFault c cause (r.1 % 2 ^ 36)

/-- The read a channel's burst waits for completes with a bus error. -/
def State.dmaReadFail (s : State) (c tag addr : Nat) : State :=
  if (s.dchan c).move.any (fun m => m.wait == some tag) then s.dmaFault c .busError addr else s

/-- The read a channel's burst waits for has delivered its bytes. -/
def State.dmaReadDone (s : State) (c tag : Nat) (d : List Byte) : State :=
  let x := s.dchan c
  match x.move with
  | none => s
  | some m =>
    if m.wait = some tag then s.setDchan c { x with move := some { m with wait := none, hold := m.hold ++ d } } else s

def State.dmaSquash (s : State) (idx : Nat) : State := (dmaChans idx).foldl (fun s c => s.dmaHalt c) s

/-- Work items of a DMA page (R253). -/
def State.dmaItems (s : State) (idx : Nat) (started : Bool) : Nat :=
  (dmaChans idx).foldl (fun n c => n + (s.dchan c).inStep.toNat + (if started then 0 else (s.dchan c).prefetch)) 0

/-- A page reset returns every powered channel to IDLE (R254). -/
def State.dmaReset (s : State) (idx : Nat) : State :=
  (dmaChans idx).foldl (fun s c =>
    let x := s.dchan c
    if x.state == .off then s else s.setDchan c { removing := x.removing }) s

/-- The partner-view reads of a channel that are in flight. -/
def State.chanReads (s : State) (c : Nat) : Nat := s.ulf.reads.countP (fun r => r.chan == some c)

/-- A removed channel powers down once it rests and none of its transactions is in flight (R234). -/
def State.dmaOff (s : State) (c : Nat) : State :=
  let x := s.dchan c
  if x.removing && x.rests && s.chanReads c = 0 then (s.setDchan c { x with state := .off, removing := false }).raise (dmaPage c) 9 else s

/-- DMA_ENABLE of a page has changed at a commit edge (R234). -/
def State.dmaCommit (s : State) (idx : Nat) (old : Word) : State :=
  let new := s.reg (R.DMA_ENABLE (idx - 101))
  (List.range 8).foldl (fun s n =>
    let c := 8 * (idx - 101) + n
    let x := s.dchan c
    if bit new n then
      if x.state == .off then s.setDchan c { state := .idle } else s.setDchan c { x with removing := false }
    else if bit old n && x.state != .off then s.setDchan c { x with removing := true }
    else s) s

/-! ## Registers (R255) -/

def DmaState.code : DmaState → Nat
  | .off => 0 | .idle => 1 | .running => 2 | .waiting => 3 | .paused => 4 | .halted => 5 | .fault => 6

def DmaCause.code : DmaCause → Nat
  | .none => 0 | .badOpcode => 1 | .badWidth => 2 | .badLength => 3 | .busError => 4 | .queueRefused => 5 | .pcRange => 6
  | .ringInvalid => 7 | .ecc => 8 | .trigRefused => 9

def MoveResult.code : MoveResult → Nat
  | .ok => 0 | .trunc => 1 | .aged => 2 | .destDropped => 3

/-- DMA_STAT. -/
def DmaChan.stat (x : DmaChan) : Word :=
  mkF 27 24 x.cause.code ||| mkF 14 14 x.removing.toNat ||| mkF 13 8 x.pc ||| mkF 7 7 x.refused.toNat
    ||| mkF 6 6 x.squashed.toNat ||| mkF 5 5 x.pace.toNat ||| mkF 4 4 x.trig.toNat ||| mkF 3 0 x.state.code

/-- Read-only registers of the DMA pages, and the cursors. -/
def State.viewDma (s : State) (k off : Nat) : Option Word :=
  let mask (f : DmaChan → Bool) : Word := wordOfBits ((List.range 8).filter (fun n => f (s.dchan (8 * k + n))))
  if off = 0x4C then
    let reads := s.ulf.reads.filterMap (fun r => r.chan)
    some (mkF 25 16 reads.length ||| mkF 8 0 (reads.filter (fun c => c / 8 == k)).length)
  else if off = 0x48 then
    some ((mask (fun x => x.state == .fault)) <<< 16 ||| (mask (fun x => x.runs || x.state == .paused)) <<< 8
      ||| mask (fun x => x.state != .off))
  else if 0x100 ≤ off && off < 0x500 then
    let x := s.dchan (8 * k + (off - 0x100) / 0x80)
    match (off - 0x100) % 0x80 with
    | 0x08 => some x.stat
    | 0x0C => some (lowWord x.curS)
    | 0x10 => some (highWord x.curS)
    | 0x14 => some (lowWord x.curD)
    | 0x18 => some (highWord x.curD)
    | 0x1C => some (mkF 31 16 x.lc1 ||| mkF 15 0 x.lc0)
    | 0x20 => some (word x.ringIdx)
    | 0x24 => some (lowWord x.faultAddr)
    | 0x28 => some (highWord x.faultAddr)
    | 0x2C => some (mkF 31 16 x.lastGap ||| mkF 14 12 x.lastResult.code)
    | 0x30 => some (lowWord x.bytes)
    | 0x34 => some (highWord x.bytes)
    | _ => none
  else none

/-- A cursor or DMA_RING_IDX is written: `none` where the channel runs (R255). -/
def State.dmaCursor (s : State) (k off : Nat) (w : Word) : Option State :=
  let c := 8 * k + (off - 0x100) / 0x80
  let x := s.dchan c
  if !x.rests then none
  else match (off - 0x100) % 0x80 with
    | 0x0C => some (s.setDchan c { x with curS := x.curS / 2 ^ 32 * 2 ^ 32 + w.toNat })
    | 0x10 => some (s.setDchan c { x with curS := x.curS % 2 ^ 32 + fld w 3 0 * 2 ^ 32 })
    | 0x14 => some (s.setDchan c { x with curD := x.curD / 2 ^ 32 * 2 ^ 32 + w.toNat })
    | 0x18 => some (s.setDchan c { x with curD := x.curD % 2 ^ 32 + fld w 3 0 * 2 ^ 32 })
    | 0x20 => some (s.setDchan c { x with ringIdx := fld w 14 0 })
    | _ => some s

end Sys2Proof.Machine
end

