-- ==== Sys2Proof/Machine/UlfOps.lean ====
section
/-! DEFINITION. The Uloft link: sending flits, classes and credits, requests and the combiner, fences, late errors and
the entry into DOWN (spec/15, R356 to R377). A flit leaves in the step in which it may be sent: slot times are left out. -/

namespace Sys2Proof.Machine

def ulfPage : Nat := 112

def State.setUlf (s : State) (u : Ulf) : State := { s with ulf := u }

def LinkState.code : LinkState → Nat
  | .disabled => 0 | .down => 1 | .train => 2 | .param => 3 | .up => 4 | .retrain => 5

/-! ## Classes and credits (R364, R366) -/

def Ulf.wait (u : Ulf) : UlfClass → List Flit
  | .clsP => u.waitP | .clsNp => u.waitNp | .clsC => u.waitC | .clsT => u.waitT | .clsPr => u.waitPr

def Ulf.putWait (u : Ulf) (c : UlfClass) (l : List Flit) : Ulf :=
  match c with
  | .clsP => { u with waitP := l }
  | .clsNp => { u with waitNp := l }
  | .clsC => { u with waitC := l }
  | .clsT => { u with waitT := l }
  | .clsPr => { u with waitPr := l }

def Ulf.cred (u : Ulf) : UlfClass → Nat
  | .clsP => u.credP | .clsNp => u.credNp | .clsC => u.credC | .clsT => u.credT | .clsPr => u.credPr

def Ulf.putCred (u : Ulf) (c : UlfClass) (n : Nat) : Ulf :=
  match c with
  | .clsP => { u with credP := n }
  | .clsNp => { u with credNp := n }
  | .clsC => { u with credC := n }
  | .clsT => { u with credT := n }
  | .clsPr => { u with credPr := n }

/-- The credits of a class that a receiver advertises (R364). -/
def UlfClass.buffer : UlfClass → Nat
  | .clsP => 160 | .clsNp => 32 | .clsC => 96 | .clsT => 160 | .clsPr => 16

/-- The class a CCLASS value names (R359). -/
def classOf : Nat → Option UlfClass
  | 1 => some .clsP | 2 => some .clsNp | 3 => some .clsC | 4 => some .clsT | 5 => some .clsPr | _ => none

/-- Credits come back, never beyond the buffer they stand for. -/
def Ulf.credit (u : Ulf) (c : UlfClass) (n : Nat) : Ulf := u.putCred c (min c.buffer (u.cred c + n))

/-- A class has a flit ready and the credit for it (R364, R366). -/
def Ulf.ready (u : Ulf) (c : UlfClass) : Bool :=
  match u.wait c with
  | [] => false
  | f :: _ => decide (max 1 f.need ≤ u.cred c)

/-- The classes served round-robin (R366). -/
def turnClass (n : Nat) : UlfClass := if n % 3 = 0 then .clsP else if n % 3 = 1 then .clsNp else .clsT

/-- The class the next slot carries, and whose turn comes after it. -/
def Ulf.choose (u : Ulf) : Option (UlfClass × Nat) :=
  if u.ready .clsPr then some (.clsPr, u.turn)
  else if u.ready .clsC then some (.clsC, u.turn)
  else ((List.range 3).find? (fun k => u.ready (turnClass (u.turn + k)))).map (fun k => (turnClass (u.turn + k), u.turn + k + 1))

/-- The flit of one slot is sent: it takes a credit and the next SEQ, and enters the replay buffer (R362). -/
def Ulf.sendOne (u : Ulf) : Option Ulf :=
  if u.state != .up || 256 ≤ u.replay.length then none
  else match u.choose with
    | none => none
    | some (c, turn) => match u.wait c with
      | [] => none
      | f :: t =>
        let seq := (u.seq + 1) % 4096
        some { (u.putWait c t).putCred c (u.cred c - 1) with
          seq := seq, turn := turn % 3, replay := u.replay ++ [⟨seq, f, 1⟩], txFlits := (u.txFlits + 1) % 2 ^ 64 }

/-- Flits are sent until none may be. -/
def Ulf.pump : Nat → Ulf → Ulf
  | 0, u => u
  | n + 1, u => match u.sendOne with
    | none => u
    | some u => u.pump n

def State.pump (s : State) : State := s.setUlf (s.ulf.pump 512)

/-! ## Requests (R361, R367) -/

/-- A request word of R361. -/
def reqWord (addr part bytes : Nat) : List Byte :=
  leBytes 8 (addr % 2 ^ 36 + part % 32 * 2 ^ 36 + (bytes - 1) % 4096 * 2 ^ 41)

/-- The flits of a request: the head with up to 56 bytes, then 64 bytes each. -/
def requestFlits (head cont tag : Nat) (word data : List Byte) : List Flit :=
  let rest := chunks 64 (data.length + 1) (data.drop 56)
  { type := head, tag := tag, payload := word ++ data.take 56, need := 1 + rest.length }
    :: rest.map (fun d => { type := cont, tag := tag, payload := d })

/-- A class's waiting flits grow. -/
def Ulf.enqueue (u : Ulf) (c : UlfClass) (l : List Flit) : Ulf := u.putWait c (u.wait c ++ l)

/-- The combiner's open request closes and waits as a PW (R367). -/
def Ulf.closeComb (u : Ulf) : Ulf :=
  match u.comb with
  | none => u
  | some x =>
    let u := { u with comb := none, tag := (u.tag + 1) % 65536,
                      posted := u.posted ++ [Posted.mk u.tag x.part x.addr false] }
    u.enqueue .clsP (requestFlits 2 3 ((u.tag + 65535) % 65536) (reqWord x.addr x.part x.data.length) x.data)

/-- The bytes left in the 4 KiB-aligned block of an address. -/
def blockLeft (a : Nat) : Nat := 4096 - a % 4096

/-- A posted write within one 4 KiB block enters the combiner (R367). -/
def Ulf.combine (u : Ulf) (part req addr : Nat) (d : List Byte) (lt : Nat) : Ulf :=
  let extends' : Bool := match u.comb with
    | some x => x.part == part && x.req == req && x.addr + x.data.length == addr && x.addr / 4096 == addr / 4096
    | none => false
  let u := if extends' then
      { u with comb := u.comb.map (fun x => { x with data := x.data ++ d }), combAt := lt }
    else { u.closeComb with comb := some ⟨part, req, addr, d⟩, combAt := lt }
  if (addr + d.length) % 4096 = 0 then u.closeComb else u

/-- A posted write of any length, cut at the 4 KiB boundaries. -/
def Ulf.post (part req lt : Nat) : Nat → Nat → List Byte → Ulf → Ulf
  | 0, _, _, u => u
  | n + 1, addr, d, u =>
    if d.isEmpty then u
    else
      let k := blockLeft addr
      Ulf.post part req lt n (addr + k) (d.drop k) (u.combine part req addr (d.take k) lt)

/-- A posted write to the partner (R367). -/
def State.postWrite (s : State) (part req addr : Nat) (d : List Byte) : State :=
  (s.setUlf (Ulf.post part req s.clk.lt (d.length + 1) addr d s.ulf)).pump

/-- No write has come for 16 fabric cycles: the open request closes (R367). -/
def State.combTimeout (s : State) : State :=
  if s.ulf.comb.isSome && s.ulf.combAt + 16 * s.cycleNs ≤ s.clk.lt then (s.setUlf s.ulf.closeComb).pump else s

/-! ## Fences (R374) -/

/-- A FENCE flit for a channel, or a fence that waits because 16 are outstanding. -/
def State.sendFence (s : State) (part chan : Nat) : State :=
  let u := s.ulf.closeComb
  if 16 ≤ u.fences.length then (s.setUlf { u with fenceWait := u.fenceWait ++ [FenceOut.mk 0 part chan] }).pump
  else
    let u' := { u with tag := (u.tag + 1) % 65536, fences := u.fences ++ [FenceOut.mk u.tag part chan],
                       posted := u.posted ++ [Posted.mk u.tag part 0 true] }
    (s.setUlf (u'.enqueue .clsP [{ type := 4, tag := u.tag, payload := leBytes 8 (part * 2 ^ 36), need := 1 }])).pump

/-- A channel's fence has been acknowledged. -/
def State.fenceAcked (s : State) (chan : Nat) : State :=
  { s with dma := { s.dma with chans := KMap.upd s.dma.chans {} chan (fun x => { x with acked := true }) } }

/-! ## Late errors (R375 to R377) -/

def State.ler (s : State) (p : Nat) : List LateError := KMap.get s.ulf.lers [] p
def State.lerLost (s : State) (p : Nat) : Nat := KMap.get s.ulf.lerLost 0 p

/-- ULF_LER_LOST of a partition grows. -/
def State.addLerLost (s : State) (p n : Nat) : State :=
  if n = 0 then s else s.setUlf { s.ulf with lerLost := KMap.put s.ulf.lerLost p (satAdd 16 (s.lerLost p) n) }

/-- The 32-byte packet of R375. -/
def lerBytes (e : LateError) (p lost : Nat) : List Byte :=
  leBytes 8 e.time ++ leBytes 8 e.addr ++ leBytes 2 e.tag ++ leBytes 1 e.cause ++ leBytes 1 p ++ leBytes 4 lost ++ leBytes 8 0

/-- One entry for a partition's late-error record (R375, R376). -/
def State.addLer (s : State) (p : Nat) (e : LateError) : State :=
  let full := 8 ≤ (s.ler p).length
  let s := if full then s.setUlf { s.ulf with lerLost := KMap.put s.ulf.lerLost p (satAdd 16 (s.lerLost p) 1) }
    else s.setUlf { s.ulf with lers := KMap.put s.ulf.lers p (s.ler p ++ [e]) }
  let w := s.reg (R.ULF_LERQ p)
  let q := fld w 11 0
  let s := if bit w 31 && isMsgQueue q && s.queueOwner q = p then
      (s.writePacket q 10 p (some s.pt.colour) (lerBytes e p (s.lerLost p))).1 else s
  s.raise ulfPage (if full then 4 else 3)

/-! ## Frames of P26 (R372) -/

/-- A frame that P26 has transmitted is handed to the link as one TUN request. -/
def State.sendTunnel (s : State) (b : List Byte) (tc : Nat) (err : Bool) : State :=
  let u := s.ulf
  let w := leBytes 8 (b.length % 16384 + tc % 8 * 2 ^ 16 + err.toNat * 2 ^ 19)
  (s.setUlf ({ u with tag := (u.tag + 1) % 65536 }.enqueue .clsT (requestFlits 9 10 u.tag w b))).pump

/-! ## Entry into DOWN or DISABLED (R357) -/

/-- The oldest write of each partition that has no FENCE_ACK yet, and the partitions that wait for a fence. -/
def Ulf.lostWrites (u : Ulf) : List (Nat × Nat × Nat) :=
  (List.range 32).filterMap (fun p =>
    match u.posted.find? (fun x => x.part == p && !x.fence) with
    | some x => some (p, x.tag, x.addr)
    | none => (u.posted.find? (fun x => x.part == p)).map (fun x => (p, x.tag, x.addr)))

/-- Frames in flight: those with a flit that waits or is unacknowledged, and a frame received in part. -/
def Ulf.lostFrames (u : Ulf) : Nat :=
  let l := ((u.replay.map (fun x => x.flit.type)).filter (fun k => k == 9 || k == 10)) ++ u.waitT.map (fun f => f.type)
  l.count 9 + (decide (l.head? = some 10)).toNat + u.rxT.isSome.toNat

/-- A partner-view read completes with a bus error, cause PARTNER_DOWN (R43, R44). -/
def State.viewFail (s : State) (r : ViewRead) (c : BusCause) : State :=
  let a := r.addr + 0x1000000
  let s := s.violation { t := s.clk.lt, part := Fin.ofNat 32 r.part, req := Fin.ofNat 20 r.req } a false c
  match r.chan with
  | some k => s.dmaReadFail k r.tag a
  | none => s

/-! ## Completions of partner-view reads (R43, R370) -/

/-- A read leaves the list of those that wait. -/
def State.dropRead (s : State) (r : ViewRead) : State := s.setUlf { s.ulf with reads := s.ulf.reads.erase r }

/-- The oldest CPL that has arrived completes its read; one for a read that no longer waits is discarded, and so is the data
of a read by a core of a partition that is being reset (R323). -/
def State.readComplete (s : State) : State :=
  match s.ulf.cplIn with
  | [] => s
  | c :: t =>
    let s := s.setUlf { s.ulf with cplIn := t }
    match s.ulf.reads.find? (fun r => r.tag == c.tag) with
    | none => s
    | some r =>
      let s := s.dropRead r
      match c.status, r.chan with
      | 0, none => if (s.part r.part).state == .resetting then s else s.done c.data
      | 0, some k => s.dmaReadDone k r.tag (leBytes 4 c.data)
      | 1, _ => s.viewFail r .notOwner
      | _, _ => s.viewFail r .unmapped

/-- Steps 1 to 5 of R357; the completions that have arrived are processed first. DEDUCED: notes/assumptions/54.md. -/
def State.linkLoss (s : State) : State :=
  let s := s.ulf.cplIn.foldl (fun s _ => s.readComplete) s
  let u := s.ulf.closeComb
  let s := s.setUlf { u with
    replay := [], waitP := [], waitNp := [], waitC := [], waitT := [], waitPr := [], reads := [], fences := [],
    fenceWait := [], posted := [], rxP := none, rxT := none, fencesIn := [], wfLost := [], cplIn := [] }
  let s := u.reads.foldl (fun s r => s.viewFail r .partnerDown) s
  let s := (u.fences ++ u.fenceWait).foldl (fun s f => s.fenceAcked f.chan) s
  let s := u.lostWrites.foldl (fun s x => s.addLer x.1 ⟨x.2.2, x.2.1, s.clk.lt, 4⟩) s
  s.addF (R.SWP_TX_DROP 26) 31 0 u.lostFrames

end Sys2Proof.Machine
end

