-- ==== Sys2Proof/Machine/PairOps.lean ====
section
/-! DEFINITION. The redundant pair: messages, health, role changes, contact, mirrored writes and the copier of a
resynchronisation (spec/16, R379 to R401). -/

namespace Sys2Proof.Machine

def pairPage : Nat := 113

def State.setPair' (s : State) (x : Pair) : State := { s with pair := x }

/-! ## Pairing and health (R379, R381) -/

/-- The unit takes part in a pair (R379). -/
def State.pairOn (s : State) : Bool := s.hw.paired && s.regB R.PAIR_CFG 0 && s.regB R.ULF_CTRL 0

/-- A partition is paired; partition 0 never is (R379). -/
def State.isPaired (s : State) (p : Nat) : Bool := p != 0 && s.regB (R.PAIR_PCFG p) 31

/-- The paired partitions of a unit that takes part in a pair, ascending. -/
def State.pairedParts (s : State) : List Nat :=
  if s.pairOn then (List.range 32).filter (fun p => s.isPaired p) else []

def State.pairedMask (s : State) : Word := wordOfBits ((List.range 32).filter (fun p => s.isPaired p))
def State.prefMask (s : State) : Word :=
  wordOfBits ((List.range 32).filter (fun p => s.isPaired p && s.regB (R.PAIR_PCFG p) 30))

/-- The copy of a partition on this unit is healthy (R381). -/
def State.healthy (s : State) (p : Nat) : Bool :=
  let hb := s.regF (R.PAIR_PCFG p) 23 16
  s.isRunning p && (hb = 0 || match (s.pp p).heart with
    | some h => decide (s.clk.lt ≤ h + hb * 1000000)
    | none => false)

/-- This unit holds authority for a partition. -/
def State.holds (s : State) (p : Nat) : Bool := s.roleOf p == .active || s.roleOf p == .solo

/-- DEDUCED: notes/assumptions/55.md. -/
def State.activeMask (s : State) : Word := wordOfBits ((List.range 32).filter (fun p => s.holds p))
def State.healthyMask (s : State) : Word := wordOfBits (s.pairedParts.filter (fun p => s.healthy p))
def State.syncedMask (s : State) : Word := wordOfBits (s.pairedParts.filter (fun p => s.holds p || s.roleOf p == .standby))
def State.claimedMask (s : State) : Word := wordOfBits ((List.range 32).filter (fun p => (s.pp p).claimed))

/-- AUTH_OUT: high while the unit is ACTIVE or SOLO for a paired partition (R385). -/
def State.authOut (s : State) : Bool := (List.range 32).any (fun p => s.holds p)

/-- PAIR_LEASE_AGE and PAIR_BB_AGE in µs (R404). -/
def State.ageUs (s : State) (at' : Option Nat) : Nat :=
  match at' with
  | none => 0xFFFFFFFF
  | some t => min 0xFFFFFFFF ((s.clk.lt - t) / 1000)

/-! ## Messages (R386) -/

def PairMsg.bytes (m : PairMsg) : List Byte :=
  leBytes 1 m.kind ++ leBytes 1 m.flags ++ leBytes 1 m.part ++ leBytes 1 m.reason ++ leBytes 4 m.word0 ++ leBytes 4 m.word1
    ++ leBytes 4 m.word2 ++ leBytes 8 m.time

def parsePairMsg (b : List Byte) : PairMsg :=
  let v (off n : Nat) : Nat := leVal ((b.drop off).take n)
  { kind := v 0 1, flags := v 1 1, part := v 2 1, reason := v 3 1, word0 := v 4 4, word1 := v 8 4, word2 := v 12 4, time := v 16 8 }

/-- FLAGS of every message. -/
def State.pairFlags (s : State) : Nat :=
  (s.pwr.zsp.state == .committed || s.pwr.zsp.state == .asleep).toNat + s.pair.leaving.toNat * 2 + s.hw.unitId % 2 * 128

/-- A pair message is sent as one PAIR flit, while the link is there to carry it. DEDUCED: notes/assumptions/55.md. -/
def State.sendPair (s : State) (m : PairMsg) : State :=
  let m := { m with flags := s.pairFlags }
  if s.ulf.state != .up && s.ulf.state != .retrain then s
  else (s.setUlf (s.ulf.enqueue .clsPr [{ type := 11, payload := m.bytes, need := 1 }])).pump

/-- The message at the front, if it is of a kind, and the state without it. DEDUCED: notes/assumptions/54.md. -/
def State.takeMsg (s : State) (kind : Nat) : Option (PairMsg × State) :=
  match s.ulf.msgs with
  | [] => none
  | m :: t => if m.kind = kind then some (m, s.setUlf { s.ulf with msgs := t }) else none

/-- DEDUCED: notes/assumptions/55.md. -/
def State.sendHello (s : State) : State :=
  (s.setPair' { s.pair with greeted := true }).sendPair { kind := 2, word0 := s.pairedMask.toNat, word1 := s.prefMask.toNat, word2 := s.claimedMask.toNat }

def State.sendLease (s : State) : State :=
  let s := s.pairedParts.foldl (fun s p =>
    if s.holds p && !s.healthy p then s.setPp p { s.pp p with offered := true } else s) s
  s.sendPair { kind := 1, word0 := s.activeMask.toNat, word1 := s.healthyMask.toNat, word2 := s.syncedMask.toNat }

/-! ## Role changes (R383, R388 to R390) -/

def Role.code : Role → Nat
  | .none => 0 | .joining => 1 | .standby => 2 | .active => 3 | .solo => 4

def RoleCause.code : RoleCause → Nat
  | .none => 0 | .release => 1 | .fast => 2 | .slow => 3 | .elect => 4 | .yield => 5 | .handover => 6 | .synced => 7

/-- ROLE and the partition's EIID are delivered. -/
def State.announceRole (s : State) (p : Nat) : State :=
  let e := s.regF (R.PAIR_PCFG p) 10 0
  (s.raise pairPage 0).when (e != 0 && s.isRunning p) (fun s => s.setPendingId p e)

/-- A partition takes a role; a cause is recorded in PAIR_LAST. -/
def State.takeRole (s : State) (p : Nat) (r : Role) (c : RoleCause) : State :=
  let keeps := s.holds p && (r == .active || r == .solo)
  let s := s.setPp p { s.pp p with role := r, sick := 0, offered := keeps && (s.pp p).offered }
  let s := if c == .none then s
    else s.setPair' { s.pair with lastRole := r, lastCause := c, lastPart := p, lastLt := s.clk.lt }
  s.announceRole p

/-- The role that authority gives: ACTIVE in contact, otherwise SOLO. -/
def State.actingRole (s : State) : Role := if s.pair.contact then .active else .solo

/-- A claim (R388). -/
def State.claim (s : State) (p : Nat) (c : RoleCause) : State :=
  let s := s.takeRole p s.actingRole c
  let s := s.setPp p { s.pp p with claimed := c != .release }
  (s.addF R.PAIR_TAKEOVERS 31 0 1).raise pairPage 1

/-- This unit may claim a partition (R381, R387, R401). -/
def State.mayClaim (s : State) (p : Nat) : Bool :=
  s.pairOn && s.isPaired p && (s.roleOf p == .standby || s.roleOf p == .joining) && s.healthy p && !s.pair.left

/-- This unit yields a partition (R389, R400). -/
def State.yieldPart (s : State) (p : Nat) : State :=
  let handed := (s.pair.handover.map (fun h => h.part == p)).getD false
  let s := s.takeRole p (if handed then .standby else .joining) (if handed then .handover else .yield)
  let s := s.setPp p { s.pp p with claimed := false }
  if handed then
    s.setPair' { s.pair with handover := none, cmdResult := if s.pair.leaving then s.pair.cmdResult else .done }
  else s

/-- Authority is split: whether this unit keeps (R390). -/
def State.keeps (s : State) (p : Nat) : Bool :=
  let mine := (s.pp p).claimed
  let theirs := bit s.pair.pClaimed p
  if mine != theirs then theirs
  else if mine then s.hw.unitId = 0
  else (s.regF (R.PAIR_PCFG p) 30 30) == s.hw.unitId % 2

/-- The decision of a split (R390). DEDUCED: notes/assumptions/55.md. -/
def State.splitPart (s : State) (p : Nat) : State :=
  let keep := s.keeps p
  let s := if keep then s else s.takeRole p .joining .yield
  let s := s.setPp p { s.pp p with claimed := false, split := true }
  let s := s.setPair' { s.pair with pClaimed := setBit s.pair.pClaimed p false }
  (s.addF R.PAIR_SPLITS 31 0 1).raise pairPage 3

/-- Neither unit holds authority: the preferred healthy unit becomes ACTIVE (R383). -/
def State.electPart (s : State) (p : Nat) : State :=
  let pref := (s.regF (R.PAIR_PCFG p) 30 30) == s.hw.unitId % 2
  if s.roleOf p == .none || s.holds p || bit s.pair.pActive p || s.pair.left then s
  else if s.healthy p && (pref || !bit s.pair.pHealthy p) then s.takeRole p .active .elect
  else s

/-- Contact ends (R382): ACTIVE roles become SOLO, and PARTNER_LOST is raised unless the loss was announced or both units
sleep (R401, R402). DEDUCED: notes/assumptions/55.md. -/
def State.loseContact (s : State) : State :=
  let s := s.setPair' { s.pair with greeted := false }
  if !s.pair.contact then s
  else
    let quiet := s.pair.byeSeen ||
      (s.pair.pSleep && (s.pwr.zsp.state == .committed || s.pwr.zsp.state == .asleep))
    let s := s.setPair' { s.pair with contact := false, leased := false, sync := none, byeSeen := false, handover := none }
    let s := (s.pairedParts.filter (fun p => s.roleOf p == .active)).foldl (fun s p =>
      s.takeRole p .solo .none) s
    s.raiseIf (!quiet) pairPage 2

/-! ## The link enters and leaves UP (R356, R357, R382) -/

/-- SWP_LINK.UP of P26 follows the link (R357, R372). -/
def State.tunnelLink (s : State) (up : Bool) : State :=
  let x := KMap.get s.eth.ports {} 26
  if x.up = up then s
  else
    let x := { x with up := up, rate := if up then 6 else 0, downs := if up then x.downs else satAdd 16 x.downs 1 }
    ({ s with eth := { s.eth with ports := KMap.put s.eth.ports 26 x } } : State).raise 83 0

/-- Entry into DOWN or DISABLED; LINK_DOWN and ULF_DOWNS are for DOWN (R356, R378). -/
def State.linkDown (s : State) (to' : LinkState) : State :=
  let was := s.ulf.state
  let s := s.setUlf { s.ulf with state := to', since := s.clk.lt, lock := 0 }
  if was == .up || was == .retrain then
    let lost := (s.ulf.closeComb.lostWrites.map (fun x => x.1)).filter (fun p => s.isPaired p)
    let s := lost.foldl (fun s p => s.setPp p { s.pp p with diverged := true }) s.linkLoss
    let s := s.when (to' == .down) (fun s => (s.setUlf { s.ulf with downs := satAdd 32 s.ulf.downs 1 }).raise ulfPage 1)
    (s.tunnelLink false).loseContact
  else s

/-- Entry into UP from PARAM or RETRAIN; a unit that has not left then sends HELLO. -/
def State.linkUpNow (s : State) : State :=
  let s := s.setUlf { s.ulf with state := .up, since := s.clk.lt, lock := 3, lastGood := s.clk.lt,
                                 idConflict := false, modeMismatch := false }
  let s := (s.raise ulfPage 0).tunnelLink true
  (s.when (s.pairOn && !s.pair.left) (fun s => s.sendHello)).pump

/-! ## Mirrored writes (R393 to R395) -/

/-- The partner's role for a partition, as last reported; none without contact. -/
def State.partnerRole (s : State) (p : Nat) : Role :=
  if !s.pair.contact || !s.pair.leased || !s.isPaired p then .none
  else if bit s.pair.pActive p then .active
  else if bit s.pair.pSynced p then .standby else .joining

/-- A completed write of partition `p` by one of its cores or DMA channels: it is sent to the partner, or the unit has
diverged (R394, R395). The flag says whether it was sent. -/
def State.mirrorWrite (s : State) (p req addr : Nat) (d : List Byte) : State × Bool :=
  if !s.mirroredAt s.pt.active p addr d.length || !s.holds p then (s, false)
  else
    match s.roleOf p, s.partnerRole p with
    | .active, .standby => (s.postWrite p req addr d, true)
    | .active, .joining => (s.postWrite p req addr d, true)
    | _, _ => (s.setPp p { s.pp p with diverged := true }, false)

/-- A write into a mirrored region of a unit that is not ACTIVE for the partition is refused (R393). -/
def State.mirrorClosed (s : State) (p addr n : Nat) : Bool :=
  s.isPaired p && s.pairHeld p && s.mirroredAt s.pt.active p addr n

/-- A staged word of partition `p` goes to the partner as well (R396). -/
def State.mirrorStage (s : State) (p addr : Nat) (w : Word) : State :=
  if s.isPaired p && s.roleOf p == .active && s.partnerRole p == .standby then
    (s.setPp p { s.pp p with sent := (s.pp p).sent + 1 }).postWrite p 10 addr (leBytes 4 w.toNat)
  else s

/-- Staged words sent by partition `p` are counted from its last commit or discard. -/
def State.clearMirrorCount (s : State) (p : Nat) : State := s.setPp p { s.pp p with sent := 0, accepted := 0, refused := 0 }

/-- A pending commit ends CANCELLED; a pair-coherent one tells the partner (R26, R398). -/
def State.cancelPending (s : State) (p : Nat) : State :=
  let b := s.bank p
  match b.pending with
  | none => s
  | some c =>
    let s := s.setBank p { b with pending := none, result := .cancelled }
    s.when c.pairMode (fun s => s.sendPair { kind := 9, part := p })

/-! ## Resynchronisation (R399) -/

/-- The MIRROR regions of a partition, as base and size. -/
def State.mirrorRanges (s : State) (p : Nat) : List (Nat × Nat) :=
  let m := s.pt.active
  if s.mirrorTooBig m p then []
  else ((List.range 32).filter (fun r => s.regionOn m p r && bit (ptRegion m p r 3) 4)).map
    (fun r => (regionBase m p r, regionSize m p r))

/-- The copier enqueues the next 4 KiB block, when no P-class flit waits. -/
def State.copyBlock (s : State) : Option State :=
  match s.pair.sync with
  | some (p, .memory ((a, n) :: t)) =>
    if !s.ulf.waitP.isEmpty || s.ulf.state != .up then none
    else
      let k := min (blockLeft a) n
      let left := if n ≤ k then t else (a + k, n - k) :: t
      let s := s.setPair' { s.pair with sync := some (p, .memory left) }
      some ((s.setUlf (Ulf.post p 10 s.clk.lt (k + 1) a (s.readBytes a k) s.ulf).closeComb).pump)
  | _ => none

/-- Blocks are copied as far as credits and the replay buffer allow. DEDUCED: notes/assumptions/57.md. -/
def State.copyOn : Nat → State → State
  | 0, s => s
  | n + 1, s => match s.copyBlock with
    | none => s
    | some s => s.copyOn n

/-- The unit begins to bring the next JOINING partner copy up to date. -/
def State.startSync (s : State) : State :=
  if s.pair.sync.isSome then s.copyOn 4
  else match s.pairedParts.find? (fun p => s.roleOf p == .active && s.partnerRole p == .joining) with
    | none => s
    | some p => (s.setPair' { s.pair with sync := some (p, .memory (s.mirrorRanges p)) }).copyOn 4

/-- MiB of the MEMORY phase still to send. -/
def State.syncLeft (s : State) (p : Nat) : Nat :=
  match s.pair.sync with
  | some (q, .memory l) => if p = q then ceilDiv (l.foldl (fun n x => n + x.2) 0) 1048576 else 0
  | _ => 0

/-! ## Handover (R400, R401) -/

/-- The partner is ready to take a partition. -/
def State.partnerReady (s : State) (p : Nat) : Bool := s.partnerRole p == .standby && bit s.pair.pHealthy p

/-- A handover begins: regions and staging close, the emission hold applies, the role stays. -/
def State.beginHandover (s : State) (p : Nat) : State := s.setPair' { s.pair with handover := some { part := p } }

/-- A leaving unit goes on: the next partition, or BYE. -/
def State.leaveStep (s : State) : State :=
  if !s.pair.leaving || s.pair.handover.isSome then s
  else match s.pairedParts.find? (fun p => s.holds p) with
    | some p =>
      if s.partnerReady p && (s.bank p).pending.isNone then
        (s.setPair' { s.pair with cmdResult := .accepted }).beginHandover p
      else s.setPair' { s.pair with cmdResult := .paused }
    | none =>
      let s := s.sendPair { kind := 10 }
      (s.setPair' { s.pair with leaving := false, left := true, cmdResult := .done, contact := false, leased := false,
                                greeted := false, sync := none }).raise pairPage 6

end Sys2Proof.Machine
end

