-- ==== Sys2Proof/Machine/CanOps.lean ====
section
/-! DEFINITION. CAN channels: configuration, message buffers, candidates and error states (spec/07). -/

namespace Sys2Proof.Machine

def State.mb (s : State) (c m : Nat) : Mb := KMap.get (s.can c).mbs {} m
def State.setMb (s : State) (c m : Nat) (x : Mb) : State :=
  s.setCan c { s.can c with mbs := KMap.put (s.can c).mbs m x }

/-! ## Configuration (R143, R144, R146) -/

/-- Time quanta per bit and CAN clock cycles per bit of a timing register. -/
def bitTq (w : Word) : Nat := 1 + (fld w 15 8 + 1) + (fld w 22 16 + 1)
def bitCycles (w : Word) : Nat := (fld w 7 0 + 1) * bitTq w

/-- A configured data phase that no enable makes valid: its bit time out of range, or a rate above 1 Mbit/s without delay
compensation (R144). DEDUCED: notes/assumptions/36.md. -/
def phaseInvalid (w tdc : Word) : Bool := bitTq w < 4 || 49 < bitTq w || (bitCycles w < 80 && !bit tdc 31)

/-- An enabled data phase faster than allowed, or slower than the nominal rate (R144). -/
def rateInvalid (w nbt : Word) (fastest : Nat) : Bool := bitCycles w < fastest || bitCycles nbt < bitCycles w

/-- CAN_STAT.CFG_INVALID for the configuration in effect (R144). -/
def CanChan.cfgInvalid (x : CanChan) (c : Nat) : Bool :=
  bitTq x.nbt < 8 || 385 < bitTq x.nbt || bitCycles x.nbt < 80 || phaseInvalid x.dbt x.tdc ||
  (canXl c && phaseInvalid x.xbt x.tdc) || (bit x.ctrl 15 && rateInvalid x.dbt x.nbt 10) ||
  (bit x.ctrl 16 && (!canXl c || rateInvalid x.xbt x.nbt (if bit x.ctrl 17 then 4 else 10)))

/-- CAN_CTRL.MODE in effect: 6 and 7, and an invalid configuration, behave as OFF. -/
def CanChan.mode (x : CanChan) (c : Nat) : Nat :=
  if x.cfgInvalid c then 0 else if 6 ≤ fld x.ctrl 2 0 then 0 else fld x.ctrl 2 0

/-- Nanoseconds of a number of CAN clock cycles. -/
def canNs (n : Nat) : Nat := n * 25 / 2

/-- Whether the channel takes part in bus activity: on, integrated, and its page not RESETTING (R146, R165). -/
def State.canLive (s : State) (c : Nat) : Bool :=
  let x := s.can c
  x.mode c != 0 && (match x.ready with | some r => decide (r ≤ s.clk.lt) | none => false) &&
  (s.page (canPage c)).mode != .resetting

/-- Whether the channel may send: NORMAL or a loopback mode, not bus-off, and the external buses not silent (R157, R457,
R346). -/
def State.canSends (s : State) (c : Nat) : Bool :=
  let x := s.can c
  s.canLive c && (x.mode c == 1 || 4 ≤ x.mode c) && !x.busOff && (x.mode c == 4 || !s.pwr.zsp.silent)

/-! ## Message buffers (R147, R148, R152) -/

/-- CAN_MBCFG.DIR: 1 receive, 2 transmit, 0 disabled. -/
def State.mbDir (s : State) (c m : Nat) : Nat :=
  let d := s.regF (R.CAN_MBCFG c m) 1 0
  if d = 3 then 0 else d

/-- The state of a buffer that has taken a direction. -/
def dirCode (d : Nat) : MbCode := if d = 1 then .rxEmpty else if d = 2 then .txIdle else .disabled

def MbCode.code : MbCode → Nat
  | .disabled => 0 | .txIdle => 1 | .txPending => 2 | .txActive => 3 | .txDone => 4 | .txCancelled => 5 | .txFailed => 6
  | .rxEmpty => 8 | .rxFull => 9

/-- A transmit buffer, and one in a state from which a request starts. -/
def MbCode.isTx (x : MbCode) : Bool := 1 ≤ x.code && x.code ≤ 6
def MbCode.isIdle (x : MbCode) : Bool := x == .txIdle || x == .txDone || x == .txCancelled || x == .txFailed

/-- A word of a buffer. -/
def Mb.wordAt (b : Mb) (off : Nat) : Word := KMap.get b.words 0 off

/-- MB_STATE. -/
def Mb.stateWord (b : Mb) : Word :=
  word (b.code.code + b.cancelLate.toNat * 16 + b.overrun.toNat * 32 + b.launchLate.toNat * 64 + b.held.isSome.toNat * 128
    + b.attempts * 256 + b.seq * 65536)

/-- The data bytes of buffer words. -/
def mbBytes (ws : KMap Word) : List Byte :=
  (List.range 16).flatMap (fun k => leBytes 4 (KMap.get ws 0 (0x40 + 4 * k)).toNat)

/-- Buffer words with data bytes written from byte 0 up. -/
def putMbBytes (ws : KMap Word) (l : List Byte) : KMap Word :=
  let all := (l ++ (mbBytes ws).drop l.length).take 64
  (List.range 16).foldl (fun ws k => KMap.set ws 0 (0x40 + 4 * k) (word (leVal ((all.drop (4 * k)).take 4)))) ws

/-- The frame of a transmit buffer (R150). -/
def mbFrame (ws : KMap Word) : CanFrame :=
  let id := KMap.get ws 0 8
  let fmt := KMap.get ws 0 0xC
  frameOfWords id (KMap.get ws 0 0x10) (min 64 (fld fmt 6 0)) (mbBytes ws) (bit fmt 16) (bit fmt 17) (bit fmt 19)
    (bit fmt 20) (fld fmt 15 8) (fld fmt 31 24)

def mbRefused (s : State) (c : Nat) (ws : KMap Word) : Bool :=
  let fmt := KMap.get ws 0 0xC
  s.frameRefused c (bit fmt 16) (bit fmt 19) (fld fmt 6 0)

/-- A buffer reaches a final state: SEQ, CAN_TXDONE and its event; then a committed direction (R152, R158). -/
def State.mbFinal (s : State) (c m : Nat) (code : MbCode) : State :=
  let b := s.mb c m
  let s := s.setMb c m { b with code := code, seq := (b.seq + 1) % 65536, cancelPending := false, eligible := false }
  let s := s.setCan c { s.can c with txDone := insertSorted (s.can c).txDone m }
  let s := s.raiseIf (s.regB (R.CAN_MBCFG c m) 3) (canPage c) (if code == .txDone then 1 else 2)
  match b.newDir with
  | none => s
  | some d => s.setMb c m { s.mb c m with code := dirCode d, newDir := none, held := none }

/-! ## A configuration in effect (R146) -/

/-- The committed configuration comes into effect, and the channel integrates again: 11 recessive bits (R146). A request
that the new configuration cannot send fails (R150). -/
def State.canApply (s : State) (c : Nat) : State :=
  let x := s.can c
  let x := { x with
    ctrl := s.reg (R.CAN_CTRL c), nbt := s.reg (R.CAN_NBT c), dbt := s.reg (R.CAN_DBT c)
    xbt := if canXl c then s.reg (R.CAN_XBT c) else 0, tdc := s.reg (R.CAN_TDC c), pendingCfg := false }
  let s := s.setCan c { x with ready := if x.mode c = 0 then none else some (s.clk.lt + canNs (11 * bitCycles x.nbt)) }
  let bad := (List.range 128).filter (fun m => (s.mb c m).code == .txPending && mbRefused s c (s.mb c m).words)
  (bad.foldl (fun s m => s.mbFinal c m .txFailed) s).txsSweep

/-- A commit has changed the channel's timing or control: at once when it is off, else at the next bus idle (R146).
DEDUCED: notes/assumptions/36.md. -/
def State.canCommit (s : State) (c : Nat) : State :=
  let x := s.can c
  if x.mode c = 0 then s.canApply c else s.setCan c { x with pendingCfg := true }

/-! ## Requests and held writes (R149, R157, R162) -/

/-- The launch time of a buffer, and whether its base is SYNC_TIME (R162). -/
def Mb.launch (b : Mb) : Option (Nat × Bool) :=
  if bit (b.wordAt 0xC) 21 then some (pairVal (b.wordAt 0x18) (b.wordAt 0x1C), bit (b.wordAt 0xC) 22) else none

/-- Whether a time base has reached a time (R162, R308). DEDUCED: notes/assumptions/37.md. -/
def State.baseReached (s : State) (time : Nat) (sync : Bool) : Bool :=
  if sync then s.syncValid && decide (time ≤ s.syncNs) else decide (time ≤ s.clk.lt)

/-- Whether a launch is late: LATE_US is not 0 and has passed since the launch time (R157, R162).
DEDUCED: notes/assumptions/37.md. -/
def State.launchLate (s : State) (c time : Nat) (sync : Bool) : Bool :=
  let late := s.regF (R.CAN_LAUNCH c) 17 0
  late != 0 && s.baseReached (time + late * 1000 + 1) sync

/-- A request fails with LAUNCH_LATE (R157). -/
def State.failLate (s : State) (c m : Nat) : State :=
  (s.setMb c m { s.mb c m with launchLate := true }).mbFinal c m .txFailed

/-- REQ on a transmit buffer (R157). -/
def State.mbRequest (s : State) (c m : Nat) : State :=
  let b := s.mb c m
  if !b.code.isIdle then s
  else
    let s := s.setMb c m { b with code := .txPending, cancelLate := false, launchLate := false, attempts := 0, eligible := false }
    if mbRefused s c b.words then s.mbFinal c m .txFailed
    else match b.launch with
      | none => s.setMb c m { s.mb c m with eligible := true }
      | some (t, sync) =>
        if s.launchLate c t sync then s.failLate c m
        else s.setMb c m { s.mb c m with eligible := s.baseReached t sync }

/-- A TX_PENDING buffer has taken new words: it may no longer be sendable, and its launch is judged anew where it is not
the one it had (R149, R150, R156, R162). DEDUCED: notes/assumptions/37.md. -/
def State.mbReplaced (s : State) (c m : Nat) (launch : Option (Nat × Bool)) : State :=
  let b := s.mb c m
  if b.code != .txPending then s
  else if mbRefused s c b.words then s.mbFinal c m .txFailed
  else if b.launch = launch then s
  else match b.launch with
    | none => s.setMb c m { b with eligible := true }
    | some (t, sync) =>
      if s.launchLate c t sync then s.failLate c m else s.setMb c m { b with eligible := s.baseReached t sync }

/-- CANCEL on a transmit buffer (R157). -/
def State.mbCancel (s : State) (c m : Nat) : State :=
  let b := s.mb c m
  match b.code with
  | .txPending => s.mbFinal c m .txCancelled
  | .txActive => s.setMb c m { b with cancelPending := true }
  | _ => s

/-- RELEASE on a receive buffer (R151). -/
def State.mbRelease (s : State) (c m : Nat) : State :=
  let b := s.mb c m
  if b.code == .rxFull || b.code == .rxEmpty then s.setMb c m { b with code := .rxEmpty, overrun := false } else s

/-- MB_CMD: REQ, then CANCEL, then RELEASE, each on the state the one before it left (R152). -/
def State.mbCommand (s : State) (c m : Nat) (w : Word) : State :=
  let s := s.when (bit w 0) (fun s => s.mbRequest c m)
  let s := s.when (bit w 1) (fun s => s.mbCancel c m)
  s.when (bit w 2) (fun s => s.mbRelease c m)

/-- A held gateway write is applied when the buffer leaves TX_ACTIVE (R149). -/
def State.applyHeld (s : State) (c m : Nat) : State :=
  let b := s.mb c m
  match b.held with
  | none => s
  | some h =>
    if !b.code.isTx then s.setMb c m { b with held := none }
    else
      let s := (s.setMb c m { b with words := h.words, held := none }).mbReplaced c m b.launch
      s.when h.req (fun s => s.mbRequest c m)

/-- An internal writer writes a whole transmit buffer in one transfer (R149); none where the buffer or its page does not
take the write (R165, R272). -/
def State.mbWrite (s : State) (c m : Nat) (f : KMap Word → KMap Word) (req : Bool) : Option State :=
  let b := s.mb c m
  let mode := (s.page (canPage c)).mode
  if !b.code.isTx || mode == .resetting || (req && mode != .active) then none
  else match b.code with
    | .txActive =>
      let base := (b.held.map (·.words)).getD b.words
      some (s.setMb c m { b with held := some ⟨f base, req⟩ })
    | .txPending =>
      some ((s.setMb c m { b with words := f b.words }).mbReplaced c m b.launch)
    | _ =>
      let s := s.setMb c m { b with words := f b.words }
      some (s.when req (fun s => s.mbRequest c m))

/-- The words of a Classical CAN frame with a 29-bit identifier, as the transport engine and the sleep protocol send. -/
def classicWords (id : Nat) (data : List Byte) (ws : KMap Word) : KMap Word :=
  let ws := KMap.set ws 0 8 (setBit (mkF 28 0 id) 29 true)
  let ws := KMap.set ws 0 0xC (mkF 6 0 data.length)
  putMbBytes ws data

/-! ## Error states (R159) -/

def CanChan.passive (x : CanChan) : Bool := 128 ≤ x.tec || 128 ≤ x.rec'

/-- TEC and REC take new values: WARN, ERROR_PASSIVE and BUS_OFF follow (R159, R160). -/
def State.setErrors (s : State) (c tec rec' : Nat) : State :=
  let x := s.can c
  let off := decide (255 < tec)
  let y := { x with tec := min tec 256, rec' := rec', warn := decide (96 ≤ tec) || decide (96 ≤ rec') }
  let y := if off && !x.busOff then { y with busOff := true, recovering := bit x.ctrl 19, recAt := s.clk.lt } else y
  let s := s.setCan c y
  let s := s.raiseIf (y.warn && !x.warn) (canPage c) 3
  let s := s.raiseIf (y.passive && !x.passive) (canPage c) 4
  s.raiseIf (off && !x.busOff) (canPage c) 5

/-- Fault confinement acts in NORMAL and the loopback modes only (R457). -/
def CanChan.confines (x : CanChan) (c : Nat) : Bool := x.mode c == 1 || 4 ≤ x.mode c

/-- An error counts in CAN_ERRINFO (R167). -/
def State.noteCanErr (s : State) (c lec : Nat) (dataPhase : Bool) : State :=
  let a := R.CAN_ERRINFO c
  ((s.addF a 31 16 1).putF a 4 4 dataPhase.toNat).putF a 2 0 lec

/-! ## Packets of a CAN channel (R154) -/

/-- The packet layout of R154. -/
def canPacket (c : Nat) (f : CanFrame) (stamp : Nat) (dir err : Bool) (filter : Nat) : List Byte :=
  let id := setBit (setBit (setBit (mkF 28 0 f.id) 29 f.ide) 30 f.rtr) 31 dir
  let fmt := word (f.len % 4096 + f.fdf.toNat * 2 ^ 12 + f.brs.toNat * 2 ^ 13 + f.esi.toNat * 2 ^ 14 + f.xlf.toNat * 2 ^ 15
    + f.sec.toNat * 2 ^ 16 + c * 2 ^ 20 + err.toNat * 2 ^ 24)
  let xl := word (f.vcid % 256 + f.sdt % 256 * 256 + filter * 65536)
  leBytes 8 stamp ++ leBytes 4 id.toNat ++ leBytes 4 fmt.toNat ++ leBytes 4 xl.toNat ++ leBytes 4 f.af ++ f.data

/-- The hardware writer number of a CAN channel, beside the requesters of R34. DEDUCED: notes/assumptions/34.md. -/
def canWriter (c : Nat) : Nat := 32 + c

/-- The identifier word of a frame, as MB_ID. -/
def CanFrame.idWord (f : CanFrame) : Word := setBit (setBit (mkF 28 0 f.id) 29 f.ide) 30 f.rtr

/-- What a frame presents in arbitration; the lower value wins (R156). -/
def CanFrame.arb (f : CanFrame) : Nat :=
  let base := f.id / 2 ^ 18
  if f.ide then base * 2 ^ 21 + 2 ^ 20 + 2 ^ 19 + f.id % 2 ^ 18 * 2 + f.rtr.toNat else base * 2 ^ 21 + f.rtr.toNat * 2 ^ 20

/-- The packet stamped with the colour of the PART generation in use (R27). -/
def State.partColour (s : State) : Option Bool := some s.pt.colour

/-- A copy goes to the trace recorder (R153); the queue, among those of its enabled slots, is a free value. -/
def State.traceCan (s : State) (c : Nat) (l : List Byte) : State :=
  let qs := ((List.range 8).filter (fun n => s.regB (R.QMGR_TRACE_Q n) 31)).map (fun n => s.regF (R.QMGR_TRACE_Q n) 11 0)
  match qs with
  | [] => s
  | [q] => (s.writePacket q (canWriter c) (s.pageOwner (canPage c)) s.partColour l).1
  | _ =>
    let r := s.takeFree
    (r.2.writePacket (qs.getD (r.1 % qs.length) 0) (canWriter c) (s.pageOwner (canPage c)) s.partColour l).1

end Sys2Proof.Machine
end

