-- ==== Sys2Proof/Machine/PowerOps.lean ====
section
/-! DEFINITION. Wake requests, the messages of the zone sleep protocol and the start of an exit (spec/14, R337, R340 to
R347). -/

namespace Sys2Proof.Machine

def pwrPage : Nat := 5

def State.setPwr (s : State) (x : Power) : State := { s with pwr := x }
def State.setZsp (s : State) (x : Zsp) : State := s.setPwr { s.pwr with zsp := x }

/-- The header of a frame in a queue (R198). -/
def ethHeader (stamp len port flags info : Nat) : List Byte :=
  leBytes 8 stamp ++ leBytes 2 len ++ leBytes 1 port ++ leBytes 1 flags ++ leBytes 4 info

/-- The six bytes of a MAC address held in two registers, in wire order (R180). -/
def macBytes (lo hi : Word) : List Byte := beBytes 6 (pairVal lo (mkF 15 0 (fld hi 15 0)))

/-! ## Needs (R337) -/

def State.need (s : State) (p : Nat) : Need := KMap.get s.pwr.needs {} p

def noNeed : Nat := 0xFFFFFFFFFFFFFFFF

/-- LAT_US of a need in ns; 0 behaves as 1 (R351). -/
def Need.latUs (n : Need) : Nat := max 1 (fld n.lat 22 0)

/-- The RUNNING partitions with a need in force. -/
def State.needy (s : State) : List Nat :=
  (List.range 32).filter (fun p => s.isRunning p && (s.need p).time != noNeed)

/-! ## Readiness (R344) -/

/-- PWR_AWAKE in seconds. -/
def State.awakeS (s : State) : Nat := min ((s.clk.lt - s.pwr.zsp.awakeSince) / 1000000000) 0xFFFFFFFF

/-- The first condition of readiness that fails; 0 when the module is ready. -/
def State.notReady (s : State) : Nat :=
  if !s.regB R.PWR_ZSP_CTRL 0 then 1
  else if s.needy.any (fun p => decide ((s.need p).time < s.clk.lt) && decide ((s.need p).latUs < 45000)) then 2
  else if s.pwr.zsp.request.isSome then 3
  else if s.awakeS < s.regF R.PWR_ZSP_CFG 31 24 then 4
  else 0

/-! ## Messages (R341, R342) -/

def zspBody (type round node : Nat) (rest : List Nat) : List Byte :=
  (([type, round, node] ++ rest).map (fun n => BitVec.ofNat 8 n) ++ List.replicate 8 (0xFF : Byte)).take 8

/-- A message on the CAN carrier: J1939 PGN 0xFF00 + GE at priority 6 (R342). -/
def State.zspCan (s : State) (body : List Byte) : State :=
  let w := s.reg R.PWR_ZSP_CAN
  let c := fld w 27 24
  let id := 0x18FF0000 + fld w 7 0 * 256 + s.regF R.PWR_ZSP_CFG 23 16
  if s.mbOwner c (fld w 14 8) != 0 then s
  else (s.mbWrite c (fld w 14 8) (classicWords id body) true).getD s

/-- A message on the Ethernet carrier, written into the host transmit queue; the spec names no source address, so its six
bytes are free values (R342). DEDUCED: notes/assumptions/53.md. -/
def State.zspEth (s : State) (body : List Byte) : State :=
  let q := s.regF R.PWR_ZSP_ETHQ 27 16
  if s.queueOwner q != 0 then s
  else
    let r := s.takeFree
    let frame := macBytes (s.reg R.PWR_ZSP_DA_LO) (s.reg R.PWR_ZSP_DA_HI) ++ leBytes 6 r.1
      ++ beBytes 2 (s.regF R.PWR_ZSP_ETH 15 0) ++ padTo 46 body
    (r.2.writePacket q 61 0 none (ethHeader 0 frame.length 24 0 0 ++ frame)).1

/-- A message on every carrier that BEARER selects. -/
def State.zspSend (s : State) (body : List Byte) : State :=
  let b := s.regF R.PWR_ZSP_CFG 15 14
  (s.when (b % 2 = 1) (fun s => s.zspCan body)).when (2 ≤ b) (fun s => s.zspEth body)

/-- An ANSWER for the current round (R341, R343). -/
def State.zspAnswer (s : State) (reason : Nat) : State :=
  let s := s.zspSend (zspBody 2 s.pwr.zsp.round (s.regF R.PWR_ZSP_CFG 5 0) [reason])
  let z := s.pwr.zsp
  if reason = 0 then
    s.setZsp { z with state := .ready, firstReady := some (z.firstReady.getD s.clk.lt) }
  else s.setZsp { z with state := .notReady, reason := reason }

/-- A READY module whose readiness fails sends NOT_READY (R343). -/
def State.zspCheck (s : State) : State :=
  if s.pwr.zsp.state == .ready && s.notReady != 0 then s.zspAnswer s.notReady else s

/-! ## Waking (R340, R344, R346, R347) -/

def WakeCause.code : WakeCause → Nat
  | .none => 0 | .wakeLine => 1 | .wakeInput => 2 | .digitalInput => 3 | .can => 4 | .lin => 5 | .timer => 6
  | .afterCommit => 7 | .software => 8

/-- A wake cause aborts an entry, or starts the exit from PARK or DORMANT (R331, R340). -/
def State.startExit (s : State) : State :=
  let p := s.pwr
  if p.target.isSome then s.setPwr { p with target := none, exiting := p.state != .run, began := s.clk.lt }
  else if (p.state == .park || p.state == .dormant) && !p.exiting then
    s.setPwr { p with exiting := true, began := s.clk.lt }
  else s

/-- LIN_CFG.MODE: 1 master, 2 slave, 0 off (R173). -/
def State.linMode (s : State) (l : Nat) : Nat :=
  let m := s.regF (R.LIN_CFG l) 1 0
  if m = 3 then 0 else m

def State.lin (s : State) (l : Nat) : LinChan := KMap.get s.buses.lin {} l
def State.setLin (s : State) (l : Nat) (x : LinChan) : State :=
  { s with buses := { s.buses with lin := KMap.put s.buses.lin l x } }

/-- A sleeping master channel wakes; its schedule resumes 100 ms later at entry 0 (R171). -/
def State.linMasterWake (s : State) (l : Nat) : State :=
  s.setLin l { s.lin l with state := .waking, resumeAt := some (s.clk.lt + 100000000), place := 0, collRun := none }

/-- The module and its buses wake from ASLEEP (R346); without contact the claims of R402 stay suspended. -/
def State.zspWake (s : State) (cause orig : WakeCause) (index : Nat) : State :=
  let z := s.pwr.zsp
  let lt := s.clk.lt
  let s := s.setZsp { z with
    state := .awake, latched := none, request := none, firstReady := none, salDone := false, maxDone := false
    awakeSince := lt, silent := false, cause := cause, orig := orig, index := index, valid := true, wakeLt := lt
    driveFrom := if cause == .wakeLine then none else some (max lt (z.tc + 2000000))
    reasonCan := true, reasonEth := true }
  let s := s.putF R.PWR_ZSP_CTRL 0 0 0
  let s : State := if s.pair.contact then s else { s with pair := { s.pair with suspend := some (lt + 1000000000) } }
  let s := ((List.range 8).filter (fun l => s.linMode l == 1 && (s.lin l).state == .sleep)).foldl
    (fun s l => s.linMasterWake l) s
  (s.startExit).raise pwrPage 3

/-- A wake request is served or latched (R343, R344, R347). DEDUCED: notes/assumptions/53.md. -/
def State.wakeRequest (s : State) (cause : WakeCause) (index : Nat) : State :=
  let z := s.pwr.zsp
  let s := s.setZsp { z with request := some (z.request.getD (cause, index)) }
  let s := s.startExit
  match z.state with
  | .awake => s
  | .notReady => s
  | .ready => s.zspCheck
  | .committed =>
    if z.latched.isSome then s
    else (s.setZsp { s.pwr.zsp with latched := some (cause, index) }).raise pwrPage 4
  | .asleep =>
    if z.latched.isSome then s
    else if s.clk.lt ≤ z.tc then (s.setZsp { s.pwr.zsp with latched := some (cause, index) }).raise pwrPage 4
    else s.zspWake cause .none index

end Sys2Proof.Machine
end

