-- ==== Sys2Proof/Machine/SwitchOps.lean ====
section
/-! DEFINITION. The switch: parsing, table lookups, flow meters, sequence recovery and egress edits (spec/08, R176 to
R186, R196). -/

namespace Sys2Proof.Machine

def swpPage (n : Nat) : Nat := 57 + n

def State.port (s : State) (n : Nat) : Port := KMap.get s.eth.ports {} n
def State.setPort (s : State) (n : Nat) (x : Port) : State :=
  { s with eth := { s.eth with ports := KMap.put s.eth.ports n x } }

/-- The rate of SWP_LINK.RATE in Mbit/s (R206). -/
def rateMbps (code : Nat) : Nat :=
  [10, 100, 1000, 2500, 5000, 10000, 25000].getD code 10

def State.portRate (s : State) (n : Nat) : Nat := rateMbps (s.port n).rate

/-- The time of a number of bits at the port rate, in ns. -/
def State.bitsNs (s : State) (n bits : Nat) : Nat := bits * 1000 / s.portRate n

def State.portEn (s : State) (n : Nat) : Bool := s.regB (R.SWP_PORT_CFG n) 0
def State.maxLen (s : State) (n : Nat) : Nat := clamp 64 9216 (s.regF (R.SWP_PORT_CFG n) 29 16)

/-- Ports with MACsec, and ports that leave the module (R174). -/
def portMacsec (n : Nat) : Bool := n < 18
def portExternal (n : Nat) : Bool := n < 22

/-! ## Parsing (stage 2) -/

/-- What stage 2 extracts (R176, R181). -/
structure Parsed where
  da : Nat
  sa : Nat
  /-- TPID and TCI of the outer tag -/
  tag : Option (Nat × Nat)
  etype : Nat
  rtag : Option Nat
  /-- 4 or 6, or 0 for neither -/
  ip : Nat
  proto : Nat
  dscp : Nat
  src : List Byte
  dst : List Byte
  sport : Nat
  dport : Nat
  deriving DecidableEq, Repr

/-- A big-endian number in a frame. -/
def be (l : List Byte) (off n : Nat) : Nat := beVal ((l.drop off).take n)

/-- The offset of the EtherType after the outer tag. -/
def etypeOff (l : List Byte) : Nat := if be l 12 2 = 0x8100 || be l 12 2 = 0x88A8 then 16 else 12

def parse (l : List Byte) : Parsed :=
  let o := etypeOff l
  let et := be l o 2
  let r := et = 0xF1C1
  let o2 := if r then o + 6 else o
  let et2 := be l o2 2
  let b := o2 + 2
  let ip := if et2 = 0x0800 then 4 else if et2 = 0x86DD then 6 else 0
  let proto := if ip = 4 then be l (b + 9) 1 else if ip = 6 then be l (b + 6) 1 else 0
  let l4 := if ip = 4 then b + be l b 1 % 16 * 4 else b + 40
  let ports := ip != 0 && (proto = 6 || proto = 17)
  { da := be l 0 6, sa := be l 6 6, tag := if o = 16 then some (be l 12 2, be l 14 2) else none, etype := et
    rtag := if r then some (be l (o + 4) 2) else none, ip := ip, proto := proto
    dscp := if ip = 4 then be l (b + 1) 1 / 4 else if ip = 6 then be l b 2 / 64 % 64 else 0
    src := if ip = 4 then (l.drop (b + 12)).take 4 else if ip = 6 then (l.drop (b + 8)).take 16 else []
    dst := if ip = 4 then (l.drop (b + 16)).take 4 else if ip = 6 then (l.drop (b + 24)).take 16 else []
    sport := if ports then be l l4 2 else 0, dport := if ports then be l (l4 + 2) 2 else 0 }

/-- PCP, DEI and VID of the outer tag. -/
def Parsed.pcp (p : Parsed) : Nat := (p.tag.map (fun x => x.2 / 8192)).getD 0
def Parsed.dei (p : Parsed) : Bool := (p.tag.map (fun x => x.2 / 4096 % 2 == 1)).getD false
def Parsed.vid (p : Parsed) : Nat := (p.tag.map (fun x => x.2 % 4096)).getD 0
/-- Tagged with a VID; a priority-tagged frame is not (R185). -/
def Parsed.tagged (p : Parsed) : Bool := p.vid != 0

/-! ## Hashed tables (R180) -/

/-- The first of four ways that meets a condition. -/
def wayOf (bucket : Nat) (c : Nat → Bool) : Option Nat := ((List.range 4).map (fun w => 4 * bucket + w)).find? c

def fwdWord (m : KMap Word) (i k : Nat) : Word := tabWord m (0x30000000 + 16 * i + 4 * k)

/-- Words 0 and 1 of a forwarding key, VALID taken as 0. -/
def fwdKey (mac vid : Nat) : Word × Word := (word mac, word (mac / 2 ^ 32 % 65536 + vid * 65536))

def fwdBucket (mac vid : Nat) : Nat := crc32 (wordBytes [(fwdKey mac vid).1, (fwdKey mac vid).2]) % 4096

/-- The forwarding entry of an address and a VID; `valid` says which entries are looked at. -/
def fwdLookup (m : KMap Word) (mac vid : Nat) (valid : Bool) : Option Nat :=
  let k := fwdKey mac vid
  wayOf (fwdBucket mac vid) (fun i =>
    bit (fwdWord m i 1) 31 == valid && fwdWord m i 0 == k.1 && setBit (fwdWord m i 1) 31 false == k.2)

/-- Bytes as up to four words, most significant byte first, then zero words (R180). -/
def ipWords (l : List Byte) : List Word := (List.range 4).map (fun k => word (be l (4 * k) 4))

/-- Words 0 to 11 of a stream key (R180). -/
def streamKey (p : Parsed) (vid method : Nat) : List Word :=
  if method = 2 then
    [word (2 * 2 ^ 28 + (decide (p.ip = 6)).toNat * 2 ^ 24 + p.proto * 2 ^ 16 + vid), 0, 0] ++ ipWords p.dst ++ ipWords p.src
      ++ [word (p.sport * 65536 + p.dport)]
  else
    let mac := if method = 0 then p.da else p.sa
    [word (method * 2 ^ 28 + vid), word mac, word (mac / 2 ^ 32)] ++ List.replicate 9 0

/-- The stream entry a key hits (R180, R183). -/
def State.streamHit (s : State) (key : List Word) : Option Nat :=
  let w (i k : Nat) : Word := s.regionWord 48 (0x30200000 + 64 * i + 4 * k)
  wayOf (crc32 (wordBytes key) % 4096) (fun i =>
    bit (w i 0) 31 && (List.range 12).all (fun k =>
      (if k = 0 then setBit (w i 0) 31 false else w i k) == key.getD k 0))

/-- The rules of a classification copy that are valid, ascending (R181). -/
def rulesOf (m : KMap Word) : List Nat :=
  (m.filter (fun e => 0x30040000 ≤ e.1 && e.1 < 0x30080000 && e.1 % 64 == 0 && bit e.2 31)).map
    (fun e => (e.1 - 0x30040000) / 64)

/-- The frame's fields in the layout of a rule's words 1, 2, 5, 6, 9 and 11 (R181). -/
def ruleFields (p : Parsed) (vid : Nat) : List Word :=
  [word p.da, word (p.da / 2 ^ 32 + p.etype * 65536), word p.sa,
   word (p.sa / 2 ^ 32 % 65536 + vid * 65536 + p.pcp * 2 ^ 28 + p.tag.isSome.toNat * 2 ^ 31),
   word (p.proto + p.dscp * 256 + p.dport * 65536), word p.sport]

/-- Whether a rule matches (R181). -/
def ruleHits (m : KMap Word) (r port : Nat) (p : Parsed) (vid : Nat) : Bool :=
  let w (k : Nat) : Word := tabWord m (0x30040000 + 64 * r + 4 * k)
  let f := ruleFields p vid
  let same (a b mask : Word) : Bool := ((a ^^^ b) &&& mask) == 0
  bit (w 0) port && same (f.getD 0 0) (w 1) (w 3) && same (f.getD 1 0) (w 2) (w 4) && same (f.getD 2 0) (w 5) (w 7) &&
  same (f.getD 3 0) (w 6) (w 8) && same (f.getD 4 0) (w 9) (w 10) &&
  same (f.getD 5 0) (word (fld (w 11) 15 0)) (word (fld (w 11) 31 16))

/-! ## Flow meters (R184) -/

def State.meter (s : State) (m : Nat) : Meter := KMap.get s.eth.meters {} m
def State.setMeter (s : State) (m : Nat) (x : Meter) : State :=
  { s with eth := { s.eth with meters := KMap.put s.eth.meters m x } }

/-- Colour of a metered frame. -/
inductive Colour where
  | green | yellow | red
  deriving DecidableEq, Repr

/-- The bucket levels at an instant, in 10^-6 bit (R184). -/
def Meter.levels (x : Meter) (lt cir cbs eir ebs : Nat) (cf : Bool) : Nat × Nat :=
  let dt := lt - x.since
  let c := (x.committed.getD cbs) + cir * dt
  let above := if cf then c - cbs else 0
  (min c cbs, min ((x.excess.getD ebs) + eir * dt + above) ebs)

/-- Meter `m` of a policer copy charges a frame (R184). DEDUCED: notes/assumptions/31.md. -/
def State.meterFrame (s : State) (t : KMap Word) (m len : Nat) (dei : Bool) : Colour × State :=
  let w (k : Nat) : Word := tabWord t (0x30080000 + 32 * m + 4 * k)
  let x := s.meter m
  if !bit (w 4) 31 then (.green, s.setMeter m { x with greenCount := satAdd 32 x.greenCount 1 })
  else
    let l := x.levels s.clk.lt (w 0).toNat (fld (w 1) 23 0 * 8000000) (w 2).toNat (fld (w 3) 23 0 * 8000000) (bit (w 4) 0)
    let need := len * 8000000
    let c : Colour :=
      if x.red && bit (w 4) 3 then .red
      else if !(bit (w 4) 1 && dei) && need ≤ l.1 then .green
      else if need ≤ l.2 then .yellow else .red
    let x := { x with committed := some (if c == Colour.green then l.1 - need else l.1)
                      excess := some (if c == Colour.yellow then l.2 - need else l.2), since := s.clk.lt }
    match c with
    | .green => (c, s.setMeter m { x with greenCount := satAdd 32 x.greenCount 1 })
    | .yellow => (c, s.setMeter m { x with yellowCount := satAdd 32 x.yellowCount 1 })
    | .red =>
      let latch := bit (w 4) 3 && !x.red
      (c, (s.setMeter m { x with redCount := satAdd 32 x.redCount 1, red := x.red || bit (w 4) 3 }).raiseIf latch 54 0)

/-! ## Sequence recovery and generation (R196) -/

def State.recov (s : State) (f : Nat) : Recovery := KMap.get s.eth.recs {} f
def State.setRecov (s : State) (f : Nat) (x : Recovery) : State :=
  { s with eth := { s.eth with recs := KMap.put s.eth.recs f x } }
def State.genFn (s : State) (f : Nat) : GenFn := KMap.get s.eth.gens {} f
def State.setGenFn (s : State) (f : Nat) (x : GenFn) : State :=
  { s with eth := { s.eth with gens := KMap.put s.eth.gens f x } }

def recHistory (w : Word) : Nat := clamp 2 32 (fld w 5 0)

/-- The vector algorithm of IEEE 802.1CB on a sequence number: whether it passes, and the function after. -/
def Recovery.vector (x : Recovery) (n seq : Nat) : Bool × Recovery :=
  if x.fresh then
    (true, { x with fresh := false, last := seq, history := true :: List.replicate (n - 1) false, passed := satAdd 32 x.passed 1 })
  else
    let d := signed 16 (unsigned 16 ((seq : Int) - (x.last : Int)))
    if (n : Int) ≤ d || d ≤ -(n : Int) then (false, { x with discarded := satAdd 32 x.discarded 1 })
    else if d ≤ 0 then
      let i := (-d).toNat
      if x.history.getD i false then (false, { x with discarded := satAdd 32 x.discarded 1 })
      else (true, { x with history := x.history.set i true, passed := satAdd 32 x.passed 1
                           outOfOrder := satAdd 32 x.outOfOrder 1 })
    else
      let k := d.toNat
      let out := (x.history.drop (n - k)).filter (fun b => !b)
      let h := (true :: (List.replicate (k - 1) false ++ x.history)).take n
      (true, { x with history := h, last := seq, passed := satAdd 32 x.passed 1, lost := satAdd 32 x.lost out.length
                      outOfOrder := if k = 1 then x.outOfOrder else satAdd 32 x.outOfOrder 1 })

/-- The match algorithm of IEEE 802.1CB. -/
def Recovery.matched (x : Recovery) (seq : Nat) : Bool × Recovery :=
  if !x.fresh && x.last = seq then (false, { x with discarded := satAdd 32 x.discarded 1 })
  else
    let jump := !x.fresh && seq != (x.last + 1) % 65536
    (true, { x with fresh := false, last := seq, passed := satAdd 32 x.passed 1
                    outOfOrder := if jump then satAdd 32 x.outOfOrder 1 else x.outOfOrder })

/-- Recovery function `f` sees a frame (R196): whether it passes. -/
def State.recoverFrame (s : State) (f : Nat) (w : Word) (seq : Option Nat) : Bool × State :=
  if !bit w 31 then (true, s)
  else
    let x := { s.recov f with lastFrame := s.clk.lt }
    match seq with
    | none =>
      if bit w 29 then (true, s.setRecov f { x with passed := satAdd 32 x.passed 1 })
      else (false, s.setRecov f { x with discarded := satAdd 32 x.discarded 1 })
    | some q =>
      let r := if bit w 30 then x.matched q else x.vector (recHistory w) q
      (r.1, s.setRecov f r.2)

/-- Generation function `f` numbers a frame (R196). -/
def State.numberFrame (s : State) (f : Nat) (w : Word) : Option Nat × State :=
  if !bit w 31 then (none, s)
  else
    let x := s.genFn f
    (some x.next, s.setGenFn f { next := (x.next + 1) % 65536, numbered := satAdd 32 x.numbered 1 })

/-! ## Egress edits (stage 8) -/

/-- The frame as a port sends it: VLAN tag, DEI and R-TAG (R176, R183, R196). A tagged frame keeps its priority, and an
untagged one takes its port's (R206). -/
def egressEdit (d : Decision) (port : Nat) (strip : Bool) (seq : Option Nat) : List Byte :=
  let p := parse d.bytes
  let pcp := if p.tag.isSome then p.pcp else d.defPcp
  let o := etypeOff d.bytes
  let rest := if strip && p.rtag.isSome then d.bytes.drop (o + 6) else d.bytes.drop o
  let tpid := (p.tag.map (·.1)).getD 0x8100
  let dei := p.dei || d.yellow
  let tag := if bit d.vlan1 port then [] else beBytes 2 tpid ++ beBytes 2 (pcp * 8192 + dei.toNat * 4096 + d.vid)
  let r := match seq with
    | some n => if bit d.act.2.2.2 port then beBytes 2 0xF1C1 ++ beBytes 2 0 ++ beBytes 2 n else []
    | none => []
  d.bytes.take 12 ++ tag ++ r ++ rest

/-- INFO of the header of R198. -/
def ethInfo (tc : Nat) (stream : Option Nat) : Nat :=
  tc + (match stream with | some h => h * 16 + 2 ^ 18 | none => 0)

/-! ## Frames and copies in queues (R187, R220, R221) -/

/-- Cells charged to a stream queue (R220). -/
def Queue.charged (x : Queue) : Nat := x.visible.foldl (fun n p => n + (p.copy.map (·.charge)).getD 0) 0

/-- A packet that no transmission has begun. -/
def unbegun (p : Packet) : Bool := match p.copy with | some m => !m.begun | none => false

/-- The oldest unbegun packet of a queue leaves, counted as pushed out (R220). -/
def State.pushOut (s : State) (q : Nat) : Option State :=
  let x := s.queue q
  match x.visible.find? unbegun with
  | none => none
  | some p =>
    let s := s.setQueue q { x with visible := x.visible.erase p }
    some (((s.leavePacket p).addF (R.SWP_TX_DROP (q / 8)) 31 0 1).addF R.QMGR_PUSHOUT 31 0 1)

/-- The stream queue with the most charged cells that holds an unbegun packet, the lower number on a tie (R221). -/
def State.fullestQueue (s : State) : Option Nat :=
  (List.range 216).foldl (fun best q =>
    let x := s.queue q
    if !x.visible.any unbegun then best
    else match best with
      | none => some q
      | some b => if (s.queue b).charged < x.charged then some q else some b) none

/-- Push-outs until an on-chip cell is free, or no stream queue holds an unbegun packet (R221). -/
def State.makeRoom (s : State) : Nat → State
  | 0 => s
  | n + 1 =>
    if s.poolFree false != 0 then s
    else match s.fullestQueue.bind s.pushOut with
      | none => s
      | some s => s.makeRoom n

/-- Up to `n` cells for a frame; fewer where the pool cannot give them (R221). -/
def State.takeCells (s : State) : Nat → List Nat × State
  | 0 => ([], s)
  | n + 1 =>
    let s := s.makeRoom 65536
    match s.takeCell false with
    | none => ([], s)
    | some (c, s) =>
      let r := s.takeCells n
      (c :: r.1, r.2)

/-- `n` cells for a frame, or a count in QMGR_POOL_DROP; what was pushed out for it stays so (R221). -/
def State.frameCells (s : State) (n : Nat) : Option (List Nat) × State :=
  let r := s.takeCells n
  if r.1.length < n then (none, (r.2.freeCells r.1).addF R.QMGR_POOL_DROP 31 0 1) else (some r.1, r.2)

/-- A frame begins to be written into cells: its number, where the pool can hold it. -/
def State.openFrame (s : State) (len : Nat) : Option Nat × State :=
  match s.frameCells (ceilDiv len 256) with
  | (none, s) => (none, s)
  | (some l, s) =>
    let k := s.pool.nextFrame
    (some k, { s with pool := { s.pool with nextFrame := k + 1,
                                            frames := KMap.put s.pool.frames k { cells := l, colour := s.sw.colour } } })

/-- A frame whose arrival has ended leaves if no copy of it is queued (R177). -/
def State.closeFrame (s : State) (k : Nat) : State := s.releaseFrame k false

/-- Push-outs until a copy of `charge` cells fits a queue of at most `most` (R220). -/
def State.fitQueue (s : State) (q charge most : Nat) : Nat → State
  | 0 => s
  | n + 1 =>
    if (s.queue q).charged + charge ≤ most then s
    else match s.pushOut q with
      | none => s
      | some s => s.fitQueue q charge most n

/-- TX_NS of a port; 0 on P22 to P26 (R308). -/
def State.txNs (s : State) (n : Nat) : Nat := if n < 22 then s.regF (R.TIME_PORT_DLY n) 31 16 else 0

/-- The transmit lead of a port (R308). -/
def State.txLead (s : State) (n : Nat) : Nat :=
  400 + (if portMacsec n && s.regB (R.SWP_MSEC_CFG n) 0 then 250 else 0) + s.bitsNs n 64 + s.txNs n

/-- The time base of a launch has reached the launch time less the lead of port `n` (R308). -/
def State.launchReached (s : State) (n : Nat) (l : Nat × Bool) : Bool :=
  if l.2 then s.syncValid && decide (l.1 ≤ s.syncNs + s.txLead n) else decide (l.1 ≤ s.clk.lt + s.txLead n)

/-- A copy that may be selected: it waits for no launch time, or has reached it (R308). -/
def State.copyReady (s : State) (n : Nat) (m : CopyMeta) : Bool :=
  m.eligible || match m.launch with | none => true | some l => s.launchReached n l

/-- Stage 6 admits one copy into a queue (R187, R220): whether it was admitted. -/
def State.admitCopy (s : State) (q born : Nat) (data : List Byte) (m : CopyMeta) : Bool × State :=
  let n := q / 8
  let most := max 1 (s.regF (R.SWP_QCFG n (q % 8)) 31 20)
  let drop (s : State) : Bool × State := (false, s.addF (R.SWP_TX_DROP n) 31 0 1)
  if !s.pageActive (swpPage n) || most < m.charge then drop s
  else
    let s := s.fitQueue q m.charge most 4096
    if most < (s.queue q).charged + m.charge then drop s
    else (true, s.pushVisible q { writer := 7, born := born, data := data, copy := some m })

end Sys2Proof.Machine
end

