-- ==== Sys2Proof/Machine/SwitchRx.lean ====
section
/-! DEFINITION. The switch from reception to admission: stages 1 to 6 of the pipeline, the gPTP trap, host ports, mirror
and trace copies (spec/08, R176 to R187, R194 to R202; spec/12, R302 to R308). -/

namespace Sys2Proof.Machine

/-! ## Shaper credits (R192) -/

/-- Credit of queue `q` of port `n` after `dt` ns. DEDUCED: notes/assumptions/32.md. -/
def State.creditAfter (s : State) (n q dt : Nat) (c : Int) : Int :=
  let x := s.port n
  let rate : Int := (s.portRate n : Nat) * 1000
  let idle : Int := min ((s.regF (R.SWP_CBS n q) 27 0 : Nat) : Int) rate
  let empty := (s.queue (8 * n + q)).visible.isEmpty
  if !x.gates.testBit q then (if empty then min 0 c else c)
  else if x.sending = some q then c + (idle - rate) * dt
  else if empty then min 0 (c + idle * dt)
  else c + idle * dt

/-- The credits of a port's shapers brought to this instant. -/
def State.updCredits (s : State) (n : Nat) : State :=
  let x := s.port n
  let on := (List.range 8).filter (fun q => s.regB (R.SWP_CBS n q) 31)
  s.setPort n { x with credits := on.map (fun q => (q, s.creditAfter n q (s.clk.lt - x.creditAt) (KMap.get x.credits 0 q))),
                       creditAt := s.clk.lt }

/-! ## Stage 1 (R176, R200 to R202) -/

/-- A receive error: counted, and ERROR raised (R206). -/
def State.rxErr (s : State) (n : Nat) : State := (s.addF (R.SWP_RX_ERR n) 31 0 1).raise (swpPage n) 2

def State.rxDisc (s : State) (n : Nat) : State := s.addF (R.SWP_RX_DISC n) 31 0 1

/-- The receive channel in force whose SCI a frame carries, the lower first (R202). -/
def State.rxChannel (s : State) (n sci : Nat) : Option Nat :=
  (List.range 4).find? (fun c =>
    s.regB (R.SWP_MSEC_RXSA n c) 31 && s.regPair (R.SWP_MSEC_RXSCI_LO n c) (R.SWP_MSEC_RXSCI_HI n c) == sci)

/-- A frame that fails MACsec: whether it passes, by VALIDATE (R201, R202). PRESUMED: notes/assumptions/30.md. -/
def State.msecFail (s : State) (n : Nat) : Bool × State :=
  let v := s.regF (R.SWP_MSEC_CFG n) 3 2
  if v = 0 then (true, s) else (v = 1, s.addF (R.SWP_MSEC_RX_BAD n) 31 0 1)

/-- A protected frame (R202): whether it passes. -/
def State.msecTagged (s : State) (n : Nat) (bytes : List Byte) (g : SecTag) : Bool × State :=
  if s.regF (R.SWP_MSEC_CFG n) 3 2 = 0 then (true, s)
  else
    match s.rxChannel n (g.sci.getD (be bytes 6 6 * 65536 + 1)) with
    | none => s.msecFail n
    | some c =>
      let sa := s.reg (R.SWP_MSEC_RXSA n c)
      let key := 4 * c + g.an.val
      let low := KMap.get (s.port n).low 1 key
      if !bit sa (7 * g.an.val + 6) || !g.icvOk then s.msecFail n
      else if s.regB (R.SWP_MSEC_CFG n) 7 && g.pn < low then (false, s.addF (R.SWP_MSEC_RX_BAD n) 31 0 1)
      else
        let x := s.port n
        (true, s.setPort n { x with low := KMap.put x.low key (max low (g.pn + 1 - s.regF (R.SWP_MSEC_CFG n) 31 8)) })

/-- A frame that uses the uncontrolled port (R200). PRESUMED: notes/assumptions/30.md. -/
def State.uncontrolled (s : State) (n etype : Nat) : Bool :=
  etype = 0x888E || (etype = 0x88F7 && s.regB (R.SWP_MSEC_CFG n) 6)

/-- MACsec receive: whether the frame passes. An unprotected frame is discarded under Strict, as IEEE 802.1AE gives.
PRESUMED: notes/assumptions/30.md. -/
def State.msecRx (s : State) (n : Nat) (bytes : List Byte) (tag : Option SecTag) : Bool × State :=
  if !portMacsec n || !s.regB (R.SWP_MSEC_CFG n) 1 then (true, s)
  else match tag with
    | some g => s.msecTagged n bytes g
    | none =>
      if s.uncontrolled n (parse bytes).etype || s.regF (R.SWP_MSEC_CFG n) 3 2 < 2 then (true, s)
      else (false, s.addF (R.SWP_MSEC_RX_BAD n) 31 0 1)

/-- A frame of the partner's source address on a port of PAIR_BB_PORTS (R387). -/
def State.noteBackbone (s : State) (n : Nat) (bytes : List Byte) : State :=
  if s.regB R.PAIR_BB_PORTS n && be bytes 6 6 = s.regPair R.PAIR_PMAC_LO R.PAIR_PMAC_HI % 2 ^ 48 then
    { s with pair := { s.pair with bbAt := some s.clk.lt } }
  else s

/-- The bytes that a SecTAG and its ICV add to a frame, with an explicit SCI or without (R200). -/
def secBytes (sci : Bool) : Nat := if sci then 32 else 24

/-- Stage 1 has the whole frame (R176): whether it passes. MAX_LEN holds for the frame before its protection; the shortest
length and SWP_RX_BYTES are of the frame on the wire (R200, R206). DEDUCED: notes/assumptions/31.md. -/
def State.stage1 (s : State) (n : Nat) (bytes : List Byte) (fcsOk : Bool) (tag : Option SecTag) : Bool × State :=
  let len := bytes.length + 4
  let wire := len + (tag.map (fun g => secBytes g.sci.isSome)).getD 0
  if !fcsOk || wire < 64 || s.maxLen n < len then (false, s.rxErr n)
  else
    let r := s.msecRx n bytes tag
    if !r.1 then r
    else
      let s := r.2.addF (R.SWP_RX_FRAMES n) 31 0 1
      let s := s.noteBackbone n bytes
      (true, s.setPort n { s.port n with rxBytes := ((s.port n).rxBytes + wire) % 2 ^ 64 })

/-! ## Stage 3 (R178, R182, R183) -/

/-- The traffic class of a PCP. -/
def State.tcOf (s : State) (n pcp : Nat) : Nat := s.regF (R.SWP_TC_MAP n) (3 * pcp + 2) (3 * pcp)

/-- Words 12 to 15 of the action block that applies, with the stream handle (R183). -/
def State.actions (s : State) (n : Nat) (p : Parsed) (vid : Nat) : Option Nat × (Word × Word × Word × Word) :=
  let hit := ([0, 1] ++ (if p.ip = 0 then [] else [2])).findSome? (fun m => s.streamHit (streamKey p vid m))
  match hit with
  | some i =>
    let w (k : Nat) : Word := s.regionWord 48 (0x30200000 + 64 * i + 4 * k)
    (some i, (w 12, w 13, w 14, w 15))
  | none =>
    let m := s.sw.active
    match (rulesOf m).find? (fun r => ruleHits m r n p vid) with
    | some r =>
      let w (k : Nat) : Word := tabWord m (0x30040000 + 64 * r + 4 * k)
      (none, (w 12, w 13, w 14, w 15))
    | none => (none, (0, 0, 0, 0))

/-- The two words of a mirror session (R197). DEDUCED: notes/assumptions/32.md. -/
def State.mirrorSession (s : State) (k : Nat) : Word × Word :=
  (s.regionWord 51 (0x30330000 + 16 * k), s.regionWord 51 (0x30330000 + 16 * k + 4))

/-- The egress mirror session of a port (R197). -/
def State.txSession (s : State) (k : Nat) : Option (Word × Word) :=
  let mir := s.reg (R.SWP_MIRROR k)
  if bit mir 15 then some (s.mirrorSession (fld mir 14 8)) else none

/-- Everything stage 3 finds for a frame received on port `n`; `host` is the class a host transmit queue gives.
DEDUCED: notes/assumptions/31.md. -/
def State.decideFrame (s : State) (n stamp : Nat) (bytes : List Byte) (launch : Option (Nat × Bool)) (host : Option Nat) :
    Decision :=
  let p := parse (bytes.take 128)
  let cfg := s.reg (R.SWP_VLAN_CFG n)
  let vid := if p.tagged then p.vid else fld cfg 11 0
  let a := s.actions n p vid
  let pcp := if bit cfg 19 && p.tag.isSome then p.pcp else fld cfg 14 12
  let f := fld a.2.2.1 8 0
  let mir := s.reg (R.SWP_MIRROR n)
  { port := n, stamp := stamp, bytes := bytes, len := bytes.length + 4, colour := s.sw.colour, vid := vid,
    vlan0 := s.regionWord 49 (0x30300000 + 8 * vid), vlan1 := s.regionWord 49 (0x30300000 + 8 * vid + 4),
    stream := a.1, act := a.2, tc := if bit a.2.1 3 then fld a.2.1 2 0 else host.getD (s.tcOf n pcp),
    mirrors := (if bit mir 7 then [s.mirrorSession (fld mir 6 0)] else [])
      ++ (if bit a.2.1 7 then [s.mirrorSession (fld a.2.1 14 8)] else []),
    rec0 := s.regionWord 50 (0x30310000 + 32 * f), gen0 := s.regionWord 50 (0x30320000 + 16 * f), launch := launch,
    defPcp := fld cfg 14 12, trace := if s.regB R.SWC_TRACE 31 then some (s.regF R.SWC_TRACE 11 0) else none,
    txMirrors := (List.range 27).filterMap (fun k => (s.txSession k).map (fun w => (k, w))) }

/-- The SW copy a frame consults. -/
def State.swCopy (s : State) (d : Decision) : KMap Word := s.sw.copyOf d.colour

/-- VID 0 and 4,095 are never valid (R180). -/
def Decision.vlanOk (d : Decision) : Bool := bit d.vlan0 31 && d.vid != 0 && d.vid != 4095

/-! ## Stage 4 (R184, R185) -/

/-- The tag suits SWP_VLAN_CFG.ACCEPT. -/
def State.accepts (s : State) (n : Nat) (p : Parsed) : Bool :=
  match s.regF (R.SWP_VLAN_CFG n) 17 16 with
  | 1 => p.tagged
  | 2 => !p.tagged
  | _ => true

/-- The forwarding entry of the source address bars the frame from its port (R185). -/
def State.saBarred (s : State) (d : Decision) : Bool :=
  let m := s.swCopy d
  match fwdLookup m (parse (d.bytes.take 128)).sa d.vid true with
  | some i => bit (fwdWord m i 3) 1 && !bit (fwdWord m i 2) d.port
  | none => false

/-- The checks of stage 4 that the first 128 bytes decide (R185). DEDUCED: notes/assumptions/31.md. -/
def State.headPasses (s : State) (d : Decision) : Bool :=
  s.accepts d.port (parse (d.bytes.take 128)) && !(s.regB (R.SWP_VLAN_CFG d.port) 18 && !(d.vlanOk && bit d.vlan0 d.port))
    && !bit d.act.1 4 && !s.saBarred d

/-- The same with the counts of a frame that fails them: whether it passes. DEDUCED: notes/assumptions/31.md. -/
def State.stage4Head (s : State) (d : Decision) : Bool × State :=
  if s.headPasses d then (true, s)
  else (false, (s.when (s.saBarred d) (fun s => (s.addF R.SWC_SA_VIOL 31 0 1).raise 53 1)).rxDisc d.port)

/-- MAX_SDU and the meter, which need the last byte: whether the frame passes, and whether it is yellow. -/
def State.stage4Tail (s : State) (d : Decision) (len : Nat) : Bool × Bool × State :=
  let sdu := fld d.act.2.1 29 16
  if sdu != 0 && sdu < len then (false, false, s.rxDisc d.port)
  else if !bit d.act.1 15 then (true, false, s)
  else
    let m := fld d.act.1 25 16
    let r := s.meterFrame (s.swCopy d) m len (parse (d.bytes.take 128)).dei
    match r.1 with
    | .green => (true, false, r.2)
    | .red => (false, false, r.2.rxDisc d.port)
    | .yellow =>
      if bit (tabWord (s.swCopy d) (0x30080000 + 32 * m + 16)) 2 then (false, false, r.2.rxDisc d.port)
      else (true, true, r.2)

/-! ## Stage 5 (R186, R196) -/

/-- The egress ports of a frame; none where its forwarding entry drops it (R186). -/
def State.egressSet (s : State) (d : Decision) : Option (List Nat) :=
  let p := parse (d.bytes.take 128)
  let m := s.swCopy d
  let mode := fld d.act.2.2.1 28 27
  let member : Word := if d.vlanOk then word (fld d.vlan0 26 0) else 0
  let mask := word (fld d.act.2.2.1 26 0)
  let hit := fwdLookup m p.da d.vid true
  let look : Option Word := match hit with
    | some i => if bit (fwdWord m i 3) 0 then none else some (word (fld (fwdWord m i 2) 26 0))
    | none => some (if bit d.vlan0 (if p.da.testBit 40 then 30 else 29) then member else 0)
  let set := look.map (fun w => if mode = 1 then mask else (if mode = 2 then w ||| mask else w) &&& member)
  set.map (fun w => (bitsOf w 27).filter (fun k => k != d.port && (s.port k).up && s.portEn k))

/-- Stage 5: the egress ports, the sequence number, and whether the R-TAG is stripped; none where the frame ends here.
DEDUCED: notes/assumptions/31.md. -/
def State.stage5 (s : State) (d : Decision) : Option (List Nat × Option Nat × Bool) × State :=
  let p := parse (d.bytes.take 128)
  let s := s.when ((fwdLookup (s.swCopy d) p.sa d.vid false).isSome) (fun s => s.addF R.SWC_UNKNOWN_SA 31 0 1)
  match s.egressSet d with
  | none => (none, s)
  | some [] => (none, s.addF R.SWC_NO_DEST 31 0 1)
  | some l =>
    let f := fld d.act.2.1 8 0
    let r := if bit d.act.1 26 then s.recoverFrame f d.rec0 p.rtag else (true, s)
    if !r.1 then (none, r.2)
    else
      let g := if bit d.act.1 27 then r.2.numberFrame f d.gen0 else (none, r.2)
      (some (l, g.1, bit d.act.1 26), g.2)

/-! ## Stage 6 (R187, R194, R197, R198) -/

/-- The copy of a frame for one egress port: its bytes in the queue and its meta-data. -/
def State.copyFor (s : State) (d : Decision) (k : Nat) (seq : Option Nat) (strip : Bool) (frame : Nat) :
    List Byte × CopyMeta :=
  let b := egressEdit d k strip seq
  let data := if 22 ≤ k && k < 25 then ethHeader d.stamp b.length d.port 0 (ethInfo d.tc d.stream) ++ b else b
  (data, { frame := frame, len := b.length + 4, charge := ceilDiv (b.length + 4) 256, ingress := d.stamp, launch := d.launch,
           eligible := (d.launch.map (s.launchReached k)).getD true, tc := d.tc, stream := d.stream, sw := d.colour,
           port := d.port, stomped := d.bad, txMirror := d.txMirrors.lookup k })

/-- A copy of each egress port is offered to its queue. -/
def State.admitPorts (s : State) (d : Decision) (ports : List Nat) (seq : Option Nat) (strip : Bool) (frame : Nat) : State :=
  ports.foldl (fun s k =>
    let c := s.copyFor d k seq strip frame
    ((s.updCredits k).admitCopy (8 * k + d.tc) d.stamp c.1 c.2).2) s

/-- A mirror or trace copy that finds no place. -/
def State.mirrorDrop (s : State) : State := s.addF R.SWC_MIRROR_DROP 31 0 1

/-- The frame of a copy under TRUNC (R197). DEDUCED: notes/assumptions/32.md. -/
def truncTo (trunc : Nat) (b : List Byte) : List Byte := if trunc = 0 then b else b.take (clamp 64 9216 trunc)

/-- A copy as one packet of a message queue (R198). -/
def State.copyToQueue (s : State) (q trunc port : Nat) (egress err : Bool) (stamp tc : Nat) (stream : Option Nat)
    (b : List Byte) : State :=
  let kept := truncTo trunc b
  let flags := egress.toNat + err.toNat * 2 + (decide (kept.length < b.length)).toNat * 16
  let r := s.writePacket q 7 0 none (ethHeader stamp b.length port flags (ethInfo tc stream) ++ kept)
  if r.2 then r.1 else r.1.mirrorDrop

/-- A copy to an analysis port's queue 0 (R197). -/
def State.copyToPort (s : State) (k trunc port : Nat) (egress err colour : Bool) (stamp tc : Nat) (stream : Option Nat)
    (b : List Byte) : State :=
  let kept := truncTo trunc b
  let flags := egress.toNat + err.toNat * 2 + (decide (kept.length < b.length)).toNat * 16
  let data := if 22 ≤ k && k < 25 then ethHeader stamp b.length port flags (ethInfo tc stream) ++ kept else kept
  match s.openFrame (kept.length + 4) with
  | (none, s) => s.mirrorDrop
  | (some f, s) =>
    let s : State := { s with pool := { s.pool with
      frames := KMap.upd s.pool.frames {} f (fun x => { x with colour := colour }) } }
    let r := (s.updCredits k).admitCopy (8 * k) stamp data
      { frame := f, len := kept.length + 4, charge := ceilDiv (kept.length + 4) 256, ingress := stamp, stomped := err,
        tc := 0, mirror := true, sw := colour, port := port }
    if r.1 then r.2 else (r.2.closeFrame f).mirrorDrop

/-- A mirror copy under a session (R197). DEDUCED: notes/assumptions/32.md. -/
def State.mirrorCopy (s : State) (w : Word × Word) (port : Nat) (egress err colour : Bool) (stamp tc : Nat)
    (stream : Option Nat) (b : List Byte) : State :=
  if !bit w.1 31 then s
  else match fld w.1 30 29 with
    | 0 => if fld w.1 4 0 < 27 then s.copyToPort (fld w.1 4 0) (fld w.1 23 8) port egress err colour stamp tc stream b else s.mirrorDrop
    | 1 => s.copyToQueue (fld w.2 11 0) (fld w.1 23 8) port egress err stamp tc stream b
    | _ => s

/-- The ingress mirror, flow mirror and trace copies of a frame (R197). -/
def State.sideCopies (s : State) (d : Decision) (err : Bool) : State :=
  let s := d.mirrors.foldl (fun s w => s.mirrorCopy w d.port false err d.colour d.stamp d.tc d.stream d.bytes) s
  match d.trace with
  | some q => if bit d.act.1 6 then s.copyToQueue q 0 d.port false err d.stamp d.tc d.stream d.bytes else s
  | none => s

/-! ## gPTP frames (R302 to R305) -/

def ptpDa : Nat := 0x0180C200000E

/-- A frame that leaves the tables at stage 3 (R302). -/
def isPtp (n : Nat) (b : List Byte) : Bool :=
  n < 18 && (parse b).etype = 0x88F7 && be b 0 6 = ptpDa && be b (etypeOff b + 2) 1 / 16 = 1

/-- Fields of a gPTP message: the offset of its header, its type, domain, flags and sequence number. -/
def ptpOff (b : List Byte) : Nat := etypeOff b + 2
def ptpType (b : List Byte) : Nat := be b (ptpOff b) 1 % 16
def ptpDomain (b : List Byte) : Nat := be b (ptpOff b + 4) 1
def ptpTwoStep (b : List Byte) : Bool := (be b (ptpOff b + 6) 1).testBit 1
def ptpSeq (b : List Byte) : Nat := be b (ptpOff b + 30) 2

/-- Whether a domain relays, and whether it originates (R303). -/
def State.relays (s : State) (d : Nat) : Bool :=
  let c := s.reg (R.PTP_CFG d)
  let m := fld c 2 1
  bit c 0 && (m = 1 || ((m = 0 || m = 3) && (s.dom d).state == .synced
    && bit (s.reg (R.PTP_PORTS d)) 31 && decide (fld (s.reg (R.PTP_PORTS d)) 28 24 < 18)))

def State.originates (s : State) (d : Nat) : Bool := s.domEn d && !s.relays d

/-- A message queue owned by the owner of a domain's page. -/
def State.domQueue (s : State) (d q : Nat) : Bool := isMsgQueue q && s.queueOwner q == s.pageOwner (ptpPage d)

/-- A gPTP copy enters the egress queue of one port. -/
def State.ptpCopy (s : State) (d k stamp port : Nat) (b : List Byte) (launch : Option (Nat × Bool)) (e : PtpEdit)
    (bad : Bool := false) : State :=
  match s.openFrame (b.length + 4) with
  | (none, s) => s
  | (some f, s) =>
    let tc := s.regF (R.PTP_QUEUES d) 30 28
    let r := (s.updCredits k).admitCopy (8 * k + tc) stamp b
      { frame := f, len := b.length + 4, charge := ceilDiv (b.length + 4) 256, ingress := stamp, launch := launch,
        eligible := (launch.map (s.launchReached k)).getD true, ptp := e, tc := tc, sw := s.sw.colour, port := port,
        stomped := bad, txMirror := s.txSession k }
    if r.1 then r.2 else r.2.closeFrame f

/-- The ports a relayed frame of a domain is sent on (R304). -/
def State.masterPorts (s : State) (d : Nat) : List Nat :=
  let w := s.reg (R.PTP_PORTS d)
  (bitsOf w 18).filter (fun k => k != fld w 28 24)

/-- A copy in a queue that still needs the figures of a relay. -/
def State.needsRelay (s : State) (serial : Nat) : Bool :=
  s.pool.queues.any (fun x => x.2.visible.any (fun p =>
    match (p.copy.map (·.ptp)).getD .none with | .followUp _ k => k == serial | _ => false))

/-- A two-step Sync begins its relay: its Follow_Up is awaited, and an earlier one of the same number no more. -/
def State.awaitFollowUp (s : State) (d n seqId : Nat) (ports : List Nat) : State :=
  { s with clk := { s.clk with followUps := s.clk.followUps.filter (fun f =>
      if f.arrived then s.needsRelay f.serial else !(f.dom == d && f.seqId == seqId))
    ++ [{ dom := d, serial := s.clk.nextRelay, port := n, ports := ports, seqId := seqId, since := s.clk.lt,
          corrections := [] }] } }

/-- A Sync received on the slave port of a relaying domain (R304); `ingress` is the stamp of R302. -/
def State.relaySync (s : State) (d n stamp ingress : Nat) (b : List Byte) : State :=
  if !s.relays d || !s.regB (R.PTP_PORTS d) 31 || s.regF (R.PTP_PORTS d) 28 24 != n then s
  else
    let ports := s.masterPorts d
    let k := s.clk.nextRelay
    let s := s.when (ptpTwoStep b) (fun s => s.awaitFollowUp d n (ptpSeq b) ports)
    let s : State := { s with clk := { s.clk with nextRelay := k + 1 } }
    ports.foldl (fun s p => s.ptpCopy d p stamp n b none (.relay d ingress (ptpTwoStep b) k)) s

/-- A Follow_Up received on a port: it completes the relay that awaits it, whatever the domain does meanwhile (R303,
R304). -/
def State.relayFollowUp (s : State) (d n stamp : Nat) (b : List Byte) : State :=
  match s.clk.followUps.find? (fun f => f.dom == d && f.seqId == ptpSeq b && f.port == n && !f.arrived) with
  | none => s
  | some f =>
    let s : State := { s with clk := { s.clk with
      followUps := s.clk.followUps.map (fun x => if x.serial == f.serial then { x with arrived := true } else x) } }
    f.ports.foldl (fun s p => s.ptpCopy d p stamp n b none (.followUp d f.serial)) s

/-- What a domain relays of a frame received on port `n`. -/
def State.relayPtp (s : State) (d n stamp ingress : Nat) (b : List Byte) : State :=
  if ptpType b = 0 then s.relaySync d n stamp ingress b
  else if ptpType b = 8 then s.relayFollowUp d n stamp b
  else s

/-- A gPTP frame that has passed stage 1 (R302). -/
def State.ptpRx (s : State) (n stamp : Nat) (b : List Byte) : State :=
  let d := ptpDomain b
  if 1 < d || !s.domEn d then s.rxDisc n
  else
    let ingress := stamp - s.regF (R.TIME_PORT_DLY n) 15 0
    let q := s.regF (R.PTP_QUEUES d) 11 0
    let s := if s.domQueue d q then
        let r := s.writePacket q 7 (s.pageOwner (ptpPage d)) none (ethHeader ingress b.length n 0 0 ++ b)
        if r.2 then r.1.addF (R.PTP_RX d) 31 0 1 else r.1
      else s
    s.relayPtp d n stamp ingress b

/-! ## A whole frame (R176, R177) -/

/-- A port takes what arrives: its link is up, it is enabled, and its page is not RESETTING (R204, R205). -/
def State.portTakes (s : State) (n : Nat) : Bool := (s.port n).up && s.portEn n && s.regB R.SWC_CTRL 0

/-- What ECC finds in the tables that a frame consults: SWC_ECC, and ECC_UNCORR (R205).
DESIGN CHOICE: notes/assumptions/64.md. -/
def State.tableFound (s : State) (e : EccFound) : State :=
  match e with
  | .clean => s
  | .corrected => s.addF R.SWC_ECC 15 0 1
  | .uncorrectable => (s.addF R.SWC_ECC 31 16 1).raise 53 0

/-- Stages 4 to 6 of a whole frame that stage 3 has decided. -/
def State.forwardDecided (s : State) (f : Nat) (d : Decision) : State :=
  let h := s.stage4Head d
  if !h.1 then h.2.closeFrame f
  else
    let r := h.2.stage4Tail d d.len
    if !r.1 then r.2.2.closeFrame f
    else
      let d := { d with yellow := r.2.1 }
      let v := r.2.2.stage5 d
      match v.1 with
      | none => (v.2.sideCopies d d.bad).closeFrame f
      | some (l, seq, strip) => ((v.2.admitPorts d l seq strip f).sideCopies d d.bad).closeFrame f

/-- Stages 3 to 6 of a frame whose cells are frame `f`; a frame whose tables fail their ECC is dropped. -/
def State.forwardWhole (s : State) (n f stamp : Nat) (bytes : List Byte) (launch : Option (Nat × Bool)) (host : Option Nat)
    (ecc : EccFound) (bad : Bool) : State :=
  if isPtp n bytes then (s.ptpRx n stamp bytes).closeFrame f
  else
    let s := s.tableFound ecc
    if ecc = .uncorrectable then s.closeFrame f
    else s.forwardDecided f { s.decideFrame n stamp bytes launch host with bad := bad }

/-- A whole frame arrives on port `n`. -/
def State.rxWhole (s : State) (n stamp : Nat) (bytes : List Byte) (fcsOk : Bool) (tag : Option SecTag)
    (launch : Option (Nat × Bool)) (host : Option Nat) (ecc : EccFound := .clean) (bad : Bool := false) : State :=
  if (s.page (swpPage n)).mode == .resetting then s.rxDisc n
  else if !s.portTakes n then s
  else
    match s.openFrame (min (bytes.length + 4) 9216) with
    | (none, s) => s
    | (some f, s) =>
      let r := s.stage1 n bytes fcsOk tag
      if r.1 then r.2.forwardWhole n f stamp bytes launch host ecc bad else r.2.closeFrame f

/-! ## Cut-through (R177, R194, R195) -/

/-- Whether the copy for a port may be cut through (R194). -/
def State.cutThrough (s : State) (d : Decision) (k : Nat) : Bool :=
  bit d.act.1 5 && s.regB R.SWC_CTRL 1 && decide (s.portRate k ≤ s.portRate d.port)
    && !(portMacsec d.port && s.regB (R.SWP_MSEC_CFG d.port) 1) && !bit d.act.1 15 && decide (k < 22)

/-- The length of R189 and R220 of a cut-through frame for port `k` whose tail has not arrived. -/
def State.arrivingLen (s : State) (d : Decision) (k : Nat) : Nat :=
  let sdu := fld d.act.2.1 29 16
  if sdu = 0 then s.maxLen k else sdu

/-- Port `n` holds what has come of a frame. -/
def State.keepHead (s : State) (n : Nat) (x : Arriving) : State := s.setPort n { s.port n with arriving := some x }

/-- Stages 4 to 6 of a head that may be cut through: the copies that begin before the tail (R177, R194). -/
def State.cutHead (s : State) (n : Nat) (d : Decision) (x : Arriving) : State :=
  let v := s.stage5 d
  let x := { x with cut := true }
  match v.1 with
  | none => v.2.keepHead n x
  | some (l, seq, strip) =>
    let r := (l.filter (fun k => v.2.cutThrough d k)).foldl (fun (y : List Nat × State) k =>
      let c := y.2.copyFor d k seq strip x.frame
      let most := y.2.arrivingLen d k
      let a := (y.2.updCredits k).admitCopy (8 * k + d.tc) d.stamp c.1
        { c.2 with len := most, charge := ceilDiv most 256, arriving := true }
      (if a.1 then y.1 ++ [k] else y.1, a.2)) ([], v.2)
    r.2.keepHead n { x with queues := r.1, seq := seq, strip := strip, ports := l.filter (fun k => !v.2.cutThrough d k) }

/-- The first 128 bytes of a frame: stage 3, and the later stages of a frame that can be cut through; those of any other
wait for its tail, since stages 1 and 4 come first (R176). -/
def State.rxHead (s : State) (n stamp : Nat) (bytes : List Byte) (ecc : EccFound) : State :=
  if (s.page (swpPage n)).mode == .resetting then s.rxDisc n
  else if !s.portTakes n then s
  else
    match s.openFrame 128 with
    | (none, s) => s
    | (some f, s) =>
      let x : Arriving := { frame := f, stamp := stamp, bytes := bytes }
      if isPtp n bytes then s.keepHead n x
      else
        let s := s.tableFound ecc
        if ecc = .uncorrectable then s.keepHead n { x with dead := true }
        else
          let d := s.decideFrame n stamp bytes none none
          let x := { x with decision := some d }
          if s.headPasses d && ((s.egressSet d).getD []).any (s.cutThrough d) then s.cutHead n d x else s.keepHead n x

/-- Change every copy of an arriving frame in the queues of its cut-through ports. -/
def State.mapCopies (s : State) (x : Arriving) (tc : Nat) (f : Nat → Packet → Option Packet) : State :=
  x.queues.foldl (fun s k =>
    let q := 8 * k + tc
    let y := s.queue q
    s.setQueue q { y with visible := y.visible.filterMap (fun p =>
      if (p.copy.map (fun m => m.frame == x.frame && m.arriving)).getD false then f k p else some p) }) s

/-- A cut-through frame fails after its head has left: begun copies are stomped, at the length that came and with the
charge corrected, and the others rewound (R195, R220). DEDUCED: notes/assumptions/31.md. -/
def State.ctFail (s : State) (x : Arriving) (d : Decision) : State :=
  let base := s
  let s := s.mapCopies x d.tc (fun k p => match p.copy with
    | some m =>
      let c := base.copyFor d k x.seq x.strip x.frame
      if m.begun then
        some { p with data := c.1, copy := some { m with len := c.2.len, charge := c.2.charge, stomped := true, arriving := false } }
      else none
    | none => some p)
  (s.when (!x.queues.isEmpty) (fun s => s.sideCopies d true)).closeFrame x.frame

/-- The rest of a cut-through frame's copies: bytes, length and the corrected charge (R220). -/
def State.ctPass (s : State) (x : Arriving) (d : Decision) : State :=
  let base := s
  s.mapCopies x d.tc (fun k p => match p.copy with
    | some m =>
      let c := base.copyFor d k x.seq x.strip x.frame
      some { p with data := c.1, copy := some { m with len := c.2.len, charge := c.2.charge, arriving := false } }
    | none => some p)

/-- The cells of an arriving frame grow to its length; whether they could. -/
def State.growFrame (s : State) (f len : Nat) : Bool × State :=
  match s.frameCells (ceilDiv len 256 - (KMap.get s.pool.frames {} f).cells.length) with
  | (none, s) => (false, s)
  | (some l, s) =>
    (true, { s with pool := { s.pool with
      frames := KMap.upd s.pool.frames {} f (fun fr => { fr with cells := fr.cells ++ l }) } })

/-- What is left of an arriving frame that fails: its cut-through copies, and its cells. -/
def State.failArriving (s : State) (x : Arriving) (all : List Byte) : State :=
  match x.decision with
  | some d => s.ctFail x { d with bytes := all, len := all.length + 4 }
  | none => s.closeFrame x.frame

/-- Stages 4 to 6 of an arriving frame that stage 1 has passed (R176). -/
def State.tailDecided (s : State) (x : Arriving) (d : Decision) : State :=
  if !x.cut then s.forwardDecided x.frame d
  else
    let t := s.stage4Tail d d.len
    if !t.1 then t.2.2.ctFail x d
    else
      let d := { d with yellow := t.2.1 }
      (((t.2.2.ctPass x d).admitPorts d x.ports x.seq x.strip x.frame).sideCopies d false).closeFrame x.frame

/-- The rest of a frame whose first 128 bytes have arrived. -/
def State.rxTail (s : State) (n : Nat) (bytes : List Byte) (fcsOk : Bool) (ecc : EccFound) : State :=
  match (s.port n).arriving with
  | none => s
  | some x =>
    let s := s.setPort n { s.port n with arriving := none }
    let all := x.bytes ++ bytes
    if (s.page (swpPage n)).mode == .resetting then (s.failArriving x all).rxDisc n
    else
      let g := s.growFrame x.frame (min (all.length + 4) 9216)
      if !g.1 then g.2.failArriving x all
      else
        let r := g.2.stage1 n all fcsOk none
        if !r.1 then r.2.failArriving x all
        else if x.dead then r.2.closeFrame x.frame
        else match x.decision with
          | none => r.2.forwardWhole n x.frame x.stamp all none none ecc false
          | some d =>
            let s := r.2.tableFound ecc
            if ecc = .uncorrectable then s.failArriving x all
            else s.tailDecided x { d with bytes := all, len := all.length + 4 }

/-- A frame, or a part of one, arrives on port `n`. -/
def State.ethRx (s : State) (n : Nat) (rx : EthRx) (ecc : EccFound) : State :=
  match rx with
  | .whole stamp b ok tag => s.rxWhole n stamp b ok tag none none ecc
  | .head stamp b => s.rxHead n stamp b ecc
  | .tail b ok => s.rxTail n b ok ecc

def execEthFrameRx (t : Nat) (port : Fin 27) (rx : EthRx) (ecc : EccFound) (s : State) : Result :=
  eventAt t (fun s => s.ethRx port rx ecc) s

/-! ## Host transmit queues (R199, R305) -/

/-- The frame of a host packet and its launch time; none where its header is inconsistent (R198). -/
def hostFrame (b : List Byte) : Option (List Byte × Option (Nat × Bool)) :=
  let len := leVal ((b.drop 8).take 2)
  let flags := leVal ((b.drop 11).take 1)
  if len < 14 || 9212 < len || b.length != 16 + len then none
  else some (padTo 60 (b.drop 16), if flags.testBit 2 then some (leVal (b.take 8), flags.testBit 3) else none)

/-- Port `n` takes a frame from host transmit queue `q`; `ecc` is what ECC finds in its tables and `cells` in its cells
(R199, R212). -/
def State.hostIn (s : State) (n q : Nat) (ecc cells : EccFound) : State :=
  let c := s.reg (R.SWP_HOSTQ n)
  let k := fld c 11 0 + q
  if !(22 ≤ n && n < 25) || !bit c (24 + q) || !s.portEn n || !isMsgQueue k || s.queueOwner k != s.pageOwner (swpPage n)
    || s.stopsWork (s.queueOwner k)
  then s
  else match s.readPacket k cells with
    | none => s
    | some (p, s) =>
      match hostFrame p.data with
      | none => s.rxErr n
      | some (b, launch) => s.rxWhole n s.clk.lt b true none launch (some q) ecc (!p.errs.isEmpty)

/-- A domain takes a frame from its transmit queue (R305). -/
def State.txqIn (s : State) (d : Nat) (cells : EccFound) : State :=
  let q := s.regF (R.PTP_QUEUES d) 27 16
  if !s.domQueue d q || s.stopsWork (s.queueOwner q) then s
  else match s.readPacket q cells with
    | none => s
    | some (p, s) =>
      let k := leVal ((p.data.drop 10).take 1)
      match hostFrame p.data with
      | none => s.rxErr 24
      | some (b, launch) =>
        if 18 ≤ k then s.rxErr 24 else s.ptpCopy d k s.clk.lt k b launch (.txq d) (!p.errs.isEmpty)

def State.hostFrameIn (s : State) (ecc cells : EccFound) : HostSrc → State
  | .port n q => s.hostIn n q ecc cells
  | .txq d => s.txqIn d cells

def execHostFrameIn (t : Nat) (src : HostSrc) (ecc : EccFound) (s : State) (cells : EccFound := .clean) : Result :=
  eventAt t (fun s => s.hostFrameIn ecc cells src) s

end Sys2Proof.Machine
end

