-- ==== Sys2Proof/Machine/SwitchTx.lean ====
section
/-! DEFINITION. The switch from egress queue to wire: time gates, selection, preemption, completion and ageing; flow meter
and sequence functions under software; link changes; commits, page resets and views (spec/08, R184, R187 to R206;
spec/12, R303 to R308). -/

namespace Sys2Proof.Machine

/-! ## Time gates (R190, R191) -/

/-- One entry of a running list: its first and last offset, operation and gates. -/
structure GateSeg where
  index : Nat
  start : Nat
  stop : Nat
  op : Nat
  gates : Nat
  deriving DecidableEq, Repr

def State.tasCycle (s : State) (n : Nat) : Nat := clamp 1000 1000000000 (s.reg (R.SWP_TAS_CYCLE n)).toNat
def State.tasLen (s : State) (n : Nat) : Nat := min 256 (s.regF (R.SWP_TAS_CTRL n) 24 16)
def State.tasBase (s : State) (n : Nat) : Nat := s.regPair (R.SWP_TAS_BASE_LO n) (R.SWP_TAS_BASE_HI n)
def State.initGates (s : State) (n : Nat) : Nat := s.regF (R.SWP_TAS_CTRL n) 15 8

/-- Entries `e` on of a list of `k` more, from offset `off`, cut at the cycle; the last lasts until its end. -/
def State.gateSegs (s : State) (n cycle : Nat) : Nat → Nat → Nat → List GateSeg
  | 0, _, _ => []
  | k + 1, e, off =>
    if cycle ≤ off then []
    else
      let w (j : Nat) : Word := s.regionWord n (0x30100000 + 0x800 * n + 8 * e + 4 * j)
      let stop := if k = 0 then cycle else min cycle (off + max 32 (w 1).toNat)
      ⟨e, off, stop, fld (w 0) 9 8, fld (w 0) 7 0⟩ :: s.gateSegs n cycle k (e + 1) stop

def State.gateList (s : State) (n : Nat) : List GateSeg := s.gateSegs n (s.tasCycle n) (s.tasLen n) 0 0

/-- The list is enabled and SYNC_TIME is valid. -/
def State.tasOn (s : State) (n : Nat) : Bool := s.regB (R.SWP_TAS_CTRL n) 0 && decide (s.tasLen n ≠ 0) && s.syncValid

/-- The entry in force now, when the list runs (R190). -/
def State.gateNow (s : State) (n : Nat) : Option GateSeg :=
  if !s.tasOn n || s.syncNs < s.tasBase n then none
  else
    let off := (s.syncNs - s.tasBase n) % s.tasCycle n
    (s.gateList n).find? (fun g => g.start ≤ off && off < g.stop)

/-- The port takes the gate state that its list gives at this instant. -/
def State.takeGates (s : State) (n : Nat) : State :=
  let s := s.updCredits n
  let x := { s.port n with oldUntil := none }
  match s.gateNow n with
  | none => s.setPort n { x with running := false, entry := 0, gates := s.initGates n, hold := false }
  | some g => s.setPort n { x with
      running := true, entry := g.index, gates := g.gates,
      hold := if g.op = 1 then true else if g.op = 2 then false else x.hold }

/-- SYNC_TIME has stepped: every port moves to the entry that the step gives (R191). -/
def State.gatesAtStep (s : State) : State := (List.range 27).foldl (fun s n => s.takeGates n) s

/-- A STEP of SYNC_TIME takes effect at the next 2 ns step of the clocks: every port moves to the entry that it gives then
(R191, R294). DEDUCED: notes/assumptions/48.md. -/
def State.gatesAfterStep (s : State) : State := { (s.runClocks 1).gatesAtStep with clk := s.clk }

/-- The port still runs an entry of an earlier list (R191). -/
def State.oldEntry (s : State) (n : Nat) : Bool :=
  match (s.port n).oldUntil with
  | some e => decide (s.syncNs < e) && s.syncValid
  | none => false

/-- The list moves on, unless the entry in progress still runs under old values (R191). -/
def State.gateChange (s : State) (n : Nat) : State :=
  if s.oldEntry n then s else s.takeGates n

def execGateEntryChange (t : Nat) (port : Fin 27) (s : State) : Result := eventAt t (fun s => s.gateChange port) s

/-- A commit changed the list or the registers of a port; `old` is the state before the edge (R191). An entry that an earlier
commit let run on keeps its own end. -/
def State.tasCommit (s old : State) (n : Nat) : State :=
  if s.oldEntry n then s
  else match (old.port n).running, old.gateNow n with
  | true, some g =>
    let off := (old.syncNs - old.tasBase n) % old.tasCycle n
    s.setPort n { s.port n with oldUntil := some (old.syncNs + (g.stop - off)) }
  | _, _ => s.takeGates n

/-- The time from offset `off` of the cycle to the instant from which a gate is next closed, 0 in a closed entry; none
where it never closes. -/
def nextClose (l : List GateSeg) (cycle off q : Nat) : Option Nat :=
  let closed := l.filter (fun g => !g.gates.testBit q)
  match closed.find? (fun g => off < g.stop) with
  | some g => some (g.start - off)
  | none => closed.head?.map (fun g => g.start + cycle - off)

/-- The time in ns until the gate of queue `q` next closes (R189): an entry of an earlier list runs to its end first, and
INIT_GATES hold while the list does not run (R190, R191). DEDUCED: notes/assumptions/32.md. -/
def State.untilClose (s : State) (n q : Nat) : Option Nat :=
  let now := s.syncNs
  let base := s.tasBase n
  let at' := if s.oldEntry n then (s.port n).oldUntil.getD now else now
  let shut := !(s.initGates n).testBit q
  let listed (k : Nat) : Option Nat := (nextClose (s.gateList n) (s.tasCycle n) ((k - base) % s.tasCycle n) q).map (· + (k - now))
  if !s.tasOn n then (if shut then some (at' - now) else none)
  else if at' < base then (if shut then some (at' - now) else listed base)
  else listed at'

/-! ## Selection (R189, R192, R193, R308) -/

/-- A queue whose frames may be preempted, on a port whose preemption is active. -/
def State.preemptible (s : State) (n q : Nat) : Bool := (s.port n).active && bit (s.reg (R.SWP_PREEMPT n)) (8 + q)

/-- Transmit protection is on for a frame (R200). -/
def State.msecTxOn (s : State) (n : Nat) (p : Packet) : Bool :=
  portMacsec n && s.regB (R.SWP_MSEC_CFG n) 0 && !s.uncontrolled n (parse p.data).etype

/-- The gate-fit check of R189. -/
def State.gateFits (s : State) (n q : Nat) (p : Packet) : Bool :=
  s.preemptible n q ||
  match s.untilClose n q with
  | none => true
  | some d =>
    let len := (p.copy.map (·.len)).getD 0
    let extra := if portMacsec n && s.regB (R.SWP_MSEC_CFG n) 0 then 32 else 0
    decide (((len + 20) * 8 + extra * 8) * 1000 ≤ d * s.portRate n)

/-- The packet a queue would send next. -/
def State.headOf (s : State) (n q : Nat) : Option Packet := (s.queue (8 * n + q)).visible.find? unbegun

/-- Whether queue `q` may start its head frame (R189). -/
def State.mayServe (s : State) (n q : Nat) : Bool :=
  match s.headOf n q with
  | none => false
  | some p =>
    (p.copy.map (s.copyReady n)).getD true && (s.port n).gates.testBit q
      && (!s.regB (R.SWP_CBS n q) 31 || decide (0 ≤ KMap.get (s.port n).credits 0 q))
      && !(s.preemptible n q && (s.port n).hold) && s.gateFits n q p

/-- The highest-numbered queue that may be served among those that meet a condition. -/
def State.pickQueue (s : State) (n : Nat) (c : Nat → Bool) : Option Nat :=
  ((List.range 8).reverse).find? (fun q => c q && s.mayServe n q)

/-- Bytes of the frame on the wire sent by now. -/
def State.sentNow (s : State) (n : Nat) : Nat :=
  let x := s.port n
  x.sentBytes + (s.clk.lt - x.sendStart) * s.portRate n / 8000

/-- Bytes of a frame on the wire, MACsec's among them (R200). -/
def CopyMeta.wire (m : CopyMeta) : Nat := m.len + m.sec

/-- The fragment rule of IEEE 802.3br: what is sent and what remains are long enough (R193).
DEDUCED: notes/assumptions/33.md. -/
def State.mayCut (s : State) (n len : Nat) : Bool :=
  let least := 64 * (1 + s.regF (R.SWP_PREEMPT n) 3 2)
  let x := s.port n
  least ≤ (s.clk.lt - x.sendStart) * s.portRate n / 8000 && s.sentNow n + least ≤ len

/-- The packet of a queue that a transmission has begun. -/
def State.onWire (s : State) (n q : Nat) : Option Packet :=
  (s.queue (8 * n + q)).visible.find? (fun p => (p.copy.map (·.begun)).getD false)

/-- Change the begun packet of a queue. -/
def State.mapWire (s : State) (n q : Nat) (f : Packet → Packet) : State :=
  let x := s.queue (8 * n + q)
  s.setQueue (8 * n + q) { x with visible := x.visible.map (fun p =>
    if (p.copy.map (·.begun)).getD false then f p else p) }

/-- A number of `n` bytes put into a frame, most significant first. -/
def putBe (l : List Byte) (off n v : Nat) : List Byte := l.take off ++ beBytes n v ++ l.drop (off + n)

/-- A frame's correctionField raised by `c` units of 2^-16 ns. -/
def addCorrection (b : List Byte) (c : Int) : List Byte :=
  let o := ptpOff b + 8
  putBe b o 8 (unsigned 64 ((be b o 8 : Int) + c))

/-- The relay correction of R304, in units of 2^-16 ns, rounded to nearest. -/
def State.relayCorrection (s : State) (d ingress egress : Nat) : Int :=
  let link : Nat := s.regF (R.TIME_PORT_LINK (s.regF (R.PTP_PORTS d) 28 24)) 31 0
  let ns : Int := (egress : Int) - ingress + link
  (ns * (1099511627776 + s.rateOf d) * 65536 + 549755813888) / 1099511627776

/-- sourcePortIdentity of a relayed frame (R304). -/
def State.putPortId (s : State) (d n : Nat) (b : List Byte) : List Byte :=
  putBe (putBe b (ptpOff b + 20) 8 (s.regPair (R.PTP_CLKID_LO d) (R.PTP_CLKID_HI d))) (ptpOff b + 28) 2 (n + 1)

/-- The rate offset of the follow-up information TLV (R304). -/
def State.putRateOffset (s : State) (d : Nat) (b : List Byte) : List Byte :=
  if b.length < ptpOff b + 58 then b else putBe b (ptpOff b + 54) 4 (unsigned 32 (2 * s.rateOf d))

/-- D of a domain at LOCAL_TIME `at'`, in 2^-40 ns: the clock runs on to it, a slew with it, or back at its rate
(R293). -/
def State.domAt (s : State) (d at' : Nat) : Int :=
  if s.clk.lt ≤ at' then ((s.runClocks ((at' - s.clk.lt) / 2)).dom d).d
  else (s.dom d).d - ((s.clk.lt - at' : Nat) : Int) * (1099511627776 + s.rateOf d)

/-- originTimestamp and correctionField of a Sync that the domain originates (R305): D at LOCAL_TIME `at'`. -/
def State.putOrigin (s : State) (d at' : Nat) (b : List Byte) : List Byte :=
  let v := s.domAt d at'
  let ns := unsigned 80 (v / 1099511627776)
  let sub : Int := v % 1099511627776 / 16777216
  let b := putBe (putBe b (ptpOff b + 34) 6 (ns / 1000000000)) (ptpOff b + 40) 4 (ns % 1000000000)
  addCorrection b sub

/-- The fields of a gPTP frame set at its transmission (R304, R305); none where it cannot be sent.
DEDUCED: notes/assumptions/32.md. -/
def State.ptpEdits (s : State) (n da : Nat) (p : Packet) : Option Packet × State :=
  let e := da + s.txNs n
  match (p.copy.map (·.ptp)).getD .none with
  | .none => (some p, s)
  | .relay d ingress two serial =>
    let c := s.relayCorrection d ingress e
    let b := s.putPortId d n p.data
    let s := s.addF (R.PTP_RELAYED d) 31 0 1
    if two then
      (some { p with data := b }, { s with clk := { s.clk with
        followUps := s.clk.followUps.map (fun f =>
          if f.serial == serial then { f with corrections := f.corrections ++ [(n, c)] } else f) } })
    else (some { p with data := s.putRateOffset d (addCorrection b c) }, s)
  | .followUp d serial =>
    match (s.clk.followUps.find? (fun f => f.serial == serial)).bind (fun f => f.corrections.lookup n) with
    | some c => (some { p with data := s.putRateOffset d (addCorrection (s.putPortId d n p.data) c) }, s)
    | none => (none, s)
  | .txq d =>
    if s.originates d && ptpType p.data = 0 && !ptpTwoStep p.data then
      (some { p with data := s.putOrigin d e p.data }, s)
    else (some p, s)

/-- R307: a port whose MACsec would protect gPTP frames sends none. -/
def State.ptpBarred (s : State) (n : Nat) (p : Packet) : Bool :=
  (p.copy.map (·.ptp)).getD .none != .none && portMacsec n && s.regB (R.SWP_MSEC_CFG n) 0 && !s.regB (R.SWP_MSEC_CFG n) 6

/-- The largest transmit packet number (R201). -/
def pnEnd : Nat := 0xFFFFFFFFFFFFFFFF

/-- The unbegun head packet of a queue leaves, counted in SWP_TX_DROP. -/
def State.dropHead (s : State) (n q : Nat) (p : Packet) : State :=
  let x := s.queue (8 * n + q)
  ((s.setQueue (8 * n + q) { x with visible := x.visible.erase p }).leavePacket p).addF (R.SWP_TX_DROP n) 31 0 1

/-- A protected frame takes a packet number (R201). -/
def State.takePn (s : State) (n : Nat) : State :=
  let pn := (s.port n).pn + 1
  (s.setPort n { s.port n with pn := pn }).raiseIf (pn = 0xC000000000000000 || pn = pnEnd) (swpPage n) 1

/-- A launched frame whose first bit leaves more than 1 µs late (R308). -/
def State.noteLaunch (s : State) (n da : Nat) (p : Packet) : State :=
  match p.copy.bind (·.launch) with
  | none => s
  | some (l, sync) =>
    let first := da + s.txNs n
    let at' := if sync then s.toSync first else first
    if l + 1000 < at' then (s.addF R.TIME_LATE 31 0 1).raise 7 3 else s

/-- Queue `q` starts its head frame; `da` is LOCAL_TIME at the first bit of its destination address. -/
def State.startFrame (s : State) (n q da : Nat) : State :=
  match s.headOf n q with
  | none => s
  | some p =>
    if s.ptpBarred n p then s.dropHead n q p
    else if s.msecTxOn n p && (s.port n).pn = pnEnd then s.dropHead n q p
    else
      let r := s.ptpEdits n da p
      match r.1 with
      | none => r.2.dropHead n q p
      | some p' =>
        let sec := if r.2.msecTxOn n p then secBytes (r.2.regB (R.SWP_MSEC_CFG n) 5) else 0
        let s := r.2.when (r.2.msecTxOn n p) (fun s => s.takePn n)
        let x := s.queue (8 * n + q)
        let p' := { p' with claimed := true, copy := p'.copy.map (fun m => { m with begun := true, sec := sec }) }
        let s := s.setQueue (8 * n + q) { x with visible := x.visible.map (fun y => if y = p then p' else y) }
        (s.setPort n { s.port n with sending := some q, sendStart := s.clk.lt, sentBytes := 0, da := da }).noteLaunch n da p

/-- The frame on the wire is preempted (R193). DEDUCED: notes/assumptions/33.md. -/
def State.cutFrame (s : State) (n q : Nat) : State :=
  s.setPort n { s.port n with sending := none, preempted := some q, cutBytes := s.sentNow n, cutDa := (s.port n).da }

/-- The port transmits at all: link up, enabled, its page lets items start, and its bus is not silent (R188, R346). -/
def State.portServes (s : State) (n : Nat) : Bool :=
  (s.port n).up && s.portEn n && s.mayStart (swpPage n) && !(portExternal n && s.pwr.zsp.silent) && !(22 ≤ n && n < 26)

/-- A preempted frame resumes (R193). DEDUCED: notes/assumptions/33.md. -/
def State.resumeFrame (s : State) (n q : Nat) : State :=
  if (s.port n).gates.testBit q && !(s.port n).hold then
    let x := s.port n
    s.setPort n { x with sending := some q, preempted := none, sendStart := s.clk.lt, sentBytes := x.cutBytes, da := x.cutDa }
  else s

/-- A transmission opportunity of port `n` (R189, R193). DEDUCED: notes/assumptions/32.md. -/
def State.txSelect (s : State) (n da : Nat) : State :=
  if !s.portServes n then s
  else
    let s := s.updCredits n
    let x := s.port n
    match x.sending with
    | some q =>
      let len := ((s.onWire n q).bind (·.copy)).map CopyMeta.wire
      if !s.preemptible n q || !s.mayCut n (len.getD 0) then s
      else
        match s.pickQueue n (fun k => !s.preemptible n k) with
        | some k => (s.cutFrame n q).startFrame n k da
        | none => if x.hold || !x.gates.testBit q then s.cutFrame n q else s
    | none =>
      match x.preempted with
      | some q =>
        match s.pickQueue n (fun k => !s.preemptible n k) with
        | some k => s.startFrame n k da
        | none => s.resumeFrame n q
      | none =>
        match s.pickQueue n (fun _ => true) with
        | some k => s.startFrame n k da
        | none => s

def execEthTxSelect (t : Nat) (port : Fin 27) (da : Nat) (s : State) : Result := eventAt t (fun s => s.txSelect port da) s

/-! ## Completion (R176, R195, R197, R306) -/

/-- The transmit stamp of an event message of a TXQ (R306). -/
def State.txStamp (s : State) (n : Nat) (p : Packet) : State :=
  match (p.copy.map (·.ptp)).getD .none with
  | .txq d =>
    if 3 < ptpType p.data then s
    else
      let c := s.dom d
      if 16 ≤ c.stamps.length then (s.addF (R.PTP_TXS_LOST d) 31 0 1).raise (ptpPage d) 3
      else
        (s.setDom d { c with stamps := c.stamps ++ [⟨n, ptpType p.data, ptpSeq p.data, (s.port n).da + s.txNs n⟩] }).raise
          (ptpPage d) 1
  | _ => s

/-- The egress mirror copy of a frame as transmitted (R197). -/
def State.txMirror (s : State) (n : Nat) (p : Packet) (m : CopyMeta) : State :=
  match m.txMirror with
  | some w => if m.mirror then s else s.mirrorCopy w n true m.stomped m.sw m.ingress m.tc m.stream p.data
  | none => s

/-- A frame ends on port `n` (R176): the counts, the stamp, the egress mirror, and the copy leaves. -/
def State.endFrame (s : State) (n q : Nat) (p : Packet) (m : CopyMeta) : State :=
  let s := s.updCredits n
  let x := s.queue (8 * n + q)
  let s := s.setQueue (8 * n + q) { x with visible := x.visible.erase p }
  let s := s.setPort n { s.port n with sending := none }
  let s := if m.stomped then (s.addF (R.SWP_CT_STOMPED n) 31 0 1).raise (swpPage n) 2
    else (s.addF (R.SWP_TX_FRAMES n) 31 0 1).setPort n { s.port n with txBytes := ((s.port n).txBytes + m.wire) % 2 ^ 64 }
  ((s.txStamp n p).txMirror n p m).leavePacket p

/-- The frame on the wire of port `n`, when its last byte can have left: the queue, the packet and its meta-data. -/
def State.endingFrame (s : State) (n : Nat) : Option (Nat × Packet × CopyMeta) :=
  match (s.port n).sending with
  | none => none
  | some q => match s.onWire n q with
    | none => none
    | some p => match p.copy with
      | some m => if m.arriving then none else some (q, p, m)
      | none => none

/-! ## Ageing and launch (R188, R308) -/

/-- The head packet of a stream queue ages out. -/
def State.streamAge (s : State) (q : Nat) : State :=
  let x := s.queue q
  match x.visible with
  | [] => s
  | p :: t =>
    if unbegun p && p.popped = 0 && decide (p.born + s.ageNs q < s.clk.lt) then
      (((s.updCredits (q / 8)).setQueue q { x with visible := t }).leavePacket p).addF (R.SWP_AGED (q / 8)) 31 0 1
    else s

def execStreamAgeOut (t : Nat) (q : Fin 216) (s : State) : Result := eventAt t (fun s => s.streamAge q) s

/-- A copy of a queue that waits for its launch time. -/
def waitingLaunch (p : Packet) : Bool := match p.copy with | some m => !m.eligible | none => false

/-- Every waiting copy of a queue whose time base has reached its launch time less the lead becomes eligible, and stays
so (R308). DEDUCED: notes/assumptions/32.md. -/
def State.launchEligible (s : State) (q : Nat) : State :=
  let x := s.queue q
  s.setQueue q { x with visible := x.visible.map (fun p =>
    { p with copy := p.copy.map (fun m => { m with eligible := s.copyReady (q / 8) m }) }) }

def execEthLaunchEligible (t : Nat) (q : Fin 216) (s : State) : Result := eventAt t (fun s => s.launchEligible q) s

/-! ## Software readers of stream queues (R197, R199, R215, R308) -/

/-- The head packet of a queue that a reader may take: a copy that waits for its launch time holds its queue. -/
def State.readable (s : State) (q : Nat) : Bool :=
  match (s.queue q).visible with
  | [] => true
  | p :: _ => (p.copy.map (s.copyReady (q / 8))).getD true

/-- The first word of a packet of an internal port goes out: its launch may be late (R308). -/
def State.readBegins (s : State) (q : Nat) (p : Packet) : State :=
  if p.popped = 0 then s.noteLaunch (q / 8) s.clk.lt p else s

/-- A packet of an internal port has been read whole: it counts as sent, and is mirrored without its header (R197,
R206). -/
def State.readEnds (s : State) (q : Nat) (p : Packet) : State :=
  match p.copy with
  | none => s
  | some m =>
    let n := q / 8
    let s := (s.addF (R.SWP_TX_FRAMES n) 31 0 1).setPort n { s.port n with txBytes := ((s.port n).txBytes + m.len) % 2 ^ 64 }
    s.txMirror n { p with data := p.data.drop 16 } m

/-- A reader pops the next read word of a queue; `ecc` is what ECC finds in it. -/
def State.readWord (s : State) (q : Nat) (ecc : EccFound) : List Byte × Word × State :=
  if !s.readable q then (List.replicate 32 0, setBit 0 11 true, s)
  else
    let s := s.cellEcc q ecc
    let r := s.popWord q
    match (s.queue q).visible with
    | [] => r
    | p :: _ =>
      let t := r.2.2.readBegins q p
      (r.1, r.2.1, if p.left ≤ 1 then t.readEnds q p else t)

/-- A read of RD_WORD at an offset of its 32 bytes (R215). -/
def State.rdWord (s : State) (a : Acc) (q off size : Nat) (ecc : EccFound) : State :=
  if off = 0x800 then
    let r := s.readWord q ecc
    let x := r.2.2.queue q
    (r.2.2.setQueue q { x with latches := KMap.put x.latches a.req ⟨r.1, r.2.1⟩ }).done (leVal (r.1.take size))
  else s.done (leVal (((KMap.get (s.queue q).latches {} a.req).data.drop (off - 0x800)).take size))

def execRdWord (a : Acc) (q : Fin 4096) (off : Fin 32) (size : Nat) (ecc : EccFound) (s : State) : Result :=
  apertureAt a q (0x800 + off) size false (fun s => s.rdWord a q (0x800 + off) size ecc) s

/-! ## Links and preemption (R193, R206) -/

/-- Verification starts over (R193, R204): what VERIFY and ACTIVE become. -/
def State.verifyStart (s : State) (n : Nat) : State :=
  let w := s.reg (R.SWP_PREEMPT n)
  let x := s.port n
  if 10 ≤ n || !bit w 0 then s.setPort n { x with verify := .disabled, active := false }
  else if bit w 1 then s.setPort n { x with verify := .disabled, active := true }
  else s.setPort n { x with verify := if x.up then .verifying else .initial, active := false }

def State.verifyDone (s : State) (n : Nat) (ok : Bool) : State :=
  let x := s.port n
  if x.verify == .verifying then s.setPort n { x with verify := if ok then .succeeded else .failed, active := ok } else s

def execPreemptVerifyDone (t : Nat) (port : Fin 27) (ok : Bool) (s : State) : Result :=
  eventAt t (fun s => s.verifyDone port ok) s

/-- The link of a port takes a new state (R206). -/
def State.setLink (s : State) (n : Nat) (up : Bool) : State :=
  let x := s.port n
  if x.up = up then s
  else
    let s := s.setPort n { x with up := up, downs := if up then x.downs else satAdd 16 x.downs 1
                                  fw := if up then x.fw else x.fwNext.getD x.fw
                                  fwNext := if up then x.fwNext else none }
    (s.verifyStart n).raise (swpPage n) 0

/-- What a PHY reports; P26 follows the Uloft link instead (R372). -/
def State.linkChange (s : State) (n : Nat) (up : Bool) (rate : Nat) (role : Bool) (sqi : Nat) (plca : Bool) : State :=
  if n = 26 then s
  else
    let s := s.updCredits n
    let s := s.setPort n { s.port n with rate := rate, role := role, sqi := if n < 22 then sqi else 0,
                                         plcaAct := plca && decide (18 ≤ n) && decide (n < 22) }
    s.setLink n (up && s.portEn n)

def execEthLinkChange (t : Nat) (port : Fin 27) (up : Bool) (rate : Fin 7) (role : Bool) (sqi : Fin 8) (plca : Bool)
    (s : State) : Result := eventAt t (fun s => s.linkChange port up rate role sqi plca) s

/-! ## Meters and sequence functions under software (R184, R196, R205) -/

/-- The write of SWC_POL_SEL. -/
def State.polSel (s : State) (w : Word) : State :=
  let i := fld w 9 0
  let m := s.meter i
  let m' := if bit w 30 then { m with red := false } else m
  let s : State := { s with eth := { s.eth with polSel := (word m.greenCount, word m.yellowCount, word m.redCount, m'.red) } }
  s.setMeter i (if bit w 31 then { m' with greenCount := 0, yellowCount := 0, redCount := 0 } else m')

def execPolSelect (a : Acc) (index : Fin 1024) (s : State) : Result :=
  writeTo a R.SWC_POL_SEL (fun s => s.polSel (word index)) s
def execPolZero (a : Acc) (index : Fin 1024) (s : State) : Result :=
  writeTo a R.SWC_POL_SEL (fun s => s.polSel (setBit (word index) 31 true)) s
def execClearRed (a : Acc) (index : Fin 1024) (s : State) : Result :=
  writeTo a R.SWC_POL_SEL (fun s => s.polSel (setBit (word index) 30 true)) s

/-- A recovery function starts afresh. -/
def Recovery.restart (x : Recovery) (lt : Nat) : Recovery := { x with fresh := true, last := 0, history := [], lastFrame := lt }

/-- INIT_SEQ of a generation function. -/
def State.initSeq (s : State) (f : Nat) : Nat := fld (s.regionWord 50 (0x30320000 + 16 * f)) 15 0

/-- The write of SWC_FRER_SEL. -/
def State.frerSel (s : State) (w : Word) : State :=
  let f := fld w 8 0
  if bit w 16 then
    let x := s.genFn f
    let s : State := { s with eth := { s.eth with frerSel := [word x.numbered, 0, 0, 0, 0, word x.next] } }
    let x := if bit w 30 then { x with next := s.initSeq f } else x
    s.setGenFn f (if bit w 31 then { x with numbered := 0 } else x)
  else
    let x := s.recov f
    let s : State := { s with eth := { s.eth with
      frerSel := [word x.passed, word x.discarded, word x.outOfOrder, word x.lost, word x.resets, 0] } }
    let x := if bit w 30 then x.restart s.clk.lt else x
    s.setRecov f (if bit w 31 then { x with passed := 0, discarded := 0, outOfOrder := 0, lost := 0, resets := 0 } else x)

def frerWord (gen : Bool) (index b : Nat) : Word := setBit (mkF 8 0 index) 16 gen ||| mkF 31 30 b

def execFrerSelect (a : Acc) (gen : Bool) (index : Fin 512) (s : State) : Result :=
  writeTo a R.SWC_FRER_SEL (fun s => s.frerSel (frerWord gen index 0)) s
def execFrerZero (a : Acc) (gen : Bool) (index : Fin 512) (s : State) : Result :=
  writeTo a R.SWC_FRER_SEL (fun s => s.frerSel (frerWord gen index 2)) s
def execFrerReset (a : Acc) (gen : Bool) (index : Fin 512) (s : State) : Result :=
  writeTo a R.SWC_FRER_SEL (fun s => s.frerSel (frerWord gen index 1)) s

/-- A recovery function that has seen no frame for RESET_MS (R196). -/
def State.recovTimeout (s : State) (f : Nat) : State :=
  let w := s.regionWord 50 (0x30310000 + 32 * f)
  let x := s.recov f
  let ms := max 1 (fld w 23 8)
  if bit w 31 && !x.fresh && x.lastFrame + ms * 1000000 ≤ s.clk.lt then
    (s.setRecov f { x.restart s.clk.lt with resets := satAdd 32 x.resets 1 }).raise 55 0
  else s

def execRecoveryReset (t : Nat) (f : Fin 512) (s : State) : Result := eventAt t (fun s => s.recovTimeout f) s

/-! ## Commits (R184, R191, R193, R196, R201, R202) -/

/-- The staged registers of port `n` have changed at a commit edge; `old` is the state before it. -/
def State.swpCommit (s old : State) (n : Nat) : State :=
  let ch (r : Nat) : Bool := s.reg r != old.reg r
  let tas := [R.SWP_TAS_CTRL n, R.SWP_TAS_CYCLE n, R.SWP_TAS_BASE_LO n, R.SWP_TAS_BASE_HI n].any ch
    || (s.region n).active != (old.region n).active
  let c := (old.updCredits n).port n
  let s := (s.setPort n { s.port n with credits := c.credits, creditAt := c.creditAt }).updCredits n
  let s := s.when tas (fun s => s.tasCommit old n)
  let s := s.when (ch (R.SWP_PREEMPT n)) (fun s => s.verifyStart n)
  let s := s.when (ch (R.SWP_PORT_CFG n) && !s.portEn n && n != 26) (fun s => s.setLink n false)
  let s := s.when (fld (s.reg (R.SWP_MSEC_TXSA n)) 15 8 != fld (old.reg (R.SWP_MSEC_TXSA n)) 15 8)
    (fun s => s.setPort n { s.port n with pn := 1 })
  let keys := (List.range 16).filter (fun k =>
    let f (x : State) : Nat := fld (x.reg (R.SWP_MSEC_RXSA n (k / 4))) (7 * (k % 4) + 5) (7 * (k % 4))
    f s != f old)
  keys.foldl (fun s k => s.setPort n { s.port n with low := KMap.put (s.port n).low k 1 }) s

/-- The replication tables have changed at a commit edge (R196). -/
def State.frerCommit (s old : State) : State :=
  let word' (x : State) (addr : Nat) : Word := x.regionWord 50 addr
  let s := ((List.range 512).filter (fun f =>
      let a := 0x30310000 + 32 * f
      let b := word' s a
      let o := word' old a
      bit b 31 && (!bit o 31 || bit b 30 != bit o 30 || recHistory b != recHistory o))).foldl
    (fun s f => s.setRecov f ((s.recov f).restart s.clk.lt)) s
  ((List.range 512).filter (fun f =>
      let a := 0x30320000 + 16 * f
      bit (word' s a) 31 && !bit (word' old a) 31)).foldl
    (fun s f => s.setGenFn f { s.genFn f with next := s.initSeq f }) s

/-- A commit of the SW set clamps the bucket levels of the meters in use (R184). -/
def State.meterCommit (s old : State) : State :=
  s.eth.meters.foldl (fun s e =>
    let w (t : KMap Word) (k : Nat) : Word := tabWord t (0x30080000 + 32 * e.1 + 4 * k)
    let o := old.sw.active
    let l := e.2.levels s.clk.lt (w o 0).toNat (fld (w o 1) 23 0 * 8000000) (w o 2).toNat (fld (w o 3) 23 0 * 8000000) (bit (w o 4) 0)
    let t := s.sw.active
    s.setMeter e.1 { e.2 with committed := some (min l.1 (fld (w t 1) 23 0 * 8000000)),
                              excess := some (min l.2 (fld (w t 3) 23 0 * 8000000)), since := s.clk.lt }) s

/-! ## Page commands and views (R204 to R206) -/

/-- Frames in the egress queues of a port (R204). -/
def State.swpItems (s : State) (n : Nat) : Nat :=
  (List.range 8).foldl (fun k q => k + (s.queue (8 * n + q)).visible.length) 0

/-- SQUASH discards the queued frames; the frame in transmission completes (R204). -/
def State.swpSquash (s : State) (n : Nat) : State :=
  (List.range 8).foldl (fun s q =>
    let k := ((s.queue (8 * n + q)).visible.filter unbegun).length
    let s := (s.dropVisible (8 * n + q) unbegun).addF (R.SWP_TX_DROP n) 31 0 k
    let x := s.queue (8 * n + q)
    s.setQueue (8 * n + q) { x with visible := x.visible.map (fun p =>
      { p with copy := p.copy.map (fun m => { m with squashed := true }) }) }) s

/-- Frames of a port that were in transmission at a squash and have not left. -/
def State.swpLeaving (s : State) (n : Nat) : Nat :=
  (List.range 8).foldl (fun k q =>
    k + (s.queue (8 * n + q)).visible.countP (fun p => (p.copy.map (·.squashed)).getD false)) 0

/-- A port page reset beyond R48 (R204): a frame that was arriving is discarded, and PLCA and verification start over. -/
def State.swpReset (s : State) (n : Nat) : State :=
  let s := match (s.port n).arriving with
    | none => s
    | some x => s.failArriving x x.bytes
  (s.setPort n { s.port n with credits := [], creditAt := s.clk.lt, sending := none, preempted := none, arriving := none
                               plcaAct := false, rxBytes := 0, txBytes := 0 }).verifyStart n

def portRateMax (n : Nat) : Nat :=
  if n < 2 then 10000 else if n < 10 then 1000 else if n < 18 then 100 else if n < 22 then 10
  else if n = 24 then 2500 else if n = 26 then 25000 else 10000

def portType (n : Nat) : Nat :=
  if n < 2 then 0 else if n < 10 then 1 else if n < 18 then 2 else if n < 22 then 3 else if n < 25 then 4
  else if n = 25 then 5 else 6

def Verify.code : Verify → Nat
  | .disabled => 0 | .initial => 1 | .verifying => 2 | .succeeded => 3 | .failed => 4

/-- Read-only registers of a port page. -/
def State.viewSwp (s : State) (n off : Nat) : Option Word :=
  let x := s.port n
  match off with
  | 0x40 => some (mkF 31 16 (portRateMax n) ||| mkF 9 9 (decide (n < 10)).toNat ||| mkF 8 8 (portMacsec n).toNat
      ||| word (portType n))
  | 0x50 => some (mkF 31 16 x.downs ||| mkF 12 12 x.plcaAct.toNat ||| mkF 11 8 x.sqi ||| mkF 4 4 x.role.toNat
      ||| mkF 3 1 x.rate ||| word x.up.toNat)
  | 0xB0 => some (mkF 17 17 x.running.toNat ||| mkF 16 16 x.hold.toNat ||| mkF 15 8 x.gates ||| mkF 7 0 x.entry)
  | 0xB8 => some (mkF 3 3 x.active.toNat ||| mkF 2 0 x.verify.code)
  | 0xC8 => some (if portMacsec n then lowWord x.pn else 0)
  | 0xCC => some (if portMacsec n then highWord x.pn else 0)
  | 0x120 => some (lowWord x.rxBytes)
  | 0x124 => some (highWord x.rxBytes)
  | 0x128 => some (lowWord x.txBytes)
  | 0x12C => some (highWord x.txBytes)
  | _ => none

/-- Read-only registers of the SWC pages. -/
def State.viewSwc (s : State) (i off : Nat) : Option Word :=
  let p := s.eth.polSel
  match i, off with
  | 1, 0x44 => some p.1
  | 1, 0x48 => some p.2.1
  | 1, 0x4C => some p.2.2.1
  | 1, 0x50 => some (word p.2.2.2.toNat)
  | 2, _ => if 0x44 ≤ off && off < 0x5C then some (s.eth.frerSel.getD ((off - 0x44) / 4) 0) else none
  | _, _ => none

end Sys2Proof.Machine
end

