-- ==== Sys2Proof/Machine/Stage.lean ====
section
/-! DEFINITION. Staging: staged registers, writes through the table windows, seals and discards (spec/01, R8 to R18, R25;
spec/11, R263; spec/16, R393, R396). -/

namespace Sys2Proof.Machine

/-! ## Seals (R25) -/

/-- A scheduled commit of partition 0 with ALL = 1 is pending. -/
def State.allPending (s : State) : Bool := ((s.bank 0).pending.map (fun c => c.all)).getD false

/-- A scheduled commit of partition `p` is pending. -/
def State.hasPending (s : State) (p : Nat) : Bool := (s.bank p).pending.isSome

/-- SEALED_WRITE of partition `p`, with the bus error of R25. -/
def State.sealedError (s : State) (p : Nat) : State :=
  (s.setBank p { s.bank p with sealedWrite := true }).busError .sealed

/-- The partition whose SEALED_WRITE a staged write to page `idx` by `p` sets, when the page is sealed. -/
def State.pageSeal (s : State) (idx p : Nat) : Option Nat :=
  if s.allPending then some p
  else if s.hasPending (s.pageOwner idx) then some (s.pageOwner idx) else none

/-- A staged table write or table discard by `p` is refused. DEDUCED: notes/assumptions/20.md. -/
def State.tableSealed (s : State) (p : Nat) : Bool := s.allPending || s.hasPending p

/-! ## Staged registers (R8, R9, R11, R230) -/

/-- The pages whose configuration the partner mirrors (PAGE_CAP.MIRRORED). -/
def pageMirrored (idx : Nat) : Bool := ((pageRowOf idx).map (fun r => r.mirrored)).getD false

/-- The indirect staged registers QMGR_QCFG_A and QMGR_QCFG_B. -/
def indirectReg (addr : Nat) : Bool := addr == R.QMGR_QCFG_A || addr == R.QMGR_QCFG_B

/-- Registers of a page that hold a staged value (STAGE_DIRTY.COUNT). -/
def State.stagedCount (s : State) (idx : Nat) : Nat :=
  s.stageCount idx +
    (if idx = 84 then (!s.pool.stagedA.isEmpty).toNat + (!s.pool.stagedB.isEmpty).toNat else 0)

/-- A staged value is recorded. -/
def State.stage (s : State) (addr : Nat) (w : Word) : State :=
  if indirectReg addr then
    let q := s.regF R.QMGR_QSEL 11 0
    if !isMsgQueue q then s
    else if addr = R.QMGR_QCFG_A then { s with pool := { s.pool with stagedA := KMap.put s.pool.stagedA q w } }
    else { s with pool := { s.pool with stagedB := KMap.put s.pool.stagedB q w } }
  else { s with staged := KMap.put s.staged addr w }

/-- A write of an ST register at its lower-half address (R9, R25, R393, R396); software does not write UPD_ACT_REC (R416).
Writes of the inbound port bear the partner's word, which R393 does not refuse. -/
def State.stageReg (s : State) (p req addr : Nat) (w mask : Word) : State :=
  match pageAt addr with
  | none => s
  | some idx =>
    if addr = R.UPD_ACT_REC then s.busError .refused
    else match s.pageSeal idx p with
    | some q => s.sealedError q
    | none =>
      if pageMirrored idx && s.isPaired p && s.pairHeld p && req ≠ 10 then s.busError .refused
      else
        let s := s.stage addr (w &&& mask)
        if pageMirrored idx then s.mirrorStage p addr w else s

/-- Every staged value of a page returns to its active value (R11). -/
def State.discardPage (s : State) (idx : Nat) : State :=
  let s : State := { s with staged := KMap.keep s.staged (fun a => pageAt a != some idx) }
  if idx = 84 then { s with pool := { s.pool with stagedA := [], stagedB := [] } } else s

/-- PAGE_CMD.DISCARD_STAGE (R11, R25, R46, R396). -/
def State.discardStage (s : State) (p idx : Nat) : State :=
  match s.pageSeal idx p with
  | some q => s.sealedError q
  | none =>
    let pg := s.page idx
    if pg.mode == .resetting then s.setPage idx { pg with fault := .commandInvalid }
    else
      let s := (s.discardPage idx).setPage idx { pg with fault := .none }
      if pageMirrored idx then (s.mirrorStage p (R.PAGE_CMD idx) 0x20).clearMirrorCount p else s

/-! ## The table windows (R14 to R18, R153, R179, R263, R315) -/

/-- What lies at an address of a table window: a word of a generation table set, or of a staged table region, with the
region's page and the address of the entry. -/
inductive TableRef where
  | gen (set : SetId)
  | region (key page entry : Nat)
  deriving DecidableEq, Repr

def tableAt (a : Nat) : Option TableRef :=
  if 0x30000000 ≤ a && a < 0x30088000 then some (.gen .sw)
  else if 0x30100000 ≤ a && a < 0x3010D800 then
    let n := (a - 0x30100000) / 0x800
    some (.region n (57 + n) (a / 8 * 8))
  else if 0x30200000 ≤ a && a < 0x30300000 then some (.region 48 53 (a / 64 * 64))
  else if 0x30300000 ≤ a && a < 0x30308000 then some (.region 49 53 (a / 8 * 8))
  else if 0x30310000 ≤ a && a < 0x30314000 then some (.region 50 53 (a / 32 * 32))
  else if 0x30320000 ≤ a && a < 0x30322000 then some (.region 50 53 (a / 16 * 16))
  else if 0x30330000 ≤ a && a < 0x30330800 then some (.region 51 53 (a / 16 * 16))
  else if 0x30380000 ≤ a && a < 0x3038C000 then
    let n := (a - 0x30380000) / 0x1000
    some (.region (32 + n) (37 + n) (a / 16 * 16))
  else if 0x30400000 ≤ a && a < 0x30600000 then some (.gen .gw)
  else if 0x30600000 ≤ a && a < 0x30610000 then some (.gen .part)
  else none

/-- The mask of one word of a list, all bits where the list ends. DEDUCED: notes/assumptions/14.md. -/
def maskAt (l : List Word) (k : Nat) (d : Word) : Word := l.getD k d

/-- Reserved bits of the partition table (R315, R318). DEDUCED: notes/assumptions/14.md. -/
def ptMask (off : Nat) : Word :=
  if off = 0 then 0x8103FFFF else if off = 4 then 0xFFFF00FF else if off = 8 then 7
  else if off = 0xC then 0xFFFFFFFF else if off = 0x10 then 0xF
  else if off < 0x40 then 0 else if off < 0x54 then 0xFFFFFFFF else if off < 0x60 then 0
  else if off < 0x140 then 0xFFFFFFFF else if off < 0x200 then 0
  else if off < 0x400 then 0xFFFFFFFF
  else if off < 0x600 then maskAt [0xFFFFF000, 0xF, 0x7FFFFF, 0x80000037] (off % 16 / 4) 0
  else 0

/-- The bits of a table word that are not reserved. Words of the route table keep every bit: which of them are reserved
depends on the entry's type, and shows at a read. DEDUCED: notes/assumptions/14.md. -/
def tableMask (a : Nat) : Word :=
  if a < 0x30040000 then maskAt [0xFFFFFFFF, 0x8FFFFFFF, 0x07FFFFFF, 3] (a % 16 / 4) 0
  else if a < 0x30080000 then
    maskAt [0x87FFFFFF, 0xFFFFFFFF, 0xFFFFFFFF, 0xFFFFFFFF, 0xFFFFFFFF, 0xFFFFFFFF, 0xFFFFFFFF, 0xFFFFFFFF, 0xFFFFFFFF,
      0xFFFF3FFF, 0xFFFF3FFF, 0xFFFFFFFF, 0x0FFFFFFF, 0x3FFF01FF, 0x1FFFFFFF, 0x07FFFFFF] (a % 64 / 4) 0
  else if a < 0x30100000 then maskAt [0xFFFFFFFF, 0x00FFFFFF, 0xFFFFFFFF, 0x00FFFFFF, 0x8000000F] (a % 32 / 4) 0
  else if a < 0x30200000 then maskAt [0x3FF, 0xFFFFFFFF] (a % 8 / 4) 0
  else if a < 0x30300000 then maskAt [0xB1FF0FFF, 0xFFFFFFFF, 0xFFFF, 0xFFFFFFFF, 0xFFFFFFFF, 0xFFFFFFFF, 0xFFFFFFFF,
      0xFFFFFFFF, 0xFFFFFFFF, 0xFFFFFFFF, 0xFFFFFFFF, 0xFFFFFFFF, 0x0FFFFFFF, 0x3FFF01FF, 0x1FFFFFFF, 0x07FFFFFF]
      (a % 64 / 4) 0
  else if a < 0x30310000 then maskAt [0xE7FFFFFF, 0x07FFFFFF] (a % 8 / 4) 0
  else if a < 0x30320000 then maskAt [0xE0FFFF3F] (a % 32 / 4) 0
  else if a < 0x30330000 then maskAt [0x8000FFFF] (a % 16 / 4) 0
  else if a < 0x30380000 then maskAt [0xE0FFFF1F, 0xFFF] (a % 16 / 4) 0
  else if a < 0x30400000 then maskAt [0xBFFFFFFF, 0x9FFFFFFF, 0xE000007F, 0x8000FFFF] (a % 16 / 4) 0
  else if a < 0x30600000 then 0xFFFFFFFF
  else ptMask (a % 0x800)

/-- The type of a route-table word 1, with 3 behaving as free (R260). -/
def gwFree (w1 : Word) : Bool := fld w1 31 30 = 0 || fld w1 31 30 = 3

/-- Partition `p` may use the ACTIVE route entry that holds an address (R263). -/
def State.gwEntryOpen (s : State) (p addr : Nat) : Bool :=
  let w1 := tabWord s.gwSet.active (addr / 16 * 16 + 4)
  gwFree w1 || s.groupOwner (fld w1 24 17) = p

/-- Rights to a word of a table window; `val` is what a write writes. -/
def State.tableRight (s : State) (p addr : Nat) (val : Option Word) : Bool :=
  p = 0 || match tableAt addr with
    | none => true
    | some (.gen .sw) => s.pageOwner 53 = p
    | some (.gen .part) => false
    | some (.gen .gw) =>
      s.gwEntryOpen p addr &&
        (match val with
        | some w => addr % 16 ≠ 4 || gwFree w || s.groupOwner (fld w 24 17) = p
        | none => true)
    | some (.region _ page _) => s.pageOwner page = p

/-- A staged write into a generation table set (R16, R17, R25, R393). -/
def State.stageGen (s : State) (p req : Nat) (set : SetId) (addr : Nat) (w : Word) : State :=
  let g := s.setOf set
  if s.tableSealed p then s.sealedError p
  else if set == .gw && s.isPaired p && s.pairHeld p && req ≠ 10 then s.busError .refused
  else if g.holder.isSome && g.holder != some p then s.busError .notHolder
  else
    let took := { g with holder := some p }
    let v := w &&& tableMask addr
    if g.other == .spare && (s.logOf set).isEmpty then
      s.putSet set (took.setOther (KMap.set g.otherMap 0 addr v))
    else if 16384 ≤ s.log.length then s.busError .stageLogFull
    else { s.putSet set took with log := s.log ++ [LogEntry.mk set addr v p] }

/-- A staged write into a staged table region (R15, R25). -/
def State.stageRegion (s : State) (p key entry addr : Nat) (w : Word) : State :=
  if s.tableSealed p then s.sealedError p
  else
    let r := s.region key
    s.setRegion key { r with
      spare := KMap.set r.spare 0 addr (w &&& tableMask addr), dirty := true
      since := if r.resync then insertSorted r.since entry else r.since }

/-- A write through a table window that has passed its rights.
DEDUCED: notes/assumptions/14.md. DEDUCED: notes/assumptions/20.md. -/
def State.stageTable (s : State) (p req addr : Nat) (w : Word) : State :=
  match tableAt addr with
  | none => s
  | some (.gen set) =>
    let s' := s.stageGen p req set addr w
    if set == .gw && s'.resp = s.resp then s'.mirrorStage p addr w else s'
  | some (.region key _ entry) => s.stageRegion p key entry addr w

/-- The bits of word `k` of a ROUTE entry of a kind that are not reserved (R260, R269, R270, R273). -/
def routeMask (rkind k : Nat) : Word :=
  match k, rkind with
  | 1, _ => 0xF9FFFFFF
  | 2, _ => 0xFFFFFFFC
  | 0, 0 => 0xFFFFFFFF
  | 0, 1 => 0x0FFFFFFF
  | 0, 2 => 0x0000071F
  | 3, 0 => 0x00000003
  | 3, 1 => 0xFFFFFFFF
  | _, _ => 0

/-- A word read through a table window: the copy in use (R16), reserved bits of a route entry 0 (R260). -/
def State.tableRead (s : State) (addr : Nat) : Word :=
  match tableAt addr with
  | none => 0
  | some (.gen .gw) =>
    let w := tabWord s.gwSet.active addr
    let w1 := tabWord s.gwSet.active (addr / 16 * 16 + 4)
    let t := fld w1 31 30
    if t = 1 then w &&& maskAt [0xFFFFFFFF, 0xFFFFFE00, 0x0001FFFF, 0xCFFF0FFF] (addr % 16 / 4) 0
    else if t = 2 then w &&& routeMask (fld w1 29 28) (addr % 16 / 4)
    else w
  | some (.gen set) => tabWord (s.setOf set).active addr
  | some (.region key _ _) => s.regionWord key addr

/-- Why an access to a table window is refused (R2, R37, R44). DEDUCED: notes/assumptions/16.md. -/
def State.windowCheck (s : State) (a : Acc) (addr size : Nat) (val : Option Word) : Option BusCause :=
  if size ≠ 4 || addr % 4 ≠ 0 then some .size
  else if a.req.val = 19 && !s.sec.svcOpen then some .notOwner
  else if s.tableRight (State.accPart a) addr val then none else some .notOwner

/-- A write through a table window; `j` is the state whose rights hold. -/
def State.windowWrite (s j : State) (a : Acc) (addr : Nat) (w : Word) (size : Nat) : State :=
  match j.windowCheck a addr size (some w) with
  | some c => s.refuse a addr true c
  | none => s.done.stageTable (State.accPart a) a.req.val addr w

/-- A read through a table window. -/
def State.windowRead (s j : State) (a : Acc) (addr size : Nat) : State :=
  match j.windowCheck a addr size none with
  | some c => s.refuse a addr false c
  | none => s.done (s.tableRead addr).toNat

/-! ## Discarding table edits (R15, R17, R25, R26, R396) -/

/-- A holder's edits of one set are discarded. -/
def State.dropEdits (s : State) (p : Nat) (set : SetId) : State :=
  let g := s.setOf set
  if g.holder != some p then s
  else
    let g' := if g.other == .spare then g.setOther g.active else g
    let s := s.putSet set { g' with holder := none }
    { s with log := s.log.filter (fun e => e.set != set) }

/-- A region's edits are discarded. -/
def State.dropRegion (s : State) (key : Nat) : State :=
  let r := s.region key
  s.setRegion key { r with spare := r.active, dirty := false, since := [] }

/-- The staged table regions, with the page each is committed with (R15). -/
def regionList : List (Nat × Nat) :=
  (List.range 27).map (fun n => (n, 57 + n)) ++ (List.range 12).map (fun n => (32 + n, 37 + n))
    ++ [(48, 53), (49, 53), (50, 53), (51, 53)]

/-- COH_CANCEL.DISCARD_TABLES by partition `p`. DEDUCED: notes/assumptions/20.md. -/
def State.discardTables (s : State) (p : Nat) : State :=
  if s.tableSealed p then s.sealedError p
  else
    let s := ([SetId.sw, .gw, .part]).foldl (fun s x => s.dropEdits p x) s
    let s := (regionList.filter (fun x => s.pageOwner x.2 == p && (s.region x.1).dirty)).foldl
      (fun s x => s.dropRegion x.1) s
    (s.mirrorStage p R.COH_CANCEL 0x200).clearMirrorCount p

/-! ## The commands -/

/-- The lower-half address of a register-page address (R8). -/
def lowerHalf (addr : Nat) : Nat := addr / 0x1000 * 0x1000 + addr % 0x800

/-- The register row of a register-page address, in either half. -/
def regRowOf (addr : Nat) : Option RegRow :=
  match pageAt addr with
  | none => none
  | some idx => regRowAt idx (addr % 0x800)

def execStagedWrite (a : Acc) (addr : Nat) (val : Word) (s : State) : Result :=
  writeTo a addr (fun s =>
    match regRowOf addr with
    | some r =>
      if r.access = .st then s.stageReg (State.accPart a) a.req.val (lowerHalf addr) val r.mask else s
    | none => s) s

def execTableWindowWrite (a : Acc) (addr : Nat) (val : Word) (s : State) : Result :=
  commandAt a.t (fun s => if rangeOf addr = .window then s.windowWrite s a addr val 4 else s) s

def execDiscardStage (a : Acc) (page : Fin 118) (s : State) : Result :=
  writeTo a (R.PAGE_CMD page) (fun s => s.discardStage (State.accPart a) page) s

def execDiscardTables (a : Acc) (s : State) : Result :=
  writeTo a R.COH_CANCEL (fun s => s.discardTables (State.accPart a)) s

end Sys2Proof.Machine
end

