-- ==== Sys2Proof/Machine/Boot.lean ====
section
/-! DEFINITION. The security unit, the activation record and the staging engine, the check of a slot set, and storage
(spec/17, R405 to R431). -/

namespace Sys2Proof.Machine

def secPage : Nat := 114
def updIdx : Nat := 115
def storPage : Nat := 117

def State.setSec (s : State) (x : Security) : State := { s with sec := x }
def State.setUpd (s : State) (x : Update) : State := { s with upd := x }
def State.setStor (s : State) (x : Storage) : State := { s with stor := x }

/-- A little-endian field of a manifest or a register block. -/
def le (l : List Byte) (off n : Nat) : Nat := leVal ((l.drop off).take n)
def sub (l : List Byte) (off n : Nat) : List Byte := (l.drop off).take n

/-! ## Manifests (R406 to R410) -/

def manParts (m : List Byte) : Nat := le m 6 1 % 128
def manKeySlot (m : List Byte) : Nat := le m 7 1 % 4
def manActId (m : List Byte) : Nat := le m 4 2
def manEntry (m : List Byte) (k : Nat) : List Byte := sub m (0x40 + 128 * k) 128

/-- Whether entry `e` applies to a unit (R408). -/
def applies (unit : Nat) (e : List Byte) : Bool := (le e 1 1).testBit (unit % 2)

/-- The entries that apply to a unit. -/
def unitEntries (m : List Byte) (unit : Nat) : List Nat :=
  (List.range (manParts m)).filter (fun k => applies unit (manEntry m k))

/-- FORMAT and PARTS are valid (R430). -/
def manValid (m : List Byte) : Bool := le m 0 4 = 1 && 1 ≤ manParts m && manParts m ≤ 64

/-- The place of a part: its set, kind and target. -/
def partKey (set : Bool) (e : List Byte) : Nat := set.toNat * 65536 + le e 0 1 * 256 + le e 3 1

def setKey (set : Bool) : Nat := set.toNat

/-- The largest SIZE of a kind (R406). -/
def largest (kind target : Nat) : Nat :=
  match kind with
  | 1 => 1048576 | 2 => 8388608 | 3 => 4194304 | 4 => 524288 | 5 => 2097152 | 6 => 14680064
  | 7 => if target < 4 then 1048576 else 201326592
  | _ => 0

/-- Check 5 of R410 on one entry: its failure, with the SIZE code or none for a failure the codes do not name. -/
def entryFault (m : List Byte) (set : Bool) (entries : List Nat) (k : Nat) : Option (Option Nat) :=
  let e := manEntry m k
  let kind := le e 0 1
  let target := le e 3 1
  let same := entries.filter (fun j => j < k && le (manEntry m j) 0 1 = kind && le (manEntry m j) 3 1 = target)
  let early := entries.filter (fun j => j ≤ k && le (manEntry m j) 0 1 = 7 && le (manEntry m j) 3 1 < 4)
  if (le e 2 1 = 1) ≠ set || kind = 0 || 7 < kind || !same.isEmpty || (kind = 7 && (target = 0 || 31 < target)) then some none
  else if largest kind target < le e 0xC 4 then some (some 6)
  else if kind = 7 && target < 4 && 1048576 < early.foldl (fun n j => n + le (manEntry m j) 0xC 4) 0 then some (some 6)
  else none

/-- A part reads back as the set holds it: its SIZE bytes. DESIGN CHOICE: notes/assumptions/22.md. -/
def State.partBytes (s : State) (set : Bool) (e : List Byte) : List Byte :=
  padTo (le e 0xC 4) ((KMap.get s.upd.parts [] (partKey set e)).take (le e 0xC 4))

/-- The hash that OTP holds in a key slot; slot 0 holds the vendor key's (R422). -/
def State.slotHash (s : State) (slot : Nat) : List Byte :=
  if slot = 0 then Config.sha512 Config.vendorKey else KMap.get s.sec.hashes [] slot

/-- The vendor seal of a part; a revoked slot 0 verifies none (R409, R422). -/
def State.sealOk (s : State) (b : List Byte) : Bool :=
  let n := b.length - 4759
  let d := Config.sha512 (b.take n)
  !bit s.sec.revoked 0 && Config.ecVerify (Config.vendorKey.take 133) d (sub b n 132) && Config.mlVerify (Config.vendorKey.drop 133) d (sub b (n + 132) 4627)

/-- A key block verifies for an OTP slot (R410, R422, R425). -/
def State.keyOk (s : State) (slot : Nat) (block : List Byte) : Bool :=
  bit s.sec.programmed slot && !bit s.sec.revoked slot && Config.sha512 block == s.slotHash slot

/-- Checks 6 and 7 of R410 on one entry; `bad` is the entry whose part does not read. -/
def State.partFault (s : State) (m : List Byte) (set : Bool) (bad : Option Nat) (k : Nat) : Option Nat :=
  let e := manEntry m k
  let b := s.partBytes set e
  if bad = some k then some 7
  else if Config.sha512 b != sub e 0x10 64 then some 1
  else if 1 ≤ le e 0 1 && le e 0 1 ≤ 5 && !s.sealOk b then some 8
  else none

/-- Checks 1 to 5 of R410 in order: the first failure, as the entry and the REASON, if it has a code.
DESIGN CHOICE: notes/assumptions/59.md. -/
def State.manFault (s : State) (set : Bool) : Option (Nat × Option Nat) :=
  let m := KMap.get s.upd.manifests [] (setKey set)
  let unit := s.hw.unitId
  let entries := unitEntries m unit
  let key := sub m 0x2040 2725
  let low (idx val : Nat) : Bool := val < KMap.get s.sec.counters 0 idx
  let body := m.take 0x2AF0
  if le m 0 4 ≠ 1 then some (0, none)
  else if manKeySlot m = 0 || !s.keyOk (manKeySlot m) key then some (0, some 5)
  else if !Config.ecVerify (key.take 133) body (sub m 0x2AF0 132) then some (0, some 2)
  else if !Config.mlVerify (key.drop 133) body (sub m 0x2B74 4627) then some (0, some 3)
  else if low (le m 8 1) (le m 9 1) then some (0, some 4)
  else match entries.find? (fun k => low (le (manEntry m k) 8 1) (le (manEntry m k) 9 1)) with
    | some k => some (k, some 4)
    | none =>
      match entries.findSome? (fun k => (entryFault m set entries k).map (fun r => (k, r))) with
      | some x => some x
      | none =>
        if !(List.range 6).all (fun i => entries.any (fun k => le (manEntry m k) 0 1 = i + 1)) then some (0, none) else none

/-- The checks of R410 in order: the first failure. -/
def State.setFault (s : State) (set : Bool) (bad : Option Nat) : Option (Nat × Option Nat) :=
  let m := KMap.get s.upd.manifests [] (setKey set)
  match s.manFault set with
  | some x => some x
  | none => (unitEntries m s.hw.unitId).findSome? (fun k => (s.partFault m set bad k).map (fun r => (k, some r)))

/-- The record: the copy with the higher sequence number. -/
def State.rec' (s : State) : ActRecord := if s.upd.copy0.seq < s.upd.copy1.seq then s.upd.copy1 else s.upd.copy0

/-! ## Firmware of the load stage controller and of the PHYs (R419) -/

/-- The part of a kind of the running set, where a start passes it (R410). -/
def State.bootPart (s : State) (kind : Nat) : Option (List Byte) :=
  let set := s.rec'.runSet
  let m := KMap.get s.upd.manifests [] (setKey set)
  if (s.manFault set).isSome then none
  else match (unitEntries m s.hw.unitId).find? (fun k => le (manEntry m k) 0 1 = kind) with
    | none => none
    | some k => if (s.partFault m set none k).isSome then none else some (s.partBytes set (manEntry m k))

/-- A start loads LOADSTAGE into the spare bank. DEDUCED: notes/assumptions/74.md. -/
def State.loadSpare (s : State) : State :=
  match s.bootPart 4 with
  | none => s
  | some b => { s with load := { s.load with fw := KMap.put s.load.fw (!s.load.fwBank).toNat b, fwReady := true } }

/-- A start gives the PHY part to every external PHY: at once in a cold boot, else at the next loss of its link.
DEDUCED: notes/assumptions/74.md. -/
def State.loadPhys (s : State) (cold : Bool) : State :=
  match s.bootPart 5 with
  | none => s
  | some b => (List.range 22).foldl (fun s n =>
      let x := s.port n
      s.setPort n (if cold then { x with fw := b, fwNext := none } else { x with fwNext := some b })) s

/-- A start whose check fails has loaded nothing that the next commit or a loss of link could bring into use.
DEDUCED: notes/assumptions/74.md. -/
def State.dropFirmware (s : State) : State :=
  (List.range 22).foldl (fun s n => if (s.port n).fwNext.isSome then s.setPort n { s.port n with fwNext := none } else s)
    { s with load := { s.load with fwReady := false } }

/-! ## The activation record (R412 to R414, R417) -/

def UpdState.code : UpdState → Nat
  | .idle => 0 | .staging => 1 | .pending => 2 | .trial => 3 | .booted => 4 | .confirmed => 5 | .abandoned => 6

/-- The report goes into the partner's UPD_PEER as requester 10 (R417). -/
def State.sendPeer (s : State) : State :=
  if s.ulf.state == .up then
    s.postWrite 0 10 R.UPD_PEER (leBytes 4 (s.rec'.actId % 65536 * 65536 + 32768 + s.rec'.state.code))
  else s

/-- A record change is written into the older copy; then ACT_STATE is raised and the partner told (R413, R417). -/
def State.setRec (s : State) (r : ActRecord) : State :=
  let seq := max s.upd.copy0.seq s.upd.copy1.seq + 1
  let r := { r with seq := seq }
  let s := if s.upd.copy0.seq < s.upd.copy1.seq then s.setUpd { s.upd with copy0 := r } else s.setUpd { s.upd with copy1 := r }
  (s.raise updIdx 1).sendPeer

/-- The record takes a state alone. -/
def State.recState (s : State) (st : UpdState) : State := s.setRec { s.rec' with state := st }

/-- UPD_FAIL; a failure without a code takes a free one. DESIGN CHOICE: notes/assumptions/59.md. -/
def State.noteFail (s : State) (part : Nat) (reason : Option Nat) : State :=
  match reason with
  | some r => s.setUpd { s.upd with failPart := part, failReason := r }
  | none => let f := s.takeFree; f.2.setUpd { f.2.upd with failPart := part, failReason := f.1 % 16 }

/-- The record after a start: it takes the set of NEXT_SET, and a start that finds TRIES = 2 falls back (R412, R414, R415). -/
def State.startRecord (s : State) : State :=
  let r := s.rec'
  let run := { r with runSet := r.nextSet }
  match r.state with
  | .staging => s.setRec { run with state := .idle }
  | .pending => s.setRec { run with state := .trial, tries := 1 }
  | .trial =>
    if 2 ≤ r.tries then
      ((s.noteFail 0 (some 9)).setRec { r with state := .abandoned, nextSet := !r.nextSet, runSet := !r.nextSet, tries := 0 }).raise
        updIdx 2
    else s.setRec { run with tries := r.tries + 1 }
  | _ => if r.runSet = r.nextSet then s else s.setRec run

/-- The start of a unit passes the security unit's self-test (R411), takes its set, and loads the firmware of its parts
(R419). DEDUCED: notes/assumptions/58.md. DEDUCED: notes/assumptions/74.md. -/
def State.bootRecord (s : State) (cold : Bool) : State :=
  let s := (s.setSec { s.sec with ready := true }).setUpd { s.upd with cold := cold, copying := none }
  (s.startRecord.loadSpare).loadPhys cold

/-- A report of the partner (R417). DEDUCED: notes/assumptions/58.md. -/
def State.peerReport (s : State) (id st : Nat) : State :=
  let s := s.setUpd { s.upd with peerId := id, peerState := st, peerValid := true }
  let r := s.rec'
  let live := r.state == .pending || r.state == .trial || r.state == .booted
  if live && (id ≠ r.actId || st = 6) then
    (s.setRec { r with state := .abandoned, nextSet := if r.state == .pending then r.runSet else !r.runSet }).raise updIdx 2
  else s

def execPeerReport (t : Nat) (actId : Fin 65536) (st : Fin 8) (s : State) : Result :=
  eventAt t (fun s => s.peerReport actId st) s

/-- On entry of the link into UP the old report is void and this unit's is sent (R417). -/
def State.peerLinkUp (s : State) : State := (s.setUpd { s.upd with peerValid := false }).sendPeer

/-! ## UPD commands (R414 to R416, R421) -/

def UpdResult.code : UpdResult → Nat
  | .none => 0 | .accepted => 1 | .refusedKey => 2 | .refusedState => 3 | .badManifest => 4 | .notStaged => 5 | .sealed => 6

def State.updResult (s : State) (r : UpdResult) : State := s.setUpd { s.upd with result := r }

/-- OPEN: the manifest is read and kept as the inactive set's. -/
def State.updOpen (s : State) : State :=
  let r := s.rec'
  let ok := r.state == .idle || r.state == .confirmed || r.state == .staging || (r.state == .abandoned && r.runSet == r.nextSet)
  let m := s.readBytes (s.regPair R.UPD_MAN_ADDR_LO R.UPD_MAN_ADDR_HI % 2 ^ 36) 0x4000
  if !ok then s.updResult .refusedState
  else if !manValid m then s.updResult .badManifest
  else
    let need := (unitEntries m s.hw.unitId).foldl (fun n k => n + 2 ^ k) 0
    let s := s.setUpd { s.upd with manifests := KMap.put s.upd.manifests (setKey !r.runSet) m, staged := 0, need := need
                                   copying := none }
    (s.updResult .accepted).recState .staging

/-- The manifest being staged. DEDUCED: notes/assumptions/58.md. -/
def State.newManifest (s : State) : List Byte := KMap.get s.upd.manifests [] (setKey !s.rec'.runSet)

/-- STAGE begins the copy of one entry. -/
def State.updStage (s : State) (k : Nat) : State :=
  let e := manEntry s.newManifest k
  if s.rec'.state != .staging || !s.upd.need.testBit k || (le e 2 1 = 1) = s.rec'.runSet || s.upd.copying.isSome then
    s.updResult .refusedState
  else (s.updResult .accepted).setUpd { (s.updResult .accepted).upd with copying := some k }

/-- The copy is complete (R415). -/
def State.stageDone (s : State) : State :=
  match s.upd.copying with
  | none => s
  | some k =>
    let e := manEntry s.newManifest k
    let b := s.readBytes (s.regPair R.UPD_SRC_LO R.UPD_SRC_HI % 2 ^ 36) (le e 0xC 4)
    let u := s.upd
    (s.setUpd { u with copying := none, parts := KMap.put u.parts (partKey (!s.rec'.runSet) e) b
                       staged := if u.staged.testBit k then u.staged else u.staged + 2 ^ k }).raise updIdx 0

def execStageDone (t : Nat) (s : State) : Result := eventAt t State.stageDone s

/-- ACTIVATE stages the record (R416). -/
def State.updActivate (s : State) : State :=
  if s.rec'.state != .staging then s.updResult .refusedState
  else if s.upd.staged ≠ s.upd.need then s.updResult .notStaged
  else if (s.pageSeal updIdx 0).isSome then s.updResult .sealed
  else
    let w := mkF 31 16 (manActId s.newManifest) ||| mkF 8 8 (!s.rec'.runSet).toNat ||| 1
    (s.stage R.UPD_ACT_REC w).updResult .accepted

/-- A commit has applied UPD_ACT_REC (R414, R416). -/
def State.updCommit (s : State) : State :=
  let w := s.reg R.UPD_ACT_REC
  if bit w 0 && s.rec'.state == .staging then
    s.setRec { s.rec' with actId := fld w 31 16, nextSet := bit w 8, state := .pending }
  else s

/-- CONFIRM (R421, R422). -/
def State.updConfirm (s : State) : State :=
  let r := s.rec'
  let u := s.upd
  let agreed := !s.hw.paired || (u.peerValid && u.peerId = r.actId && (u.peerState = 4 || u.peerState = 5))
  if r.state != .booted || !agreed then s.updResult .refusedState
  else
    let m := KMap.get u.manifests [] (setKey r.runSet)
    let raise (c : KMap Nat) (idx val : Nat) : KMap Nat := KMap.put c idx (max (KMap.get c 0 idx) val)
    let c := raise s.sec.counters (le m 8 1) (le m 9 1)
    let c := (unitEntries m s.hw.unitId).foldl (fun c k => raise c (le (manEntry m k) 8 1) (le (manEntry m k) 9 1)) c
    let revoke := setBit (word (le m 0xA 1 % 16)) (manKeySlot m) false
    let s := s.setSec { s.sec with counters := c, revoked := s.sec.revoked ||| revoke }
    (s.updResult .accepted).recState .confirmed

/-- ABORT (R414). -/
def State.updAbort (s : State) : State :=
  let r := s.rec'
  match r.state with
  | .staging => ((s.setUpd { s.upd with copying := none }).updResult .accepted).recState .idle
  | .pending => (s.updResult .accepted).setRec { r with state := .abandoned, nextSet := r.runSet }
  | _ => s.updResult .refusedState

/-- A write of UPD_CMD, `restart` being what its ACTION RESTART does. DESIGN CHOICE: notes/assumptions/18.md. -/
def State.updCmd (s : State) (w : Word) (restart : State → State) : State :=
  if fld w 31 24 ≠ 0x5C then s.updResult .refusedKey
  else match fld w 3 0 with
    | 1 => s.updOpen
    | 2 => s.updStage (fld w 13 8)
    | 3 => s.updActivate
    | 4 => if s.rec'.state == .pending then restart (s.updResult .accepted) else s.updResult .refusedState
    | 5 => s.updConfirm
    | 6 => s.updAbort
    | _ => s.updResult .refusedState

def updWord (key : Byte) (action part : Nat) : Word := mkF 31 24 key.toNat ||| mkF 13 8 part ||| mkF 3 0 action

/-- TRIAL: every part has passed (R414). -/
def State.trialPassed (s : State) : State :=
  let r := s.rec'
  if r.state == .trial && (s.setFault r.runSet none).isNone then s.setRec { r with state := .booted, tries := 0 } else s

def execTrialPassed (t : Nat) (s : State) : Result := eventAt t State.trialPassed s

/-! ## The security unit (R423 to R426) -/

def SecResult.code : SecResult → Nat
  | .none => 0 | .done => 1 | .refusedKey => 2 | .keyBusy => 3 | .badAddr => 4 | .busy => 5 | .refusedSlot => 6 | .otpFail => 7

def State.secResult (s : State) (slot : Nat) (r : SecResult) : State := s.setSec { s.sec with slot := slot, result := r }

/-- Bytes of a run of registers, lowest address first. -/
def State.regBytes (s : State) (addr n : Nat) : List Byte := (List.range n).flatMap (fun k => leBytes 4 (s.reg (addr + 4 * k)).toNat)

/-- A run of registers is cleared. -/
def State.clearRegs (s : State) (addr n : Nat) : State := (List.range n).foldl (fun s k => s.setReg (addr + 4 * k) 0) s

/-- A traffic key slot is named by a committed transmit or receive association (R424).
DEDUCED: notes/assumptions/58.md. -/
def State.slotUsed (s : State) (slot : Nat) : Bool :=
  (List.range 18).any (fun n =>
    s.regF (R.SWP_MSEC_TXSA n) 15 8 == slot || (List.range 4).any (fun c =>
      let w := s.reg (R.SWP_MSEC_RXSA n c)
      bit w 31 && (List.range 4).any (fun a => bit w (7 * a + 6) && fld w (7 * a + 5) (7 * a) == slot)))

def attestLen : Nat := 0x2457

/-- ATTEST begins (R423). -/
def State.secAttest (s : State) (slot : Nat) : State :=
  let a := s.regPair R.SEC_ATT_ADDR_LO R.SEC_ATT_ADDR_HI % 2 ^ 36 / 64 * 64
  if !inDram a attestLen || (s.memCheck s.pt.active 0 2 a attestLen .write).isSome then s.secResult slot .badAddr
  else (s.secResult slot .none).setSec { (s.secResult slot .none).sec with job := some (.attest a s.clk.lt) }

/-- The attestation report (R423). -/
def State.report (s : State) (lt : Nat) : List Byte :=
  let r := s.rec'
  let m := KMap.get s.upd.manifests [] (setKey r.runSet)
  let es := unitEntries m s.hw.unitId
  let digest (e : List Byte) : List Byte := padTo 64 ((Config.sha512 (s.partBytes r.runSet e)).take 64)
  let body := leBytes 4 1 ++ leBytes 4 (s.hw.unitId % 2 + r.runSet.toNat * 2 + r.state.code * 16 + es.length * 256)
    ++ leBytes 8 lt ++ leBytes 4 s.coh.epoch ++ leBytes 12 0 ++ s.regBytes (R.SEC_ATT_NONCE 0) 8 ++ leBytes 16 Config.deviceId
    ++ leBytes 48 0 ++ padTo 64 ((Config.sha512 m).take 64)
    ++ (List.range 256).flatMap (fun i => leBytes 1 (KMap.get s.sec.counters 0 i))
    ++ padTo 4096 (es.flatMap (fun k => digest (manEntry m k)))
  body ++ padTo 132 ((Config.ecSign body).take 132) ++ padTo 4627 ((Config.mlSign body).take 4627)

/-- The last write of the report is complete. -/
def State.attestDone (s : State) : State :=
  match s.sec.job with
  | some (.attest a lt) =>
    let s := s.writeBytes a (s.report lt)
    (s.setSec { s.sec with job := none, result := .done }).raise secPage 0
  | _ => s

/-- DESIGN CHOICE: notes/assumptions/12.md. -/
def execAttestDone (t : Nat) (s : State) : Result := eventAt t State.attestDone s

/-- KEY_LOAD (R424). -/
def State.keyLoad (s : State) (slot : Nat) : State :=
  if s.slotUsed slot then s.secResult slot .keyBusy
  else
    let k : TrafficKey := { sak := s.regBytes (R.SEC_KDATA 0) 8, salt := s.regBytes (R.SEC_KSALT 0) 3
                            ssci := (s.reg R.SEC_KSSCI).toNat, sci := s.regPair R.SEC_KSCI_LO R.SEC_KSCI_HI }
    let s := (s.clearRegs (R.SEC_KDATA 0) 14).secResult slot .done
    s.setSec { s.sec with keys := KMap.put s.sec.keys slot k }

def State.keyErase (s : State) (slot : Nat) : State :=
  if s.slotUsed slot then s.secResult slot .keyBusy
  else
    let s := s.secResult slot .done
    s.setSec { s.sec with keys := KMap.del s.sec.keys slot }

/-- OTP_KEY begins its burn (R426). -/
def State.otpKey (s : State) (req slot : Nat) : State :=
  if !s.sec.svcOpen || req ≠ 19 || slot = 0 || 3 < slot || bit s.sec.programmed slot then s.secResult slot .refusedSlot
  else
    let h := s.regBytes (R.SEC_KHASH 0) 16
    let s := (s.clearRegs (R.SEC_KHASH 0) 16).secResult slot .none
    s.setSec { s.sec with job := some (.burn slot h) }

/-- A write of SEC_CMD, to which the unit does not answer while RESET_N holds it in reset (R440).
DESIGN CHOICE: notes/assumptions/18.md. DEDUCED: notes/assumptions/58.md. -/
def State.secCmd (s : State) (req : Nat) (w : Word) : State :=
  let slot := fld w 13 8
  if s.parts.pinHeld then s
  else if fld w 31 24 ≠ 0x3C then s.secResult slot .refusedKey
  else if s.sec.job.isSome then s.secResult slot .busy
  else match fld w 3 0 with
    | 1 => s.secAttest slot
    | 2 => s.keyLoad slot
    | 3 => s.keyErase slot
    | 4 => let s := s.secResult slot .done; s.setSec { s.sec with svcOpen := false }
    | 5 => s.otpKey req slot
    | _ => s.secResult slot .refusedKey

def secWord (key : Byte) (action slot : Nat) : Word := mkF 31 24 key.toNat ||| mkF 13 8 slot ||| mkF 3 0 action

def execAttest (a : Acc) (key : Byte) (s : State) : Result :=
  writeTo a R.SEC_CMD (fun s => s.secCmd a.req (secWord key 1 0)) s
def execKeyLoad (a : Acc) (key : Byte) (slot : Fin 64) (s : State) : Result :=
  writeTo a R.SEC_CMD (fun s => s.secCmd a.req (secWord key 2 slot)) s
def execKeyErase (a : Acc) (key : Byte) (slot : Fin 64) (s : State) : Result :=
  writeTo a R.SEC_CMD (fun s => s.secCmd a.req (secWord key 3 slot)) s
def execSvcClose (a : Acc) (key : Byte) (s : State) : Result :=
  writeTo a R.SEC_CMD (fun s => s.secCmd a.req (secWord key 4 0)) s
def execOtpKey (a : Acc) (key : Byte) (slot : Fin 64) (s : State) : Result :=
  writeTo a R.SEC_CMD (fun s => s.secCmd a.req (secWord key 5 slot)) s

/-- The burn is read back (R426). -/
def State.keyDone (s : State) (ok : Bool) : State :=
  match s.sec.job with
  | some (.burn k h) =>
    let x := s.sec
    let x := if ok then { x with programmed := setBit x.programmed k true, hashes := KMap.put x.hashes k h, result := .done }
      else { x with revoked := setBit x.revoked k true, result := .otpFail }
    (s.setSec { x with job := none }).raise secPage 1
  | _ => s

/-- DESIGN CHOICE: notes/assumptions/12.md. -/
def execKeyDone (t : Nat) (ok : Bool) (s : State) : Result := eventAt t (fun s => s.keyDone ok) s

/-- The tool asks for a nonce, whose bytes the spec leaves open (R425). -/
def State.svcChallenge (s : State) : State :=
  if s.sec.lockUntil.isSome || s.parts.pinHeld then s
  else let f := s.takeFree; f.2.setSec { f.2.sec with nonce := some (leBytes 32 f.1) }

def execSvcChallenge (t : Nat) (s : State) : Result := eventAt t State.svcChallenge s

/-- The tool's answer (R425). -/
def State.svcAnswer (s : State) (block sigEc sigMl : List Byte) : State :=
  match s.sec.nonce with
  | none => s
  | some n =>
    if s.sec.lockUntil.isSome || s.parts.pinHeld then s
    else
      let good := (List.range 4).any (fun k => s.keyOk k block) && Config.ecVerify (block.take 133) n sigEc
        && Config.mlVerify (block.drop 133) n sigMl
      if good then (s.setSec { s.sec with nonce := none, svcOpen := true, fails := 0 }).raise secPage 2
      else if s.sec.fails = 2 then
        s.setSec { s.sec with nonce := none, fails := 0, lockUntil := some (s.clk.lt + 60000000000) }
      else s.setSec { s.sec with nonce := none, fails := s.sec.fails + 1 }

def execSvcAnswer (t : Nat) (block sigEc sigMl : List Byte) (s : State) : Result :=
  eventAt t (fun s => s.svcAnswer block sigEc sigMl) s

def State.svcLockEnd (s : State) : State :=
  match s.sec.lockUntil with
  | some u => if u ≤ s.clk.lt then s.setSec { s.sec with lockUntil := none } else s
  | none => s

def execSvcLockEnd (t : Nat) (s : State) : Result := eventAt t State.svcLockEnd s

/-- At every start a slot whose burn was cut off is revoked (R426). DEDUCED: notes/assumptions/60.md. -/
def Security.restart (x : Security) : Security :=
  { x with job := none
           revoked := match x.job with
             | some (.burn k _) => setBit x.revoked k true
             | _ => x.revoked }

/-! ## Storage (R405, R427, R428) -/

def StorResult.code : StorResult → Nat
  | .none => 0 | .done => 1 | .refusedArea => 2 | .media => 3 | .busy => 4 | .badAddr => 5

def journalBlock : Nat := 3145728
def ownerBlock : Nat := 3407872
def ufsBlocks : Nat := 4194304

/-- A write of STOR_CMD (R427). DESIGN CHOICE: notes/assumptions/18.md. -/
def State.storCmd (s : State) (w : Word) : State :=
  let x := s.stor
  let n := fld w 23 8
  let lba := s.regF R.STOR_LBA 21 0
  let a := s.regPair R.STOR_ADDR_LO R.STOR_ADDR_HI % 2 ^ 36 / 4096 * 4096
  let action := fld w 1 0
  let wr := action = 2
  let kind : MemKind := if wr then .read else .write
  if x.job.isSome then s.setStor { x with result := .busy }
  else if n = 0 || action = 0 || action = 3 || lba < (if wr then ownerBlock else journalBlock) || ufsBlocks < lba + n then
    s.setStor { x with result := .refusedArea }
  else if !inDram a (n * 4096) || (s.memCheck s.pt.active 0 2 a (n * 4096) kind).isSome then
    s.setStor { x with result := .badAddr }
  else s.setStor { x with result := .none, job := some { write := wr, lba := lba, count := n, addr := a } }

def execStorRead (a : Acc) (count : Fin 65536) (s : State) : Result :=
  writeTo a R.STOR_CMD (fun s => s.storCmd (mkF 23 8 count ||| 1)) s
def execStorWrite (a : Acc) (count : Fin 65536) (s : State) : Result :=
  writeTo a R.STOR_CMD (fun s => s.storCmd (mkF 23 8 count ||| 2)) s

/-- `n` bytes of UFS from a byte address. DEDUCED: notes/assumptions/60.md. -/
def State.ufsRead (s : State) (a n : Nat) : List Byte := (List.range n).map (fun i => KMap.get s.stor.ufs 0 (a + i))

def ufsPut (m : KMap Byte) : Nat → List Byte → KMap Byte
  | _, [] => m
  | a, b :: t => ufsPut (KMap.set m 0 a b) (a + 1) t

/-- A storage command completes: `second` reads were served from the second device, and `failed` is the first block that
failed on both. DEDUCED: notes/assumptions/60.md. -/
def State.storDone (s : State) (second : Nat) (failed : Option Nat) : State :=
  match s.stor.job with
  | none => s
  | some j =>
    let s := (s.setStor { s.stor with job := none }).addF R.STOR_ERR 15 0 second
    if j.write then
      let d := s.readBytes j.addr (j.count * 4096)
      (s.setStor { s.stor with ufs := ufsPut s.stor.ufs (j.lba * 4096) d, result := .done }).raise storPage 0
    else
      let k := match failed with | some b => min b j.count | none => j.count
      let s := s.writeBytes j.addr (s.ufsRead (j.lba * 4096) (k * 4096))
      if k < j.count then
        ((s.setStor { s.stor with result := .media }).addF R.STOR_ERR 31 16 1).raise storPage 1 |>.raise storPage 0
      else (s.setStor { s.stor with result := .done }).raise storPage 0

def execCmdDone (t : Nat) (second : Nat) (failed : Option (Fin 65536)) (s : State) : Result :=
  eventAt t (fun s => s.storDone second (failed.map Fin.val)) s

/-- STOR takes a packet of its journal queue; `ecc` is what ECC finds in its cells (R428, R230). -/
def State.journalAppend (s : State) (ecc : EccFound) : State :=
  let w := s.reg R.STOR_JCFG
  let q := fld w 11 0
  if !bit w 31 || !isMsgQueue q || s.queueOwner q ≠ 0 then s
  else match s.readPacket q ecc with
    | none => s
    | some (p, s) =>
      if p.data.length ≠ 128 then s.addF R.STOR_ERR 15 0 1
      else
        let x := s.stor
        let i := x.index
        s.setStor { x with ufs := ufsPut x.ufs (journalBlock * 4096 + 128 * i) p.data, index := (i + 1) % 8388608
                           wrapped := x.wrapped || decide (i + 1 = 8388608) }

def execJournalAppend (t : Nat) (s : State) (ecc : EccFound := .clean) : Result :=
  eventAt t (fun s => s.journalAppend ecc) s

/-! ## Registers (R429 to R431) -/

def State.viewSec (s : State) (off : Nat) : Option Word :=
  let x := s.sec
  let loaded (h : Nat) : Word := wordOfBits ((List.range 32).filter (fun j => (KMap.get? x.keys (32 * h + j)).isSome))
  match off with
  | 0x40 => some ((x.revoked &&& 0xF) <<< 24 ||| (x.programmed &&& 0xF) <<< 16 ||| mkF 8 8 x.svcOpen.toNat
      ||| mkF 1 1 x.job.isSome.toNat ||| mkF 0 0 x.ready.toNat)
  | 0x48 => some (word (KMap.get x.counters 0 (s.regF R.SEC_ARB_SEL 7 0)))
  | 0x58 => some (mkF 13 8 x.slot ||| mkF 3 0 x.result.code)
  | 0xB8 => some (loaded 0)
  | 0xBC => some (loaded 1)
  | _ => none

def State.viewUpd (s : State) (off : Nat) : Option Word :=
  let u := s.upd
  let r := s.rec'
  match off with
  | 0x40 => some (mkF 31 16 r.actId ||| mkF 15 15 u.retainOver.toNat ||| mkF 13 12 r.tries ||| mkF 9 9 r.runSet.toNat
      ||| mkF 8 8 r.nextSet.toNat ||| mkF 2 0 r.state.code)
  | 0x48 => some (word u.result.code)
  | 0x5C => some (lowWord u.staged)
  | 0x60 => some (highWord u.staged)
  | 0x64 => some (lowWord u.need)
  | 0x68 => some (highWord u.need)
  | 0x70 => some (mkF 31 16 u.peerId ||| mkF 15 15 u.peerValid.toNat ||| mkF 2 0 u.peerState)
  | 0x74 => some (mkF 21 16 u.failPart ||| mkF 3 0 u.failReason)
  | _ => none

def State.viewStor (s : State) (off : Nat) : Option Word :=
  let x := s.stor
  match off with
  | 0x40 => some (mkF 8 8 x.job.isSome.toNat ||| 0xF)
  | 0x54 => some (word x.result.code)
  | 0x5C => some (mkF 31 31 x.wrapped.toNat ||| mkF 22 0 x.index)
  | _ => none

end Sys2Proof.Machine
end

