-- ==== Sys2Proof/Machine/Load.lean ====
section
/-! DEFINITION. Output channels and their protection: the meanings of the commands of spec/03. -/

namespace Sys2Proof.Machine

/-! ## Short circuit (R60, R61, R68) -/

/-- LSC_IPEAK takes a sample when its magnitude is the largest so far (R58). -/
def State.notePeak (s : State) (c : Nat) (ma : Int) : State :=
  let s := s.updChan c (fun ch => { ch with acc := { ch.acc with peakMa := max ch.acc.peakMa ma.natAbs } })
  if s.regF (R.LSC_IPEAK c) 30 0 < ma.natAbs then
    s.setReg (R.LSC_IPEAK c) (setBit (mkF 30 0 ma.natAbs) 31 (ma < 0))
  else s

/-- The short-circuit trips of the last 60 s (R61). -/
def recentTrips (lt : Nat) (l : List Nat) : List Nat := l.filter (fun x => lt < x + 60000000000)

/-- DESIGN CHOICE: notes/assumptions/12.md. DEDUCED: notes/assumptions/27.md. -/
def State.shortTrip (s : State) (c : Nat) (ma : Int) : State :=
  if s.mayTrip c && !((s.chan c).st == .tripped && (s.chan c).cause == 1) && (chTripMa c : Int) ≤ ma.natAbs then
    let b := c / 32
    let lt := s.clk.lt
    let s := (s.notePeak c ma).trip c 1
    let s := s.updChan c (fun ch =>
      let l := recentTrips lt ch.scTrips ++ [lt]
      { ch with scTrips := l, lockout := ch.lockout || 8 ≤ l.length })
    let s := (s.setPair (R.LSB_SC_LAST_LO b) (R.LSB_SC_LAST_HI b) lt).addF (R.LSB_SC_COUNT b) 15 0 1
    let s := s.setLbank b { s.lbank b with scWindow := some (lt + 250000) }
    s.raise (lsbPage b) 0
  else s

def execShortCircuitTrip (t : Nat) (ch : Fin 128) (currentMa : Int) (s : State) : Result :=
  eventAt t (fun s => s.shortTrip ch currentMa) s

def State.scWindowEnd (s : State) (b : Nat) : State :=
  match (s.lbank b).scWindow with
  | some e => if e ≤ s.clk.lt then s.setLbank b { s.lbank b with scWindow := none } else s
  | none => s

def execScWindowEnd (t : Nat) (bank : Fin 4) (s : State) : Result := eventAt t (fun s => s.scWindowEnd bank) s

/-- SC_RECENT no longer counts trips older than 60 s (R61). -/
def State.scTripAged (s : State) (c : Nat) : State :=
  s.updChan c (fun ch => { ch with scTrips := recentTrips s.clk.lt ch.scTrips })

def execScTripAged (t : Nat) (ch : Fin 128) (s : State) : Result := eventAt t (fun s => s.scTripAged ch) s

/-! ## Junction temperature (R65) -/

/-- LSC_TJ takes a sample (R58). -/
def State.setTj (s : State) (c : Nat) (tj : Int) : State := s.putF (R.LSC_TJ c) 11 0 (unsigned 12 tj)

/-- LSC_TJ in 0.125 degrees. -/
def State.tj (s : State) (c : Nat) : Int := signed 12 (s.regF (R.LSC_TJ c) 11 0)

/-- TJ_WARN is set at 150 °C, raising its event, and cleared below 140 °C (R65). -/
def State.noteTj (s : State) (c : Nat) (tj : Int) : State :=
  let ch := s.chan c
  if 1200 ≤ tj && !ch.tjWarn then (s.setChan c { ch with tjWarn := true }).raise (lscPage c) 10
  else if tj < 1120 then s.setChan c { ch with tjWarn := false }
  else s

def execTjWarn (t : Nat) (ch : Fin 128) (tj : Int) (s : State) : Result :=
  eventAt t (fun s => (s.setTj ch tj).noteTj ch tj) s

def State.thermalTrip (s : State) (c : Nat) (tj : Int) : State :=
  let s := (s.setTj c tj).noteTj c tj
  if 1360 ≤ tj then s.trip c 3 else s

def execThermalTrip (t : Nat) (ch : Fin 128) (tj : Int) (s : State) : Result :=
  eventAt t (fun s => s.thermalTrip ch tj) s

/-! ## Inrush (R66 to R68) -/

/-- A current-limit trip falls in the bank's short-circuit window (R68). -/
def State.inWindow (s : State) (c : Nat) : Bool := (s.lbank (c / 32)).scWindow.any (fun e => decide (s.clk.lt < e))

/-- The current has been at ILIM for T_LIM (R67, R68). A channel that another cause has taken out of INRUSH in this very
cycle records cause 4 too (R81). DEDUCED: notes/assumptions/27.md. DESIGN CHOICE: notes/assumptions/70.md. -/
def State.limitTrip (s : State) (c : Nat) (ma : Int) : State :=
  let ch := s.chan c
  let held : Bool := s.inrIlimMa c ≤ ma.natAbs && ch.burstAt + s.inrLimNs c ≤ s.clk.lt
  let above : Bool := !s.inWindow c && s.inrBudget c < ch.used + 1
  if ch.st != .inrush then
    s.when (held && above && s.justOff ch && ch.tripFrom == .inrush) (fun s => s.trip c 4)
  else if held then
    if s.inWindow c then
      s.setChan c { ch.open_ .retryWait s.clk.lt with exempt := satAdd 8 ch.exempt 1, burstAt := s.clk.lt }
    else if above then s.trip c 4
    else s.setChan c { ch.open_ .retryWait s.clk.lt with used := ch.used + 1, burstAt := s.clk.lt }
  else s

def execCurrentLimitTrip (t : Nat) (ch : Fin 128) (s : State) (currentMa : Int := 0) : Result :=
  eventAt t (fun s => s.limitTrip ch currentMa) s

/-- DEDUCED: notes/assumptions/27.md. -/
def State.retryEnd (s : State) (c : Nat) : State :=
  let ch := s.chan c
  if ch.st == .retryWait && ch.burstAt + s.inrOffNs c ≤ s.clk.lt then
    s.setChan c { ch with st := .inrush, burstAt := s.clk.lt, out := ⟨.on, 0, 0⟩ }
  else s

def execRetryWaitEnd (t : Nat) (ch : Fin 128) (s : State) : Result := eventAt t (fun s => s.retryEnd ch) s

/-- The end of an inrush: ON, PWM (conducting fully until the first boundary), or LEASE_SAFE for a safe command (R67,
R100). -/
def State.inrushEnd (s : State) (c : Nat) (ma : Int) : State :=
  let ch := s.chan c
  if ch.st == .inrush && ch.burstAt + 976562 ≤ s.clk.lt && ma.natAbs < s.inrIlimMa c then
    let e := s.effCmd c
    if ch.lease == .expired then s.enterLeaseSafe c e.1
    else match e.1.mode with
      | .pwm => s.setChan c { ch with st := .pwm, out := ⟨.on, 0, 0⟩ }
      | _ => s.setChan c { ch with st := .on, out := ⟨.on, 0, 0⟩ }
  else s

def execInrushEnd (t : Nat) (ch : Fin 128) (s : State) (currentMa : Int := 0) : Result :=
  eventAt t (fun s => s.inrushEnd ch currentMa) s

/-! ## Undervoltage hold and restart (R69, R70) -/

/-- The channels of a bank. -/
def bankChans (b : Nat) : List Nat := (List.range 32).map (fun n => 32 * b + n)

/-- A channel that conducts, or waits between bursts, enters UV_HELD with cause 6 (R69); one that tripped in this very
cycle records it in ALSO (R81); one still held from before waits for the new restart sequence (R70).
DEDUCED: notes/assumptions/27.md. -/
def State.holdChan (s : State) (c : Nat) : State :=
  let ch := s.chan c
  if ch.conducting || ch.st == .retryWait then
    let x := (ch.open_ .uvHeld s.clk.lt).stamp (s.sameCycle ch) s.clk.lt 6
    s.moveChan c { x with acc := x.acc.addCause 6, tripFrom := ch.st }
  else if ch.st == .tripped && s.sameCycle ch then s.setChan c { ch with also := ch.also ||| 32 }
  else if ch.st == .uvHeld then s.setChan c { ch with closeWait := false }
  else s

def State.uvOff (s : State) (b mv : Nat) : State :=
  let k := { s.lbank b with vnow := some mv }
  if mv < s.offMv b then
    if !k.uv || k.stagger then
      let s := s.setLbank b { k with uv := true, settling := none, stagger := false, restarted := [] }
      let s := (bankChans b).foldl (fun s c => s.holdChan c) s
      (s.addF (R.LSB_UV_COUNT b) 15 0 1).raise (lsbPage b) 1
    else s.setLbank b { k with settling := none }
  else s.setLbank b k

def execUvOff (t : Nat) (bank : Fin 4) (mv : Nat) (s : State) : Result := eventAt t (fun s => s.uvOff bank mv) s

/-- The settle timer starts when the voltage is at ON_DV, and a dip below it restarts the timer (R70).
DEDUCED: notes/assumptions/29.md. -/
def State.bankVoltage (s : State) (b mv : Nat) : State :=
  let k := { s.lbank b with vnow := some mv }
  if k.uv && !k.stagger then
    if s.onMv b ≤ mv then s.setLbank b { k with settling := some (k.settling.getD s.clk.lt) }
    else s.setLbank b { k with settling := none }
  else s.setLbank b k

def execBankVoltageRecovered (t : Nat) (bank : Fin 4) (mv : Nat) (s : State) : Result :=
  eventAt t (fun s => s.bankVoltage bank mv) s

/-- The channel of a list that comes first by SHED_PRIO and then by number (R70, R79). -/
def State.firstByPrio (s : State) (l : List Nat) : Option Nat :=
  l.foldl (fun best c => match best with
    | none => some c
    | some x => if s.shedPrio c < s.shedPrio x then some c else some x) none

/-- The channels a restart sequence has still to restart. -/
def State.uvWaiting (s : State) (b : Nat) : List Nat :=
  (bankChans b).filter (fun c => (s.chan c).st == .uvHeld && !(s.lbank b).restarted.contains c)

/-- The next channel of a restart sequence restarts into its target state; the last one ends it (R70). -/
def State.restartNext (s : State) (b : Nat) : State :=
  let fin := fun (s : State) =>
    if (s.uvWaiting b).isEmpty then
      (s.setLbank b { s.lbank b with uv := false, stagger := false, restarted := [] }).raise (lsbPage b) 2
    else s
  match s.firstByPrio (s.uvWaiting b) with
  | none => fin s
  | some c =>
    let k := s.lbank b
    let s := s.setLbank b { k with restarted := k.restarted ++ [c], lastStep := s.clk.lt }
    let e := s.effCmd c
    let ex := (s.chan c).lease == .expired
    let s :=
      if s.wantsOn c then s.tryClose c e.1 ex
      else if ex then s.enterLeaseSafe c {}
      else s.setChan c ((s.chan c).open_ .off s.clk.lt)
    fin s

/-- DEDUCED: notes/assumptions/27.md. DEDUCED: notes/assumptions/28.md. -/
def State.settleEnd (s : State) (b : Nat) : State :=
  match (s.lbank b).settling with
  | some t0 =>
    if (s.lbank b).uv && t0 + s.settleNs b ≤ s.clk.lt then
      (s.setLbank b { s.lbank b with settling := none, stagger := true, restarted := [] }).restartNext b
    else s
  | none => s

def execUvSettleEnd (t : Nat) (bank : Fin 4) (s : State) : Result := eventAt t (fun s => s.settleEnd bank) s

/-- DEDUCED: notes/assumptions/28.md. -/
def State.restartStep (s : State) (b : Nat) : State :=
  let k := s.lbank b
  if k.stagger && k.lastStep + s.stepNs b ≤ s.clk.lt then s.restartNext b else s

def execUvRestartStep (t : Nat) (bank : Fin 4) (s : State) : Result := eventAt t (fun s => s.restartStep bank) s

/-! ## Open load (R71 to R73) -/

/-- An off-state check begins at every 1,024th model step counted from the start of the clock (R72), but for channels whose
load is being interrogated, or is to be at once (R116). DEDUCED: notes/assumptions/29.md. -/
def State.olCheckStart (s : State) : State :=
  if s.load.clockOn && s.load.steps != 0 && s.load.steps % 1024 = 0 then
    let s := (List.range 128).foldl (fun s c =>
      let ch := s.chan c
      if ch.st == .off && s.cfgB (R.LSC_PROT c) 12 && (s.lbank (c / 32)).interrog != some c && !s.tagNext c then
        s.setChan c { ch with olCheck := true }
      else s) s
    { s with load := { s.load with olAt := s.clk.lt } }
  else s

def execOlOffCheckStart (t : Nat) (s : State) : Result := eventAt t State.olCheckStart s

/-- The end of the check after 2 ms of a running clock: 3.5 V or more sets OL_OFF; its clearing triggers an interrogation (R72, R112).
DEDUCED: notes/assumptions/29.md. -/
def State.olCheckEnd (s : State) : State :=
  if !s.load.clockOn || s.clk.lt < s.load.olAt + 2000000 then s
  else (List.range 128).foldl (fun s c =>
    let ch := s.chan c
    if ch.olCheck then
      let isOpen : Bool := 350 ≤ signed 16 (s.regF (R.LSC_VOUT c) 15 0)
      let onset := isOpen && !ch.olOff
      let s := s.setChan c { ch with
        olCheck := false, olOff := isOpen
        tagPending := ch.tagPending || (ch.olOff && !isOpen && s.regB (R.LSC_ID_CFG c) 1)
        acc := { ch.acc with olOnsets := ch.acc.olOnsets + onset.toNat } }
      s.raiseIf onset (lscPage c) 8
    else s) s

def execOlOffCheckEnd (t : Nat) (s : State) : Result := eventAt t State.olCheckEnd s

/-- Comparisons that OL_ON needs in a row (R71). DEDUCED: notes/assumptions/29.md. -/
def State.olFilter (s : State) (c : Nat) : Nat := ceilDiv (max 1 (s.cfgF (R.LSC_OL c) 23 16) * 1024) 1000

/-- The value of a model step's on-state comparison, if the check runs and there is one (R71).
DEDUCED: notes/assumptions/29.md. -/
def olCompare (ch : Chan) (x : ChanSample) : Option Int :=
  let pwm := match ch.st with
    | .on => some false
    | .pwm => some true
    | .leaseSafe =>
      if ch.safePending || ch.out.mode == .pwm then some true else if ch.out.mode == .on then some false else none
    | _ => none
  match pwm with
  | some false => some x.meanMa
  | some true => x.window
  | none => none

/-- Whether the on-state check runs (R71). -/
def olRuns (ch : Chan) : Bool :=
  ch.st == .on || ch.st == .pwm || (ch.st == .leaseSafe && (ch.out.conducts || ch.safePending))

def State.olStep (s : State) (c : Nat) (x : ChanSample) : State :=
  let ch := s.chan c
  let thr := s.cfgF (R.LSC_OL c) 15 0
  if thr = 0 then s.setChan c { ch with olOn := false, olRun := 0 }
  else if !olRuns ch then s.setChan c { ch with olRun := 0 }
  else match olCompare ch x with
    | none => s
    | some v =>
      let below : Bool := v < (thr : Int)
      let run := if below == ch.olBelow then ch.olRun + 1 else 1
      let decided := s.olFilter c ≤ run
      let now := if decided then below else ch.olOn
      let onset := now && !ch.olOn
      let s := s.setChan c { ch with
        olRun := run, olBelow := below, olOn := now
        acc := { ch.acc with olOnsets := ch.acc.olOnsets + onset.toNat } }
      s.raiseIf onset (lscPage c) 8

/-! ## Reverse current and back-feed (R74 to R76) -/

def State.reverseTrip (s : State) (c : Nat) (ma : Int) : State :=
  if s.mayTrip c && ma < -(chReverseMa c : Int) then (s.notePeak c ma).trip c 9 else s

def execReverseCurrentTrip (t : Nat) (ch : Fin 128) (currentMa : Int) (s : State) : Result :=
  eventAt t (fun s => s.reverseTrip ch currentMa) s

def State.backfedIn (s : State) (c : Nat) (vout : Int) : State :=
  let ch := s.chan c
  if ch.st == .off && 800 ≤ vout then (s.moveChan c { ch with st := .backfed }).raise (lscPage c) 11 else s

def execBackfedEntry (t : Nat) (ch : Fin 128) (vout : Int) (s : State) : Result :=
  eventAt t (fun s => s.backfedIn ch vout) s

def State.backfedOut (s : State) (c : Nat) (vout : Int) : State :=
  let ch := s.chan c
  if ch.st == .backfed && vout < 600 then s.setChan c { ch with st := .off } else s

def execBackfedExit (t : Nat) (ch : Fin 128) (vout : Int) (s : State) : Result :=
  eventAt t (fun s => s.backfedOut ch vout) s

/-- A channel in CLOSE_WAIT closes at the first sample that permits it (R76); from OFF or BACKFED to PWM without inrush
it closes at the period boundary that follows (R89). DEDUCED: notes/assumptions/28.md. -/
def State.closePermitted (s : State) (c : Nat) (vout : Int) (mv : Nat) : State :=
  let ch := s.chan c
  if ch.closeWait && vout * 10 ≤ (mv : Int) + 1000 then
    let e := s.effCmd c
    let s := s.setChan c { ch with closeWait := false }
    let expired := ch.lease == .expired
    let atBoundary := ch.st == .pwm || (ch.st == .leaseSafe && ch.safePending) ||
      ((ch.st == .off || ch.st == .backfed) && !expired && e.1.mode == .pwm && !s.inrEn c)
    if s.wantsOn c && !atBoundary then s.closeFor c e.1 expired else s
  else s

def execClosePermitted (t : Nat) (ch : Fin 128) (vout : Int) (mv : Nat) (s : State) : Result :=
  eventAt t (fun s => s.closePermitted ch vout mv) s

/-! ## Budgets (R77 to R79) -/

/-- A sheddable channel (R77); one that another cause has tripped in this very cycle is still among them (R81).
DESIGN CHOICE: notes/assumptions/70.md. -/
def State.sheddable (s : State) (c : Nat) : Bool :=
  let ch := s.chan c
  0 < s.shedPrio c && (ch.conducting || ch.st == .retryWait ||
    (ch.st == .tripped && ch.cause != 8 && (s.justOff ch || (s.sameCycle ch && ch.tripFrom == .retryWait))))

/-- The lowest level shed in an episode after one more shedding at `level` (R77). DEDUCED: notes/assumptions/29.md. -/
def shedLevelAfter (shedding : Bool) (old level : Nat) : Nat := if shedding then min old level else level

/-- Shed the highest level among the sheddable channels of a list: the state after it, the level, and how many
channels it switched off (R77). -/
def State.shed (s : State) (l : List Nat) : State × Nat × Nat :=
  let cand := l.filter s.sheddable
  let level := cand.foldl (fun m c => max m (s.shedPrio c)) 0
  let hit := cand.filter (fun c => s.shedPrio c == level)
  (hit.foldl (fun s c => s.trip c 8) s, level, hit.length)

def feedChans (f : Nat) : List Nat := (List.range 64).map (fun n => 64 * f + n)

/-- LSB_FEED_CFG.LIMIT_A in mA, the fixed bank limit in mA, and RESTORE_PCT (R56, R84). -/
def State.feedLimit (s : State) (f : Nat) : Nat := clamp 50 350 (s.cfgF (R.LSB_FEED_CFG (2 * f)) 8 0) * 1000
def State.bankLimit (s : State) : Nat := if s.hw.variant == .lq then 200000 else 120000
def State.restorePct (s : State) (f : Nat) : Nat := clamp 50 95 (s.cfgF (R.LSB_FEED_CFG (2 * f)) 22 16)

/-- The budget of a feed at the end of a model step with mean current `sum` in mA (R77). -/
def State.feedStep (s : State) (f : Nat) (sum : Int) : State :=
  let k := s.feedSt f
  let above : Bool := (s.feedLimit f : Int) < sum
  let ok : Bool := sum * 100 ≤ (s.feedLimit f * s.restorePct f : Nat)
  let s := s.setReg (R.LSB_FEED_I (2 * f)) (word (unsigned 32 (sum / 10)))
  let k := { k with above := above, okSteps := if ok then k.okSteps + 1 else 0 }
  if above then
    let k := if k.restoring then { k with restoring := false, todo := [], timer := 0 } else k
    let k := { k with timer := k.timer + 1 }
    let s := (s.setFeed f k).raise (feedPage f) 5
    if ceilDiv (clamp 10 100 (s.cfgF (R.LSB_FEED_CFG (2 * f)) 15 9) * 1024) 1000 ≤ k.timer then
      let r := s.shed (feedChans f)
      if r.2.2 = 0 then s
      else ((r.1.setFeed f { k with shedding := true, shedLevel := shedLevelAfter k.shedding k.shedLevel r.2.1 }).addF
        (R.LSB_FEED_SHED_COUNT (2 * f)) 15 0 r.2.2).raise (feedPage f) 3
    else s
  else s.setFeed f { k with timer := 0, shedding := false, shedLevel := 0 }

/-- The budget of a bank (R78). -/
def State.bankStep (s : State) (b : Nat) (sum : Int) : State :=
  let k := s.lbank b
  let f := b / 2
  let above : Bool := (s.bankLimit : Int) < sum
  let ok : Bool := sum * 100 ≤ (s.bankLimit * s.restorePct f : Nat)
  let s := s.setReg (R.LSB_IBANK b) (word (unsigned 32 (sum / 10)))
  let restoring := (s.feedSt f).restoring
  let s := if above && restoring then s.setFeed f { s.feedSt f with restoring := false, todo := [], timer := 0 } else s
  let k := { k with above := above, okSteps := if ok then k.okSteps + 1 else 0 }
  if above then
    let k := { k with timer := (if restoring then 0 else k.timer) + 1 }
    let s := s.setLbank b k
    if 103 ≤ k.timer then
      let r := s.shed (bankChans b)
      if r.2.2 = 0 then s
      else ((r.1.setLbank b { k with shedding := true, shedLevel := shedLevelAfter k.shedding k.shedLevel r.2.1 }).addF
        (R.LSB_FEED_SHED_COUNT (2 * f)) 15 0 r.2.2).raise (lsbPage b) 4
    else s
  else s.setLbank b { k with timer := 0, shedding := false, shedLevel := 0 }

/-- Whether a channel is one that AUTO_RESTORE may restore (R79). -/
def State.restorable (s : State) (c : Nat) : Bool :=
  let ch := s.chan c
  ch.st == .tripped && ch.cause == 8 && s.wantsOn c

/-- The channels a restore of a feed still has to restore: those of the running sequence, or those for which feed and
bank have stayed at or below RESTORE_PCT for 1,024 steps (R79). -/
def State.restoreList (s : State) (f : Nat) : List Nat :=
  let k := s.feedSt f
  (if k.restoring then k.todo
   else if 1024 ≤ k.okSteps then (feedChans f).filter (fun c => 1024 ≤ (s.lbank (c / 32)).okSteps) else []).filter s.restorable

/-- One step of a restore: the first channel of the sequence closes (R79). -/
def State.feedRestore (s : State) (f : Nat) : State :=
  let k := s.feedSt f
  if !s.cfgB (R.LSB_FEED_CFG (2 * f)) 31 then s.setFeed f { k with restoring := false, todo := [] }
  else if k.restoring && s.clk.lt < k.lastRestore + s.stepNs (2 * f) then s
  else
    let cand := s.restoreList f
    match s.firstByPrio cand with
    | none => s.setFeed f { k with restoring := false, todo := [] }
    | some c =>
      let s := s.tryClose c (s.effCmd c).1 ((s.chan c).lease == .expired)
      s.setFeed f { k with
        restoring := 1 < cand.length, todo := cand.filter (fun x => x != c), lastRestore := s.clk.lt }

def execFeedRestoreStep (t : Nat) (feed : Fin 2) (s : State) : Result := eventAt t (fun s => s.feedRestore feed) s

/-! ## The model step (R58, R62, R71, R77, R78) -/

/-- The rise of the wire model after one step, in units of 2^-24 K (R62): `isq` in mA², K in 10^-6 K/A², τ in 0.1 s.
DEDUCED: notes/assumptions/29.md. -/
def riseStep (rise k isq tauDs : Nat) : Nat :=
  if tauDs = 0 then rise
  else
    let target : Int := ((k * isq * 16777216 / 1000000000000 : Nat) : Int)
    ((rise : Int) + (target - rise) * 10 / ((1024 * tauDs : Nat) : Int)).toNat

/-- The wire model of a channel (R62, R63): rise, WIRE_WARN, and the trip with cause 2.
DEDUCED: notes/assumptions/29.md. -/
def State.wireStep (s : State) (c : Nat) (isq : Nat) : State :=
  let ch := s.chan c
  let rise := riseStep ch.rise (s.cfgF (R.LSC_WIRE_K c) 19 0) isq (s.cfgF (R.LSC_WIRE_T c) 11 0)
  let limit := (s.riseLimit c).toNat * 16777216
  if s.cfgInvalid c then s.setChan c { ch with rise := rise }
  else
    let warn := if limit * 9 ≤ rise * 10 then true else if rise * 10 < limit * 8 then false else ch.wireWarn
    let s := (s.setChan c { ch with rise := rise, wireWarn := warn }).raiseIf (warn && !ch.wireWarn) (lscPage c) 9
    if limit ≤ rise && (ch.conducting || ch.st == .retryWait || ch.st == .uvHeld || ch.st == .tripped) then s.trip c 2 else s

/-- The sample of a channel in a list; a channel not listed measured nothing. -/
def sampleOf (l : List ChanSample) (c : Fin 128) (tj : Int) : ChanSample :=
  (l.find? (fun x => x.ch == c)).getD ⟨c, 0, 0, 0, tj, 0, none, 0, 0, none, 0⟩

/-- The measurements of one channel in a model step (R58, R62, R71, R119). -/
def State.chanStep (s : State) (c : Nat) (x : ChanSample) : State :=
  let s := s.setReg (R.LSC_IMEAS c) (word (unsigned 32 x.meanMa))
  let s := s.putF (R.LSC_VOUT c) 15 0 (unsigned 16 x.vout)
  let s := ((s.setTj c x.tj).noteTj c x.tj).notePeak c x.peakMa
  let s := s.updChan c (fun ch => { ch with
    lastConduct := if ch.conducting then s.clk.lt else ch.lastConduct
    stepFed := if s.sharedLoad c then ((s.syncNs * 1024 / 1000000000, x.fed) :: ch.stepFed).take 4096 else ch.stepFed
    acc := { ch.acc with
      samples := ch.acc.samples + x.fed, energyMj := ch.acc.energyMj + x.energyMj
      tjMax := if x.fed = 0 then ch.acc.tjMax else some (max (ch.acc.tjMax.getD x.tj) x.tj) } })
  (s.wireStep c x.isq).olStep c x

/-- Whether the load-stage clock is needed (R334): a channel conducts or waits to, a bank is in hold, a feed restores,
an interrogation runs, or LS_KEEP holds it outside PARK. DEDUCED: notes/assumptions/29.md. -/
def State.clockNeeded (s : State) : Bool :=
  (List.range 128).any (fun c =>
    let ch := s.chan c
    ch.works || (ch.st != .tripped && s.wantsOn c)) ||
  (List.range 4).any (fun b =>
    let k := s.lbank b
    k.uv || k.settling.isSome || k.stagger || k.interrog.isSome) ||
  (List.range 2).any (fun f => (s.feedSt f).restoring) ||
  (s.regB R.PWR_CFG 5 && s.pwr.state != .park)

/-- The sum of LSC_IMEAS over channels, in mA. DEDUCED: notes/assumptions/29.md. -/
def State.sumMa (s : State) (l : List Nat) : Int :=
  (l.map (fun c => signed 32 (s.reg (R.LSC_IMEAS c)).toNat)).sum

/-- The signature measurements of a step are compared in `Ledger.lean`; this is the protection part of the step.
DEDUCED: notes/assumptions/27.md. -/
def State.modelStep (s : State) (chans : List ChanSample) (banks : List BankSample) : State :=
  let s := banks.foldl (fun s (x : BankSample) => s.putF (R.LSB_VBANK x.bank) 15 0 x.mv) s
  let s := (List.finRange 128).foldl (fun s c => s.chanStep c (sampleOf chans c (s.tj c))) s
  let s := (List.range 4).foldl (fun s b => s.bankStep b (s.sumMa (bankChans b))) s
  let s := (List.range 2).foldl (fun s f => s.feedStep f (s.sumMa (feedChans f))) s
  { s with load := { s.load with
      steps := s.load.steps + 1
      neededAt := if s.clockNeeded then s.clk.lt else s.load.neededAt } }

/-! ## Acknowledgement (R61, R82) -/

/-- The condition of R82 for the cause of a TRIPPED channel. -/
def State.ackOk (s : State) (c : Nat) : Bool :=
  let ch := s.chan c
  let cool : Bool := s.tj c < 1120
  let since := fun (n : Nat) => decide (ch.tripTime + n ≤ s.clk.lt)
  !ch.lockout && !s.sameCycle ch &&
  (match ch.cause with
    | 1 => since 1000000 && cool
    | 2 => ch.rise * 2 ≤ (s.riseLimit c).toNat * 16777216
    | 3 => cool
    | 4 => since (s.inrOffNs c) && cool
    | 8 => true
    | 9 => since 1000000
    | _ => false)

/-- LSC_TRIP_ACK.ACK (R82). -/
def State.tripAck (s : State) (c : Nat) : State :=
  let ch := s.chan c
  if ch.st == .tripped then
    if s.ackOk c then s.setChan c { ch with st := .off, ackRefused := false }
    else s.setChan c { ch with ackRefused := true }
  else s

/-- Whether a write with UNLOCK = 1 comes from partition 0 with the key (R61). -/
def unlockGranted (part key : Nat) : Bool := part == 0 && key == 0x5A

/-- LSC_TRIP_ACK.UNLOCK (R61). -/
def State.unlock (s : State) (c part key : Nat) : State :=
  if unlockGranted part key then s.updChan c (fun ch => { ch with lockout := false, scTrips := [] })
  else s.updChan c (fun ch => { ch with ackRefused := true })

/-- A whole LSC_TRIP_ACK word (R61, R85): a refused UNLOCK changes nothing else. DEDUCED: notes/assumptions/27.md. -/
def State.tripAckWord (s : State) (c part : Nat) (w : Word) : State :=
  if bit w 8 && !unlockGranted part (fld w 31 24) then s.unlock c part (fld w 31 24)
  else
    let s := if bit w 8 then s.unlock c part (fld w 31 24) else s
    if bit w 0 then s.tripAck c else s

def execTripAck (a : Acc) (ch : Fin 128) (s : State) : Result :=
  writeTo a (R.LSC_TRIP_ACK ch) (fun s => s.tripAck ch) s

def execUnlock (a : Acc) (ch : Fin 128) (key : Byte) (s : State) : Result :=
  writeTo a (R.LSC_TRIP_ACK ch) (fun s => s.unlock ch (State.accPart a) key.toNat) s

end Sys2Proof.Machine
end

