-- ==== Sys2Proof/Machine/Control.lean ====
section
/-! DEFINITION. Driving outputs: the meanings of the commands of spec/04 (command transitions, pulse generators, leases,
the load-stage clock). -/

namespace Sys2Proof.Machine

/-! ## Command transitions (R89, R90, R100, R101) -/

/-- The command transitions of a channel in OFF or BACKFED (R89, R100). -/
def State.followOff (s : State) (c : Nat) (cmd : Cmd) (expired : Bool) : State :=
  let ch := s.chan c
  if expired then
    if cmd.safeConducts then s.tryClose c cmd true else s.enterLeaseSafe c {}
  else match cmd.mode with
    | .off => if ch.closeWait then s.setChan c { ch with closeWait := false } else s
    | .on => s.tryClose c cmd false
    | .pwm => if s.inrEn c then s.tryClose c cmd false else s

/-- A channel in LEASE_SAFE takes a changed safe command while its lease is EXPIRED (R100). -/
def State.followSafe (s : State) (c : Nat) (cmd : Cmd) : State :=
  let ch := s.chan c
  match cmd.mode with
  | .off => s.setChan c (ch.open_ .leaseSafe s.clk.lt)
  | .on => if ch.conducting then s.setChan c (ch.takeSafe cmd s.clk.lt) else s.tryClose c cmd true
  | .pwm =>
    if ch.out == cmd || ch.safePending then s
    else if ch.conducting || !cmd.safeConducts then s.setChan c (ch.takeSafe cmd s.clk.lt)
    else s.tryClose c cmd true

/-- A channel in LEASE_SAFE whose lease has been rearmed (R101). -/
def State.followRearmed (s : State) (c : Nat) (cmd : Cmd) : State :=
  let ch := s.chan c
  if ch.conducting then
    match cmd.mode with
    | .on => s.setChan c { ch with st := .on, out := cmd, safePending := false, pulses := [], pulseOn := false }
    | .pwm => s
    | .off => s.setChan c (ch.open_ .off s.clk.lt)
  else
    let s := s.setChan c (ch.open_ .off s.clk.lt)
    s.followOff c cmd false

/-- The effective command of a channel acts at a load-stage edge (R89, R90).
DESIGN CHOICE: notes/assumptions/11.md. -/
def State.outputSwitch (s : State) (c : Nat) : State :=
  if !s.load.clockOn then s
  else
    let s := s.takeDue c
    let e := s.effCmd c
    let ch := s.chan c
    let expired := ch.lease == .expired && e.2 != 5
    match ch.st with
    | .tripped => if s.wantsOn c then s else s.setChan c { ch with closeWait := false }
    | .off | .backfed => s.followOff c e.1 expired
    | .on | .pwm =>
      if !e.1.conducts && e.2 != 3 then s.setChan c (ch.open_ .off s.clk.lt)
      else if expired then s.enterLeaseSafe c e.1 else s
    | .inrush | .retryWait =>
      if s.wantsOn c then s
      else if e.2 == 3 then s.enterLeaseSafe c {} else s.setChan c (ch.open_ .off s.clk.lt)
    | .uvHeld =>
      if s.wantsOn c then s
      else if expired then s.enterLeaseSafe c {} else s.setChan c (ch.open_ .off s.clk.lt)
    | .leaseSafe =>
      if e.2 == 5 then s.setChan c (ch.open_ .off s.clk.lt)
      else if expired then s.followSafe c e.1
      else s.followRearmed c e.1

def execOutputSwitch (t : Nat) (ch : Fin 128) (s : State) : Result := eventAt t (fun s => s.outputSwitch ch) s

/-! ## Pulse generators (R92 to R96) -/

/-- The period of a generator in load-stage cycles (R92, R110). -/
def State.pgenPeriod (s : State) (g : Nat) : Nat :=
  let w := s.reg (R.PGEN_CFG g)
  let f := if fld w 17 16 = 0 then 1 else if fld w 17 16 = 1 then 16 else 256
  max 256 (fld w 15 0) * f

/-- The pulse of a period that begins at cycle `c0`; a duty of 1,000 conducts throughout it (R93). -/
def pulseOf (c0 p : Nat) (cmd : Cmd) : List (Nat × Nat) :=
  if cmd.duty = 0 then []
  else
    let first := c0 + p * cmd.phase / 1000
    if 1000 ≤ cmd.duty then [(c0, c0 + p)] else [(first, first + clamp 32 (p - 32) (p * cmd.duty / 1000))]

/-- Whether a pulse runs at a cycle. -/
def pulseRuns (l : List (Nat × Nat)) (cyc : Nat) : Bool := l.any (fun p => p.1 ≤ cyc && cyc < p.2)

/-- The pulse of the period that begins at cycle `c0` joins those still running (R93, R95). -/
def State.startPulse (s : State) (c g c0 : Nat) : State :=
  let ch := s.chan c
  if ch.out.mode == .pwm then
    let l := ch.pulses.filter (fun p => c0 < p.2) ++ pulseOf c0 (s.pgenSt g).period ch.out
    s.setChan c { ch with pulses := l, pulseOn := pulseRuns l c0 }
  else s

/-- The transitions that R89 places at a period boundary, for a channel that names the generator.
DEDUCED: notes/assumptions/28.md. -/
def State.boundaryChan (s : State) (c : Nat) : State :=
  let s := s.takeDue c
  let e := s.effCmd c
  let ch := s.chan c
  let expired := ch.lease == .expired && e.2 != 5
  let pwm := e.1.mode == .pwm
  match ch.st with
  | .off | .backfed =>
    if pwm && !expired && !s.inrEn c then
      if s.closeOk c then
        s.moveChan c (({ ch with st := .pwm, out := e.1, closeWait := false } : Chan).countClosing s.clk.lt)
      else s.setChan c { ch with closeWait := true }
    else s
  | .on => if pwm && !expired then s.setChan c { ch with st := .pwm, out := e.1 } else s
  | .pwm =>
    if expired then s
    else if ch.out.mode == .off && !s.closeOk c then s.setChan c { ch with closeWait := true }
    else if pwm then s.setChan c { ch with out := e.1, closeWait := false }
    else if e.1.mode == .on then s.setChan c { ch with st := .on, out := e.1, pulses := [], pulseOn := false }
    else s
  | .leaseSafe =>
    if pwm then
      if expired then
        (if ch.safePending && ch.out.mode == .off && !s.closeOk c then s.setChan c { ch with closeWait := true }
         else if ch.safePending || ch.out.mode == .pwm then
           s.setChan c { ch with out := e.1, safePending := false, closeWait := false }
         else s)
      else if ch.conducting then
        (if ch.out.mode == .off && !s.closeOk c then s.setChan c { ch with closeWait := true }
         else s.setChan c { ch with st := .pwm, out := e.1, safePending := false, closeWait := false })
      else s
    else s
  | _ => s

/-- A boundary of generator `g` at cycle `c0`: a committed PGEN_CFG applies, then every channel of the generator takes
its mode, duty and phase and starts its pulse (R95). -/
def State.boundaryAt (s : State) (g c0 : Nat) : State :=
  let k := s.pgenSt g
  let take := k.dirty && !s.cfgStale
  let k' : Pgen := { cycle := c0, period := if take then s.pgenPeriod g else k.period, dirty := k.dirty && !take
                     start := s.clk.lt }
  let s := (s.setPgen g k').raiseIf take 15 g
  (List.range 128).foldl (fun s c =>
    let names := s.regF (R.LSC_CTRL c) 11 8 == g
    if names then ((s.boundaryChan c).updChan c (fun ch => { ch with pgen := g })).startPulse c g c0
    else if (s.chan c).pgen == g then s.startPulse c g c0
    else s) s

/-- A period boundary of a generator, once its period has run (R95, R96). -/
def State.pgenBoundary (s : State) (g : Nat) : State :=
  let k := s.pgenSt g
  if s.load.clockOn && k.cycle + k.period ≤ s.cycleAt s.clk.lt then s.boundaryAt g (k.cycle + k.period) else s

def execPgenPeriodBoundary (t : Nat) (gen : Fin 16) (s : State) : Result :=
  eventAt t (fun s => s.pgenBoundary gen) s

/-- A pulse starts or ends (R93). -/
def State.pulseEdge (s : State) (c : Nat) : State :=
  let ch := s.chan c
  let cyc := s.cycleAt s.clk.lt
  if s.load.clockOn && ch.out.mode == .pwm then
    s.setChan c { ch with pulses := ch.pulses.filter (fun p => cyc < p.2), pulseOn := pulseRuns ch.pulses cyc }
  else s

def execPwmPulseEdge (t : Nat) (ch : Fin 128) (s : State) : Result := eventAt t (fun s => s.pulseEdge ch) s

/-! ## Leases (R97 to R101) -/

/-- A lease tick: renewals taken, then every RUNNING lease decrements; those that reach 0 expire by LEASE_EXPIRY (R99).
DEDUCED: notes/assumptions/25.md. -/
def State.leaseTick (s : State) : State :=
  let s := (List.range 128).foldl (fun s c =>
    let s := if (s.chan c).renewals.isEmpty then s else s.takeAll c
    let ch := s.chan c
    if ch.lease == .running then s.setChan c { ch with left := ch.left - 1 } else s) s
  { s with load := { s.load with leaseTick := s.load.leaseTick + 1 } }

def execLeaseTick (t : Nat) (s : State) : Result := eventAt t State.leaseTick s

/-- The state entry at an expiry, `e` being the effective command after it (R100). -/
def State.expireState (s : State) (c : Nat) (cmd : Cmd) : State :=
  let ch := s.chan c
  match ch.st with
  | .tripped => if s.sameCycle ch then s.setChan c { ch with also := ch.also ||| 64 } else s
  | .uvHeld =>
    if !cmd.safeConducts then s.enterLeaseSafe c {}
    else if s.sameCycle ch then s.setChan c { ch with also := ch.also ||| 64 } else s
  | .inrush | .retryWait => if cmd.safeConducts then s else s.enterLeaseSafe c {}
  | .off | .backfed | .leaseSafe | .on | .pwm =>
    if ch.conducting || !cmd.safeConducts then s.enterLeaseSafe c cmd
    else if s.load.clockOn then s.tryClose c cmd true else s

/-- A lease whose LEFT is 0 expires (R100). DEDUCED: notes/assumptions/27.md. DEDUCED: notes/assumptions/28.md. -/
def State.leaseExpiry (s : State) (c : Nat) : State :=
  let ch := s.chan c
  if ch.lease == .running && ch.left == 0 then
    let before := (s.effCmd c).1
    let s := s.setChan c { ch with lease := .expired, safeCmd := s.safeCmdOf c before }
    let s := (s.addF (R.LSC_LEASE_EXP c) 15 0 1).raise (lscPage c) 12
    if s.cfgInvalid c then s
    else
      let hold := s.regF (R.LSC_LEASE c) 17 16 == 2
      let e := (s.effCmd c).1
      -- with HOLD nothing changes in the output of a conducting channel
      if hold && ((s.chan c).st == .on || (s.chan c).st == .pwm) && e.conducts then
        let ch := s.chan c
        let x := ch.stamp (s.sameCycle ch) s.clk.lt 7
        s.setChan c { x with st := .leaseSafe, acc := x.acc.addCause 7, safePending := e.mode == .pwm && ch.out.mode == .on }
      else s.expireState c e
  else s

def execLeaseExpiry (t : Nat) (ch : Fin 128) (s : State) : Result := eventAt t (fun s => s.leaseExpiry ch) s

/-- Renewals by LSC_RENEW or LSC_RENEW_MASK of an LSC page (R98). -/
def execRenew (a : Acc) (page : Fin 16) (mask : Byte) (s : State) : Result :=
  writeTo a (R.LSC_RENEW_MASK page) (fun s => s.renewMask page (word mask.toNat)) s

/-- Rearms by LSC_RENEW or LSC_RENEW_MASK of an LSC page (R101). -/
def execRearm (a : Acc) (page : Fin 16) (mask : Byte) (s : State) : Result :=
  writeTo a (R.LSC_RENEW_MASK page) (fun s => s.renewMask page (word (mask.toNat * 256))) s

/-! ## The load-stage clock (R64, R90, R96, R334) -/

/-- e^(-ns / τ) of a rise, τ in 0.1 s, by 2^20 equal factors of 1 - x / 2^20 in 64 fractional bits (R64). -/
def decay (rise ns tauDs : Nat) : Nat :=
  if tauDs = 0 then rise
  else
    let one : Nat := 2 ^ 64
    let x := ns * one / (tauDs * 100000000)
    let f0 := one - x / 2 ^ 20
    let sq := (List.range 20).foldl (fun f _ => f * f / one) f0
    if 60 * one ≤ x then 0 else rise * sq / one

/-- The stopped clock starts on demand, for a commit or for what needs it (R59, R90): every rise has cooled, the generators start together (R64, R90, R96).
DEDUCED: notes/assumptions/29.md. -/
def State.lsClockStart (s : State) : State :=
  if s.load.clockOn || !(s.load.startOwed.isSome || s.clockNeeded) then s
  else
    let stop := s.load.clockAt
    let lt := s.clk.lt
    let s := (List.range 128).foldl (fun s c =>
      let ch := s.chan c
      if ch.rise = 0 then s
      else s.setChan c { ch with rise := decay ch.rise (lt - stop) (s.regF (R.LSC_WIRE_T c) 11 0) }) s
    let s : State := { s with load := { s.load with
      clockOn := true, clockAt := lt, neededAt := lt, steps := 0, startOwed := none, cfgBefore := [] } }
    let s := (s.addF R.CLK_LS_STARTS 31 0 1).raise 6 0
    (List.range 16).foldl (fun s g => s.boundaryAt g 0) s

def execLsClockStart (t : Nat) (s : State) : Result := eventAt t State.lsClockStart s

/-- Encke stops the clock after 1,000 ms in which nothing needs it (R334); off-state checks under way are abandoned
(R72). -/
def State.lsClockStop (s : State) : State :=
  if s.load.clockOn && !s.clockNeeded && s.load.neededAt + 1000000000 ≤ s.clk.lt then
    ({ s with load := { s.load with
      clockOn := false, clockAt := s.clk.lt
      chans := s.load.chans.map (fun x => (x.1, { x.2 with olCheck := false })) } } : State).raise 6 1
  else s

def execLsClockStop (t : Nat) (s : State) : Result := eventAt t State.lsClockStop s

/-! ## Commits and resets of the load stage (R59, R71, R72, R83, R95, R104) -/

/-- What a commit that applied a value to a register of an LSC, LSB or PGEN page changes at its edge.
DESIGN CHOICE: notes/assumptions/11.md. -/
def State.loadCommit (s : State) (addr : Nat) (old : Word) : State :=
  match pageAt addr with
  | none => s
  | some idx =>
    let off := addr % 0x1000
    if idx = 15 then
      if 0x100 ≤ off then
        let g := (off - 0x100) / 0x20
        s.setPgen g { s.pgenSt g with dirty := true }
      else s
    else if 17 ≤ idx && idx < 33 && 0x100 ≤ off then
      let c := 8 * (idx - 17) + (off - 0x100) / 0x80
      let r := (off - 0x100) % 0x80
      let s := if r = 0x64 && fld (s.reg addr) 15 0 = 0 then s.updChan c (fun ch => { ch with olOn := false, olRun := 0 })
        else if r = 0x60 && !bit (s.reg addr) 12 then s.updChan c (fun ch => { ch with olOff := false, olCheck := false })
        else if r = 0x08 then
          -- renewals due before the edge are taken with the old value
          let w := s.reg addr
          let s := ((s.setReg addr old).takeDue c).setReg addr w
          let held := s.safeCmdOfWord c old (s.chan c).safeCmd
          if (s.chan c).lease == .expired then s.updChan c (fun ch => { ch with safeCmd := s.safeCmdOf c held }) else s
        else s
      if r = 0x20 && bit (s.reg addr) 1 && !bit old 1 then
        s.updChan c (fun ch => { ch with tagPending := true, tagState := .idle })
      else if r = 0x20 && !bit (s.reg addr) 1 && bit old 1 then
        let b := s.lbank (c / 32)
        let s := if b.interrog == some c then s.setLbank (c / 32) { b with interrog := none } else s
        s.updChan c (fun ch => { ch with tagState := .disabled, tagAttempts := 0, tagRetry := false, tagTx := [] })
      else s
    else s

/-- An LSC page reset: counters and measured values are cleared and interrogations are aborted; states, causes, leases
and rises stay (R48, R83). DEDUCED: notes/assumptions/19.md. -/
def State.lscPageReset (s : State) (page : Nat) : State :=
  (List.range 8).foldl (fun s n =>
    let c := 8 * page + n
    let s := [R.LSC_TRIP_COUNT c, R.LSC_IPEAK c, R.LSC_IMEAS c, R.LSC_VOUT c, R.LSC_TJ c, R.LSC_LEASE_EXP c, R.LSC_ID_SIG0 c,
      R.LSC_ID_SIG1 c, R.LSC_ID_SIG2 c].foldl
      (fun s r => s.setReg r 0) s
    s.abortTag c) s

end Sys2Proof.Machine
end

