-- ==== Sys2Proof/Machine/Dram.lean ====
section
/-! DEFINITION. The DRAM controller: corrected and uncorrectable errors, the error record and the scrubber (spec/13, R311,
R330). -/

namespace Sys2Proof.Machine

def dramcPage : Nat := 116

def State.setDramc (s : State) (d : Dramc) : State := { s with dramc := d }

/-- A single-bit error has been corrected and written back (R330). -/
def State.dramCorrected (s : State) : State :=
  let s := s.addF R.DRAMC_ECC 15 0 1
  let d := s.dramc
  let n := d.periodCorr + 1
  let hit := !d.periodRaised && decide (max 1 (s.regF R.DRAMC_SCRUB 23 8) ≤ n)
  (s.setDramc { d with periodCorr := n, periodRaised := d.periodRaised || hit }).raiseIf hit dramcPage 1

/-- An uncorrectable error is counted and recorded (R330). -/
def State.dramUncorrectable (s : State) (part req addr : Nat) (write : Bool) : State :=
  let s := s.addF R.DRAMC_ECC 31 16 1
  let d := s.dramc
  let s := if d.errValid then s.setDramc { d with errMore := true }
    else s.setDramc { d with errValid := true, errMore := false, errPart := part, errReq := req, errWrite := write
                             errAddr := addr / 64 * 64, errTime := s.clk.lt }
  s.raise dramcPage 0

/-- What the ECC of DRAM found at an access: whether the access goes on. -/
def State.eccSeen (s : State) (part req addr : Nat) (write : Bool) (found : EccFound) : State × Bool :=
  if !inDram addr 1 then (s, true)
  else match found with
    | .clean => (s, true)
    | .corrected => (s.dramCorrected, true)
    | .uncorrectable => (s.dramUncorrectable part req addr write, false)

/-- The scrubber runs in RUN to DROWSE (R330). DEDUCED: notes/assumptions/51.md. -/
def State.scrubbing (s : State) : Bool := s.dramc.ready && s.regB R.DRAMC_SCRUB 31 && !s.clockStopped

/-- PERIOD_H in ns, which is also the spacing of two granules in units of 2^-28 ns (R330). -/
def State.scrubPeriod (s : State) : Nat := max 1 (s.regF R.DRAMC_SCRUB 7 0) * 3600000000000

/-- The scrubber reads its next granule once that is due (R330). DEDUCED: notes/assumptions/51.md. -/
def State.scrubStep (s : State) (found : EccFound) : State :=
  let now := s.clk.lt * 2 ^ 28
  if !s.scrubbing || decide (now < s.dramc.due) then s
  else
    let next := s.dramc.due + s.scrubPeriod
    let s := s.setDramc { s.dramc with due := if now < next then next else now + s.scrubPeriod }
    let addr := 0x800000000 + 64 * s.dramc.pos
    let s := match found with
      | .clean => s
      | .corrected => s.dramCorrected
      | .uncorrectable => s.dramUncorrectable 0 31 addr false
    let d := s.dramc
    let pos := (d.pos + 1) % 268435456
    if pos = 0 then s.setDramc { d with pos := pos, periodCorr := 0, periodRaised := false } else s.setDramc { d with pos := pos }

def execScrubStep (t : Nat) (found : EccFound) (s : State) : Result := eventAt t (fun s => s.scrubStep found) s

/-- DRAMC_ERR_POP. -/
def State.dramcPop (s : State) (w : Word) : State :=
  if bit w 0 then s.setDramc { s.dramc with errValid := false, errMore := false } else s

def execDramcErrPop (a : Acc) (s : State) : Result := writeTo a R.DRAMC_ERR_POP (fun s => s.dramcPop 1) s

/-- Registers of the DRAMC page. DEDUCED: notes/assumptions/51.md. -/
def State.viewDramc (s : State) (off : Nat) : Option Word :=
  let d := s.dramc
  match off with
  | 0x44 => some (mkF 3 3 (Config.dramHot s.clk.lt).toNat ||| mkF 2 2 s.scrubbing.toNat
      ||| mkF 1 1 (s.pwr.state == .park).toNat ||| mkF 0 0 d.ready.toNat)
  | 0x4C => some (word d.pos)
  | 0x54 => some (mkF 31 31 d.errValid.toNat ||| mkF 30 30 d.errMore.toNat ||| mkF 20 16 d.errPart ||| mkF 12 8 d.errReq
      ||| mkF 0 0 d.errWrite.toNat)
  | 0x58 => some (lowWord d.errAddr)
  | 0x5C => some (highWord d.errAddr)
  | 0x60 => some (lowWord d.errTime)
  | 0x64 => some (highWord d.errTime)
  | _ => none

end Sys2Proof.Machine
end

