-- ==== Sys2Proof/Machine/Inputs.lean ====
section
/-! DEFINITION. Sensing inputs, sensor supplies and wake inputs (spec/06). -/

namespace Sys2Proof.Machine

def inpPage (k : Nat) : Nat := 33 + k

def State.ain (s : State) (n : Nat) : Ain := KMap.get s.inputs.ain {} n
def State.setAin (s : State) (n : Nat) (x : Ain) : State :=
  { s with inputs := { s.inputs with ain := KMap.put s.inputs.ain n x } }
def State.din (s : State) (n : Nat) : Din := KMap.get s.inputs.din {} n
def State.setDin (s : State) (n : Nat) (x : Din) : State :=
  { s with inputs := { s.inputs with din := KMap.put s.inputs.din n x } }
def State.fin (s : State) (n : Nat) : Fin' := KMap.get s.inputs.fin {} n
def State.setFin (s : State) (n : Nat) (x : Fin') : State :=
  { s with inputs := { s.inputs with fin := KMap.put s.inputs.fin n x } }
def State.ssup (s : State) (n : Nat) : Ssup := KMap.get s.inputs.ssup {} n
def State.setSsup (s : State) (n : Nat) (x : Ssup) : State :=
  { s with inputs := { s.inputs with ssup := KMap.put s.inputs.ssup n x } }
def State.win (s : State) (k : Nat) : Win := KMap.get s.inputs.win {} k
def State.setWin (s : State) (k : Nat) (x : Win) : State :=
  { s with inputs := { s.inputs with win := KMap.put s.inputs.win k x } }

/-- Whether the fabric and its inputs run: RUN to DROWSE (R139). -/
def State.inputsRun (s : State) : Bool := !s.clockStopped

/-- The start of the first period after instant `lt` of a timer that began at `x`. -/
def nextPeriod (x period lt : Nat) : Nat := x + period * ((lt - x) / period + 1)

/-! ## Analog inputs (R129 to R132) -/

/-- AIN_CFG.RATE in ns (R132). -/
def State.ainPeriod (s : State) (n : Nat) : Nat :=
  match s.regF (R.AIN_CFG n) 6 4 with
  | 0 => 250000 | 1 => 1000000 | 2 => 2000000 | 3 => 5000000 | 4 => 10000000 | 5 => 20000000 | 6 => 50000000 | _ => 100000000

/-- AIN_CFG.MODE; MODE 3 outside INP0 behaves as OFF (R129). -/
def State.ainMode (s : State) (n : Nat) : Nat :=
  let m := s.regF (R.AIN_CFG n) 1 0
  if m = 3 && 16 ≤ n then 0 else m

/-- The supply a ratiometric input names (R129, R132). -/
def State.ainSupply (s : State) (n : Nat) : Option Nat :=
  let r := s.regF (R.AIN_CFG n) 13 12
  if s.ainMode n = 1 && (r = 1 || r = 2) then some (2 * (n / 16) + (r - 1)) else none

/-- Whether a supply delivers (R137, R139). -/
def State.ssupOn (s : State) (n : Nat) : Bool :=
  (s.ssup n).on && (s.inputsRun || (s.pwr.state == .park && s.regB (R.SSUP_CFG n) 1))

/-- VALUE of a raw count (R129); a ratio to a supply of 0 mV is a free value. DEDUCED: notes/assumptions/39.md. -/
def State.ainValue (s : State) (n r : Nat) : Nat × State :=
  match s.ainMode n with
  | 1 =>
    match s.ainSupply n with
    | none => (r * 32000 / 16384, s)
    | some k =>
      let mv := s.regF (R.SSUP_MEAS k) 15 0
      if mv = 0 then let f := s.takeFree; (min 10000 (f.1 % 65536), f.2) else (min 10000 (10000 * r * 32000 / (16384 * mv)), s)
  | 2 => (if 4950 * 16384 ≤ r * 5000 then 65535 else min 65534 (2490 * r / (16384 - r)), s)
  | _ => (r * 40000 / 16384, s)

/-- The filtered count: y + (r − y) / 2^f with 8 fractional bits (R130). DEDUCED: notes/assumptions/39.md. -/
def filterStep (y : Nat) (r f : Nat) : Nat := ((y : Int) + ((r * 256 : Nat) - (y : Int)) / (2 ^ f : Nat)).toNat

/-- The window comparison of a new VALUE (R131). -/
def State.ainWindow (s : State) (n v : Nat) : State :=
  let a := s.ain n
  let low := s.regF (R.AIN_LIM n) 15 0
  let high := s.regF (R.AIN_LIM n) 31 16
  let hyst := s.regF (R.AIN_CFG n) 23 16
  let below := if v < low then true else if low + hyst ≤ v then false else a.below
  let above := if high < v then true else if v + hyst ≤ high then false else a.above
  (s.setAin n { a with value := v, below := below, above := above }).raiseIf
    ((below && !a.below) || (above && !a.above)) (inpPage (n / 16)) 0

/-- The loop check of a CURRENT sample (R131). -/
def State.ainLoop (s : State) (n v : Nat) : State :=
  let a := s.ain n
  let bad := v < 3600 || 21000 < v
  let a' := { a with badRun := if bad then a.badRun + 1 else 0, goodRun := if bad then 0 else a.goodRun + 1
                     overload := a.overload && decide (30000 ≤ v) }
  let fault := if 3 ≤ a'.badRun then true else if 3 ≤ a'.goodRun then false else a.loopFault
  (s.setAin n { a' with loopFault := fault }).raiseIf (fault && !a.loopFault) (inpPage (n / 16)) 1

/-- Supply measurements taken with a sample (R127). DEDUCED: notes/assumptions/39.md. -/
def State.noteSupplies (s : State) (l : List SupplyMeas) : State :=
  l.foldl (fun s m => s.setReg (R.SSUP_MEAS m.n) (word (m.mv % 65536 + m.i % 65536 * 65536))) s

/-- One conversion: the first of its period on the input's timer, and no other (R129, R132).
DEDUCED: notes/assumptions/71.md. -/
def State.ainSample (s : State) (n r : Nat) : State :=
  let a := s.ain n
  if s.ainMode n = 0 || !s.inputsRun || a.burdenOff.isSome || decide (s.clk.lt < a.due) then s
  else
    let from_ := a.timer.getD s.clk.lt
    let y := if a.fresh then r * 256 else filterStep a.y r (s.regF (R.AIN_CFG n) 10 8)
    let v := s.ainValue n (y / 256)
    let s := v.2.setAin n { a with y := y, fresh := false, stale := false, timer := some from_
                                   due := nextPeriod from_ (s.ainPeriod n) s.clk.lt }
    let s := s.ainWindow n v.1
    let s := s.when (s.ainMode n == 3) (fun s => s.ainLoop n v.1)
    s.gwOfferValue 3 (2048 + n) v.1

def execAinSample (t : Nat) (n : Fin 64) (raw : Fin 16384) (supplies : List SupplyMeas) (s : State) : Result :=
  eventAt t (fun s => (s.noteSupplies supplies).ainSample n raw) s

def State.ainOverload (s : State) (n : Nat) : State :=
  let a := s.ain n
  if s.ainMode n = 3 && s.inputsRun && a.burdenOff.isNone then
    (s.setAin n { a with burdenOff := some s.clk.lt, overload := true }).raise (inpPage (n / 16)) 1
  else s

def execAinOverload (t : Nat) (n : Fin 64) (s : State) : Result := eventAt t (fun s => s.ainOverload n) s

def State.ainReconnect (s : State) (n : Nat) : State :=
  let a := s.ain n
  match a.burdenOff with
  | some x => if x + 1000000000 ≤ s.clk.lt then s.setAin n { a with burdenOff := none } else s
  | none => s

def execAinBurdenReconnect (t : Nat) (n : Fin 64) (s : State) : Result := eventAt t (fun s => s.ainReconnect n) s

/-! ## Digital inputs (R133 to R135) -/

/-- Whether a digital input is polled in the present power state (R139). -/
def State.dinPolled (s : State) (n : Nat) : Bool :=
  s.inputsRun || (s.pwr.state == .park && s.regB (R.DIN_WAKE_EN (n / 24)) (n % 24))

/-- The poll period in ns: DIN_TIMING.POLL, and PARK_POLL in PARK (R133, R139). -/
def State.dinPeriod (s : State) (n : Nat) : Nat :=
  let w := s.reg (R.DIN_TIMING (n / 24))
  match (if s.inputsRun then fld w 2 0 else fld w 18 16) with
  | 0 => 1000000 | 1 => 2000000 | 2 => 5000000 | 3 => 10000000 | 4 => 20000000 | 5 => 50000000 | _ => 100000000

/-- The reading of one poll (R133). -/
def State.dinReading (s : State) (n mv : Nat) : Bool :=
  let pol := s.regB (R.DIN_POL (n / 24)) (n % 24)
  if mv < 4000 then !pol else if 7000 ≤ mv then pol else (s.din n).reading

/-- A debounced change (R134, R138, R140). -/
def State.dinChange (s : State) (n : Nat) (v : Bool) : State :=
  let k := n / 24
  let j := n % 24
  let hit := s.regB (if v then R.DIN_RISE_EN k else R.DIN_FALL_EN k) j
  let d := s.din n
  let at_ := if hit then some s.clk.lt else d.edgeAt
  let s := s.setDin n { d with state := v, count := 0, edge := d.edge || hit, edgeAt := at_ }
  let s := s.raiseIf hit (inpPage k) 2
  let s := s.gwOfferValue 4 (2112 + n) v.toNat
  s.when (hit && s.regB (R.DIN_WAKE_EN k) j) (fun s => s.wakeRequest .digitalInput n)

/-- One poll: the first of its period, and no other (R133). DEDUCED: notes/assumptions/71.md. -/
def State.dinPoll (s : State) (n mv : Nat) : State :=
  if !s.dinPolled n || decide (s.clk.lt < (s.din n).due) then s
  else
    let r := s.dinReading n mv
    let from_ := (s.din n).timer.getD s.clk.lt
    let d := { s.din n with reading := r, timer := some from_, due := nextPeriod from_ (s.dinPeriod n) s.clk.lt }
    if d.load then s.setDin n { d with state := r, load := false, count := 0 }
    else if r = d.state then s.setDin n { d with count := 0 }
    else
      let s := s.setDin n { d with count := d.count + 1 }
      if max 1 (s.regF (R.DIN_TIMING (n / 24)) 11 8) ≤ d.count + 1 then s.dinChange n r else s

def execDinPoll (t : Nat) (n : Fin 96) (mv : Nat) (s : State) : Result := eventAt t (fun s => s.dinPoll n mv) s

/-! ## Frequency inputs (R136) -/

def State.finMode (s : State) (n : Nat) : Nat := s.regF (R.FIN_CFG n) 1 0

/-- The gate of an input, in ns (R136). -/
def State.finGateNs (s : State) (n : Nat) : Nat := max 1 (s.regF (R.FIN_CFG n) 15 8) * 1000000

/-- A gate begins: it holds no edge yet. -/
def Fin'.newGate (f : Fin') (lt : Nat) : Fin' := { f with first := none, last := none, edges := 0, high := 0, gateAt := lt }

/-- Whether a mode measures over gates. -/
def finGated (m : Nat) : Bool := m == 1 || m == 2

/-- A rising edge: the pulse it begins lasts `pulse` ns, the low time it ends lasted `low`; where either is shorter than
GLITCH_US the edge is ignored (R136). DEDUCED: notes/assumptions/39.md. -/
def State.finEdge (s : State) (n high low pulse : Nat) : State :=
  let f := s.fin n
  let lt := s.clk.lt
  let glitch := s.regF (R.FIN_CFG n) 28 24 * 1000
  if s.finMode n = 0 || !s.inputsRun || decide (pulse < glitch) || decide (low < glitch) then s
  else
    let g := { f with count := (f.count + 1) % 2 ^ 32, lastEdge := lt, running := true, stalled := f.stalled && !f.running }
    s.setFin n (if finGated (s.finMode n) then
      { g with first := some (f.first.getD lt), last := some lt, edges := f.edges + 1
               high := if f.edges = 0 then 0 else f.high + high }
      else g)

def execFinEdge (t : Nat) (n : Fin 16) (high : Nat) (s : State) (low pulse : Nat := 0) : Result :=
  eventAt t (fun s => s.finEdge n high low pulse) s

/-- The end of a gate, once it has lasted GATE_MS; the next one begins (R136). DEDUCED: notes/assumptions/71.md. -/
def State.finGate (s : State) (n : Nat) : State :=
  let f := s.fin n
  let m := s.finMode n
  if !finGated m || !s.inputsRun || decide (s.clk.lt < f.gateAt + s.finGateNs n) then s
  else
    let g := f.newGate s.clk.lt
    let span := f.last.getD 0 - f.first.getD 0
    let s := if f.edges < 2 || span = 0 then s.setFin n g
      else
        let freq := (f.edges - 1) * 10 ^ 12 / span
        s.setFin n { g with freq := min freq (2 ^ 32 - 1), overrange := decide (50000000 < freq)
                            duty := if m = 2 then min 1000 (f.high * 1000 / span) else f.duty }
    s.gwOfferValue 5 (2208 + n) (s.fin n).freq

def execFinGateEnd (t : Nat) (n : Fin 16) (s : State) : Result := eventAt t (fun s => s.finGate n) s

def State.finStall (s : State) (n : Nat) : State :=
  let f := s.fin n
  let limit := max 1 (s.regF (R.FIN_CFG n) 23 16) * 10000000
  if s.finMode n != 0 && s.inputsRun && !f.stalled && f.lastEdge + limit ≤ s.clk.lt then
    (s.setFin n { f with freq := 0, duty := 0, stalled := true, running := false }).raise (inpPage (n / 4)) 3
  else s

def execFinStall (t : Nat) (n : Fin 16) (s : State) : Result := eventAt t (fun s => s.finStall n) s

/-! ## Sensor supplies (R137) -/

/-- A supply switches off with a fault (R137). -/
def State.ssupFault (s : State) (n : Nat) (backfed : Bool) : State :=
  let x := s.ssup n
  if !s.ssupOn n then s
  else (s.setSsup n { x with on := false, fault := true, backfed := backfed, overload := !backfed, undervolt := false
                             since := s.clk.lt }).raise (inpPage (n / 2)) 4

def execSsupOverload (t : Nat) (n : Fin 8) (s : State) : Result := eventAt t (fun s => s.ssupFault n false) s
def execSsupBackfed (t : Nat) (n : Fin 8) (s : State) : Result := eventAt t (fun s => s.ssupFault n true) s

def execSsupUndervolt (t : Nat) (n : Fin 8) (below : Bool) (s : State) : Result :=
  eventAt t (fun s => s.setSsup n { s.ssup n with undervolt := below && s.ssupOn n }) s

/-- A faulted supply starts again. -/
def State.ssupStart (s : State) (n : Nat) : State := s.setSsup n { s.ssup n with on := true, fault := false }

def State.ssupRetry (s : State) (n : Nat) : State :=
  let x := s.ssup n
  let w := s.reg (R.SSUP_CFG n)
  if x.fault && bit w 0 && bit w 2 && x.since + max 1 (fld w 15 8) * 100000000 ≤ s.clk.lt then s.ssupStart n else s

def execSsupRetry (t : Nat) (n : Fin 8) (s : State) : Result := eventAt t (fun s => s.ssupRetry n) s

/-- A write of 1 to SSUP_STAT.FAULT (R137). DEDUCED: notes/assumptions/39.md. -/
def State.ssupRestart (s : State) (n : Nat) : State :=
  let w := s.reg (R.SSUP_CFG n)
  if (s.ssup n).fault && bit w 0 && !bit w 2 then s.ssupStart n else s

def execSsupFaultRestart (a : Acc) (n : Fin 8) (s : State) : Result :=
  writeTo a (R.SSUP_STAT n) (fun s => s.ssupRestart n) s

/-! ## Wake inputs (R138) -/

def State.winEdge (s : State) (k : Nat) (level : Bool) : State :=
  let w := s.reg (R.WIN_CFG k)
  let x := s.win k
  if !bit w 0 || x.level = level then s
  else
    let e := fld w 2 1
    let hit := (level && e != 1) || (!level && e != 0)
    let s := s.setWin k { x with level := level, woke := x.woke || hit }
    let s := s.gwOfferValue 6 (2224 + k) level.toNat
    if hit then (s.raise (inpPage k) 5).wakeRequest .wakeInput k else s

def execWakeInputEdge (t : Nat) (k : Fin 4) (level : Bool) (s : State) : Result :=
  eventAt t (fun s => s.winEdge k level) s

/-! ## Commits, page resets and power states (R128, R132, R135, R139) -/

/-- A committed register of an INP page (R132, R135, R137). DEDUCED: notes/assumptions/39.md. -/
def State.inpCommit (s : State) (k off : Nat) (old : Word) : State :=
  if 0x100 ≤ off && off < 0x200 then
    let n := 16 * k + (off - 0x100) / 16
    let diff := old ^^^ s.reg (R.AIN_CFG n)
    if off % 16 = 0 && (fld diff 13 12 != 0 || fld diff 10 8 != 0 || fld diff 6 4 != 0 || fld diff 1 0 != 0) then
      let a := { s.ain n with fresh := true, stale := true, badRun := 0, goodRun := 0
                              timer := if fld old 1 0 = 0 then some s.clk.lt else none, due := s.clk.lt }
      s.setAin n { a with burdenOff := if fld diff 1 0 = 0 then a.burdenOff else none }
    else s
  else if off = 0x204 then
    (bitsOf (old ^^^ s.reg (R.DIN_POL k)) 24).foldl (fun s j =>
      s.setDin (24 * k + j) { s.din (24 * k + j) with load := true, count := 0 }) s
  else if off = 0x218 then
    let diff := old ^^^ s.reg (R.DIN_TIMING k)
    if fld diff 11 8 = 0 && fld diff 2 0 = 0 then s
    else (List.range 24).foldl (fun s j =>
      let d := { s.din (24 * k + j) with count := 0 }
      s.setDin (24 * k + j) (if fld diff 2 0 = 0 then d else { d with timer := none, due := s.clk.lt })) s
  else if 0x280 ≤ off && off < 0x2C0 then
    let n := 4 * k + (off - 0x280) / 16
    let diff := old ^^^ s.reg (R.FIN_CFG n)
    if off % 16 ≠ 0 || (fld diff 15 8 = 0 && fld diff 1 0 = 0) then s
    else
      let f := (s.fin n).newGate s.clk.lt
      s.setFin n (if fld old 1 0 = 0 then { f with lastEdge := s.clk.lt, running := false } else f)
  else if off = 0x300 || off = 0x310 then
    let n := 2 * k + (off - 0x300) / 16
    let on := s.regB (R.SSUP_CFG n) 0
    let x := s.ssup n
    if on = bit old 0 then s else s.setSsup n { x with on := on, fault := false, undervolt := x.undervolt && on }
  else s

/-- An INP page reset (R128, R48). -/
def State.inpReset (s : State) (k : Nat) : State :=
  let s := (List.range 16).foldl (fun s i =>
    let a := s.ain (16 * k + i)
    s.setAin (16 * k + i) { burdenOff := a.burdenOff, timer := a.timer, due := a.due }) s
  let s := (List.range 24).foldl (fun s j =>
    let d := s.din (24 * k + j); s.setDin (24 * k + j) { d with count := 0, edge := false }) s
  let s := (List.range 4).foldl (fun s i => s.setFin (4 * k + i) { lastEdge := s.clk.lt, gateAt := s.clk.lt }) s
  let s := (List.range 2).foldl (fun s i =>
    let x := s.ssup (2 * k + i); s.setSsup (2 * k + i) { x with undervolt := false, backfed := false, overload := false }) s
  s.setWin k { s.win k with woke := false }

/-- At entry to PARK every analog value holds and is stale; after exit the next sample loads y (R130, R139). -/
def State.ainPark (s : State) : State :=
  { s with inputs := { s.inputs with ain := s.inputs.ain.map (fun e => (e.1, { e.2 with stale := true, fresh := true })) } }

/-- After PARK or DORMANT every digital input debounces from its first poll, and every frequency input measures anew
(R139). -/
def State.inputsResume (s : State) : State :=
  let lt := s.clk.lt
  { s with inputs := { s.inputs with
      din := s.inputs.din.map (fun e => (e.1, { e.2 with count := 0, timer := none, due := lt }))
      fin := (List.range 16).map (fun n => (n, { (s.fin n).newGate lt with lastEdge := lt, running := false })) } }

/-- What the registers of an INP page show. -/
def State.viewInp (s : State) (k off : Nat) : Option Word :=
  if 0x100 ≤ off && off < 0x200 then
    let n := 16 * k + (off - 0x100) / 16
    if off % 16 = 8 then
      let a := s.ain n
      let stale := a.stale || (match s.ainSupply n with | some x => !s.ssupOn x | none => false)
      some (word (a.below.toNat + a.above.toNat * 2 + a.loopFault.toNat * 4 + a.overload.toNat * 8 + stale.toNat * 16
        + a.value * 65536))
    else none
  else if 0x280 ≤ off && off < 0x2C0 then
    let f := s.fin (4 * k + (off - 0x280) / 16)
    if off % 16 = 4 then some (word f.freq)
    else if off % 16 = 8 then some (word (f.duty + f.overrange.toNat * 2 ^ 30 + f.stalled.toNat * 2 ^ 31))
    else if off % 16 = 12 then some (word f.count)
    else none
  else
    match off with
    | 0x200 => some (wordOfBits ((List.range 24).filter (fun j => (s.din (24 * k + j)).state)))
    | 0x214 => some (wordOfBits ((List.range 24).filter (fun j => (s.din (24 * k + j)).edge)))
    | 0x344 => some (word ((s.win k).level.toNat + (s.win k).woke.toNat * 256))
    | _ =>
      if off = 0x308 || off = 0x318 then
        let n := 2 * k + (off - 0x308) / 16
        let x := s.ssup n
        some (word ((s.ssupOn n).toNat + x.overload.toNat * 2 + x.backfed.toNat * 4 + x.undervolt.toNat * 8
          + x.fault.toNat * 256))
      else none

end Sys2Proof.Machine
end

