-- ==== Sys2Proof/Machine/Ledger.lean ====
section
/-! DEFINITION. Knowing the loads: signatures, tag interrogation, matching, and the ledger with its journal (spec/05, R111
to R126). -/

namespace Sys2Proof.Machine

def ledgPage : Nat := 16

def State.setLoad (s : State) (x : LoadStage) : State := { s with load := x }

/-! ## Records (R119) -/

def recAddr (r : Nat) : Nat := 0x22D80000 + 128 * r

/-- A field of a record, by offset and size. -/
def State.recF (s : State) (r off n : Nat) : Nat := s.readNum (recAddr r + off) n

def State.putRec (s : State) (r off n v : Nat) : State := s.writeNum (recAddr r + off) n v

/-- The record of a channel is LIVE. -/
def State.recLive (s : State) (c : Nat) : Bool := s.recF c 9 1 == 1

/-- One of the FLAGS of a record. -/
def State.recFlag (s : State) (r k : Nat) : Bool := (s.recF r 0xC 4).testBit k

def State.setRecFlag (s : State) (r k : Nat) (b : Bool) : State :=
  s.putRec r 0xC 4 (setBit (word (s.recF r 0xC 4)) k b).toNat

/-- A record is changed since its last journal packet (R121). -/
def State.markDirty (s : State) (r : Nat) : State :=
  s.setLoad { s.load with dirtyRecs := insertSorted s.load.dirtyRecs r }

/-- The CRC a record should hold. -/
def State.recCrc (s : State) (r : Nat) : Nat := crc32 (s.readBytes (recAddr r) 0x7C)

/-- SYNC_TIME, or 0 while it is not synchronised (R119). -/
def State.recTime (s : State) : Nat := if s.syncValid then s.syncNs else 0

/-! ## The journal (R121) -/

/-- One journal packet: SEQ and CRC are written into the record, whose packet goes to the journal queue.
DEDUCED: notes/assumptions/23.md. -/
def State.journalRec (s : State) (r : Nat) : State :=
  let old := s.readBytes (recAddr r) 128
  let seq := if s.load.ledgSeq = 0xFFFFFFFF then 1 else s.load.ledgSeq + 1
  let n := s.putRec r 0 4 seq
  let n := n.putRec r 0x7C 4 (n.recCrc r)
  let w := n.writePacket (s.regF R.LEDG_CFG 27 16) 3 (s.pageOwner ledgPage) (some s.pt.colour) (n.readBytes (recAddr r) 128)
  if w.2 then w.1.setLoad { w.1.load with ledgSeq := seq, dirtyRecs := w.1.load.dirtyRecs.erase r }
  else ((w.1.writeBytes (recAddr r) old).markDirty r).raise ledgPage 4

/-- Every changed record is journalled. -/
def State.journalAll (s : State) : State :=
  if !s.load.ledgRun then s else s.load.dirtyRecs.foldl (fun s r => s.journalRec r) s

/-- The journal period ends. -/
def State.journalPeriod (s : State) : State :=
  if s.load.ledgRun && s.load.lastJournal + max 1 (s.regF R.LEDG_CFG 7 0) * 1000000000 ≤ s.clk.lt then
    (s.setLoad { s.load with lastJournal := s.clk.lt }).journalAll
  else s

def execJournalPeriod (t : Nat) (s : State) : Result := eventAt t State.journalPeriod s

/-! ## Counts (R119, R120, R124) -/

/-- A saturating count in a record grows. -/
def State.addRec (s : State) (r off n v : Nat) : State := s.putRec r off n (satAdd (8 * n) (s.recF r off n) v)

/-- Counts are added to a record; what is left of the energy is less than 1 Wh. TJ_MAX is a signed value, which a record
that has counted no sample does not yet hold. -/
def State.addCounts (s : State) (r : Nat) (a : Accum) : State :=
  let s := match a.tjMax with
    | some v => s.putRec r 0x50 2 (unsigned 16 (if s.recF r 0x40 8 = 0 then v else max v (signed 16 (s.recF r 0x50 2))))
    | none => s
  let s := s.putRec r 0x40 8 (s.recF r 0x40 8 + a.samples)
  let s := (s.addRec r 0x48 4 a.closings).addRec r 0x4C 4 (a.energyMj / 3600000)
  let s := s.putRec r 0x2C 4 (max (s.recF r 0x2C 4) a.peakMa)
  let s := (s.addRec r 0x52 2 a.trips).addRec r 0x64 4 a.olOnsets
  (List.range 8).foldl (fun s k => s.addRec r (0x54 + 2 * k) 2 (a.byCause.getD k 0)) s

/-- What stays after counts have been added. -/
def Accum.rest (a : Accum) : Accum := { energyMj := a.energyMj % 3600000 }

/-- The sum of two sets of counts. -/
def Accum.add (a b : Accum) : Accum :=
  { samples := a.samples + b.samples, closings := a.closings + b.closings, energyMj := a.energyMj + b.energyMj
    peakMa := max a.peakMa b.peakMa
    tjMax := match a.tjMax, b.tjMax with
      | some x, some y => some (max x y)
      | some x, none => some x
      | none, y => y
    olOnsets := a.olOnsets + b.olOnsets
    byCause := (List.range 8).map (fun k => a.byCause.getD k 0 + b.byCause.getD k 0), trips := a.trips + b.trips }

/-- The wear index (R120). -/
def State.wearPpm (s : State) (c : Nat) : Nat :=
  let k := s.regF (R.LSC_ID_CFG c) 7 4
  let h := max 1 (s.regF (R.LEDG_PROF_A k) 19 0)
  let n := max 1 (s.regF (R.LEDG_PROF_B k) 23 0)
  min 0xFFFFFFFF (s.recF c 0x40 8 * 1000000 / (h * 471859200) + s.recF c 0x48 4 * 1000 / n)

/-- DRIFT of a record, in 0.1 %. DEDUCED: notes/assumptions/24.md. -/
def State.recDrift (s : State) (c : Nat) : Int :=
  let ref := s.recF c 0x1C 4
  let last := s.recF c 0x28 4
  if ref = 0 || last = 0 then 0
  else max (-32768) (min 32767 ((((last : Int) - ref) * 1000).tdiv ref))

/-- Wear and drift of a live record, with their warnings (R120). -/
def State.wearStep (s : State) (c : Nat) : State :=
  let k := s.regF (R.LSC_ID_CFG c) 7 4
  let wear := s.wearPpm c
  let drift := s.recDrift c
  let s := ((s.putRec c 0xB 1 k).putRec c 0x68 4 wear).putRec c 0x1A 2 (unsigned 16 drift)
  let warn := decide (clamp 50 100 (s.regF (R.LEDG_PROF_A k) 31 24) * 10000 ≤ wear) && !s.recFlag c 2
  let s := (if warn then s.setRecFlag c 2 true else s).raiseIf warn ledgPage 1
  let off := decide (max 1 (s.regF (R.LEDG_PROF_B k) 31 24) * 5 ≤ drift.natAbs) && !s.recFlag c 3
  (if off then s.setRecFlag c 3 true else s).raiseIf off ledgPage 2

/-- The record of one channel takes its counts. A shared load's fed samples and closings come with the partner's counts, and
unit 1's record is frozen (R124). -/
def State.updateRec (s : State) (c : Nat) : State :=
  if !s.recLive c then s
  else
    let a := (s.chan c).acc
    let shared := s.sharedLoad c
    if shared && s.hw.unitId = 1 then s
    else
      let old := s.readBytes (recAddr c) 128
      let s := s.addCounts c (if shared then { a with samples := 0, closings := 0 } else a)
      let out := s.hw.paired && s.hw.unitId = 1 && s.regB (R.LSC_ID_CFG c) 31
      let s := if out && s.recFlag c 4 then s.setRecFlag c 4 false else s
      let s := s.updChan c (fun ch => { ch with
        acc := a.rest, outage := if out then ch.outage.add { a with energyMj := a.energyMj - a.energyMj % 3600000 } else ch.outage
        stepFed := if shared then ch.stepFed else [] })
      let s := s.wearStep c
      if s.readBytes (recAddr c) 128 = old then s else s.markDirty c

/-- The update of the live records, every 1,024 model steps. DEDUCED: notes/assumptions/23.md. -/
def State.ledgerUpdate (s : State) : State :=
  let base := if s.load.steps < s.load.ledgAt then 0 else s.load.ledgAt
  if s.load.ledgRun && base + 1024 ≤ s.load.steps then
    (List.range 128).foldl (fun s c => s.updateRec c) (s.setLoad { s.load with ledgAt := s.load.steps })
  else s

def execLedgerUpdate (t : Nat) (s : State) : Result := eventAt t State.ledgerUpdate s

/-! ## Replacement (R118) -/

/-- A reference value of a signature. -/
def State.putRef (s : State) (c kind v : Nat) : State :=
  match kind with
  | 0 => s.putRec c 0x1C 4 v
  | 1 => s.putRec c 0x20 2 v
  | 2 => s.putRec c 0x22 2 v
  | _ => s.putRec c 0x24 4 v

/-- A new live record with the next LOAD_NO; `tag` is its tag identity and type. -/
def State.openRecord (s : State) (c : Nat) (tag : Option (Nat × Nat)) (refs : List (Nat × Nat)) : State :=
  let s := s.setLoad { s.load with loadNo := (s.load.loadNo + 1) % 2 ^ 32 }
  let s := s.writeBytes (recAddr c) (List.replicate 128 0)
  let s := ((s.putRec c 4 4 s.load.loadNo).putRec c 8 1 c).putRec c 9 1 1
  let s := (s.putRec c 0xB 1 (s.regF (R.LSC_ID_CFG c) 7 4)).setRecFlag c 1 (s.chan c).limited
  let s := s.putRec c 0x30 8 s.recTime
  let s := match tag with
    | some (id, type) => ((s.setRecFlag c 0 true).putRec c 0x10 8 id).putRec c 0x18 2 type
    | none => s
  let s := refs.foldl (fun s x => s.putRef c x.1 x.2) s
  match refs.lookup 0 with
  | some v => s.putRec c 0x28 4 v
  | none => s

/-- The live record is closed, copied to the ring, and a new one opened and journalled with it. The closing of the episode
in which a signature decides counts in the new record, also where the old one has taken it already.
DEDUCED: notes/assumptions/23.md. -/
def State.replaceLoad (s : State) (c reason : Nat) (tag : Option (Nat × Nat)) (refs : List (Nat × Nat)) : State :=
  if !s.load.ledgRun || !s.recLive c then s
  else
    let ch := s.chan c
    let now := reason = 2 && ch.conducting
    let s := if now && ch.acc.closings = 0 then s.putRec c 0x48 4 (s.recF c 0x48 4 - 1) else s
    let s := s.addCounts c (if now then { ch.acc with closings := ch.acc.closings - 1 } else ch.acc)
    let s := s.wearStep c
    let s := ((s.putRec c 9 1 2).putRec c 0xA 1 reason).putRec c 0x38 8 s.recTime
    let h := s.load.histNext
    let s := s.writeBytes (recAddr h) (s.readBytes (recAddr c) 128)
    let s := s.setLoad { s.load with histNext := if h = 4095 then 128 else h + 1, histCount := min 3968 (s.load.histCount + 1) }
    let s := (s.openRecord c tag refs).putRec c 0x48 4 (if now then 1 else 0)
    let s := s.updChan c (fun ch => { ch with
      acc := ch.acc.rest, matchSt := .replaced, refFill := reason == 2
      noDecayRef := reason == 2 && (refs.lookup 3).isNone
      peerReplaced := if s.sharedLoad c && s.hw.unitId = 1 then reason else ch.peerReplaced })
    let s := (((s.markDirty h).markDirty c).journalRec h).journalRec c
    (s.raise (lscPage c) 13).raise ledgPage 0

/-! ## Matching (R117) -/

/-- The reference holds a signature. -/
def State.hasRef (s : State) (c : Nat) : Bool := s.recF c 0x1C 4 != 0 || s.recF c 0x20 4 != 0 || s.recF c 0x24 4 != 0

/-- The reference value of a kind, where the record holds one. -/
def State.refOf (s : State) (c kind : Nat) : Option Nat :=
  match kind with
  | 0 => if s.recF c 0x1C 4 = 0 then none else some (s.recF c 0x1C 4)
  | 1 => if s.recF c 0x20 4 = 0 then none else some (s.recF c 0x20 2)
  | 2 => if s.recF c 0x20 4 = 0 then none else some (s.recF c 0x22 2)
  | _ => if s.hasRef c && !(s.chan c).noDecayRef then some (s.recF c 0x24 4) else none

/-- A value differs from its reference. DEDUCED: notes/assumptions/24.md. -/
def State.differs (s : State) (c kind v ref : Nat) : Bool :=
  if kind = 3 && v < 8 && ref < 8 then false
  else decide (clamp 1 50 (s.regF (R.LSC_ID_CFG c) 15 8) * ref < ((v : Int) - ref).natAbs * 100)

/-- One more mismatch: its run, and whether it decides a replacement. DEDUCED: notes/assumptions/24.md. -/
def Chan.mismatch (ch : Chan) : Chan × Bool :=
  let run := if 2 ≤ ch.mismatchRun then 1 else ch.mismatchRun + 1
  ({ ch with mismatchRun := run, matchSt := .mismatch }, run == 2)

/-- A value of the running measurement has been taken; one of a measurement that began before START is not compared
(R122). A cold resistance that differs from the reference is not the
record's load's: LAST_COLD keeps the latest one that does not (R117, R119). -/
def State.tookValue (s : State) (c kind v : Nat) : State :=
  if !s.load.ledgRun || !s.recLive c || (s.chan c).skipMeasure then s
  else
    let s := s.updChan c (fun ch => { ch with taken := ch.taken ++ [(kind, v)] })
    let last := fun (s : State) => if kind = 0 then (s.putRec c 0x28 4 v).markDirty c else s
    let ch := s.chan c
    if ch.refFill then
      (((last s).putRef c kind v).markDirty c).updChan c (fun ch => { ch with noDecayRef := ch.noDecayRef && kind ≠ 3 })
    else match s.refOf c kind with
      | none => last s
      | some ref =>
        if s.differs c kind v ref then
          if ch.differed then s.setChan c { ch with compared := true }
          else
            let r := ({ ch with compared := true, differed := true } : Chan).mismatch
            let s := s.setChan c r.1
            if r.2 then s.replaceLoad c 2 none ch.taken else s
        else (last s).setChan c { ch with compared := true, matchSt := if ch.differed then .mismatch else .same }

/-- The measurement ends with its decay; a record without a reference takes the first complete signature. -/
def State.endSignature (s : State) (c : Nat) : State :=
  let ch := s.chan c
  let has (k : Nat) : Bool := (ch.taken.lookup k).isSome
  let whole := has 0 && has 3 && (ch.limited || (has 1 && has 2))
  let s := if s.load.ledgRun && s.recLive c && !s.hasRef c && whole then
      (ch.taken.foldl (fun s x => s.putRef c x.1 x.2) s).markDirty c
    else s
  s.updChan c (fun ch => ch.endMeasure)

/-! ## Signatures (R111) -/

/-- LSC_ID_STATUS.LIMITED, which the live record's flag follows (R111, R119). DEDUCED: notes/assumptions/23.md. -/
def State.setLimited (s : State) (c : Nat) (b : Bool) : State :=
  let s := s.updChan c (fun ch => { ch with limited := b })
  if s.load.ledgRun && s.recLive c && s.recFlag c 1 != b then (s.setRecFlag c 1 b).markDirty c else s

/-- The mean in mOhm of the ratios of two samples of voltage in mV and current in mA, up to the register's largest value;
none where both currents are below 1 % of the rating (R111). -/
def coldMohm (rating : Nat) (a b : Int × Int) : Option Nat :=
  if a.2.natAbs * 100 < rating && b.2.natAbs * 100 < rating then none
  else if a.2 ≤ 0 || b.2 ≤ 0 then some 0xFFFFF
  else some (min 0xFFFFF ((a.1 * b.2 + b.1 * a.2) * 1000 / (2 * a.2 * b.2)).toNat)

/-- The cold resistance of a closing, after 60 s without conduction (R111). -/
def State.coldStep (s : State) (x : ChanSample) : State :=
  let c := x.ch.val
  match x.first with
  | none => s
  | some (a, b) =>
    if !(s.chan c).coldDue then s
    else
      let s := s.updChan c (fun ch => { ch with coldDue := false })
      match coldMohm (chRating c) a b with
      | none => s
      | some v => (s.setReg (R.LSC_ID_SIG0 c) (word v)).tookValue c 0 v

/-- The peak ratio in sixteenths of the largest current to the mean of the 64th step; a free value where that mean is not
positive. DEDUCED: notes/assumptions/24.md. -/
def State.peakRatio (s : State) (peak : Nat) (mean : Int) : Nat × State :=
  if 0 < mean then (min 65535 (peak * 16 / mean.toNat), s)
  else
    let f := s.takeFree
    (f.1 % 65536, f.2)

/-- The peak ratio and settle time of a closing, at its 64th model step; a channel that inrush has limited yields none
(R111). DEDUCED: notes/assumptions/24.md. -/
def State.peakStep (s : State) (x : ChanSample) : State :=
  let c := x.ch.val
  let ch := s.chan c
  if !ch.sigOpen then s
  else
    let n := ch.sigSteps + 1
    let peak := max ch.sigPeak x.peakMa.natAbs
    let hit : Bool := ch.used != 0 || ch.exempt != 0
    let s := s.setChan c { ch with sigSteps := n, sigPeak := peak, sigOpen := n < 64 }
    let s := if hit then s.setLimited c true else if n = 64 then s.setLimited c false else s
    if hit || n < 64 then s
    else
      let r := s.peakRatio peak x.meanMa
      let d := min x.settle 65535
      let s := r.2.setReg (R.LSC_ID_SIG1 c) (word (r.1 + d * 65536))
      (s.tookValue c 1 r.1).tookValue c 2 d

/-- The signature values of one channel in a model step (R111). -/
def State.signStep (s : State) (x : ChanSample) : State :=
  if s.regB (R.LSC_ID_CFG x.ch) 0 then (s.coldStep x).peakStep x else s

/-- One model step: protection, then the signatures. -/
def State.wholeStep (s : State) (chans : List ChanSample) (banks : List BankSample) : State :=
  if !s.load.clockOn then s
  else (List.finRange 128).foldl (fun s c => s.signStep (sampleOf chans c (s.tj c))) (s.modelStep chans banks)

def execModelStep (t : Nat) (chans : List ChanSample) (banks : List BankSample) (s : State) : Result :=
  eventAt t (fun s => s.wholeStep chans banks) s

/-- The decay of an opening has been measured: one from ON or PWM that is no trip, of a current of at least 1 % of the
rating (R111). -/
def State.decayEnd (s : State) (c us : Nat) (ma : Int) : State :=
  if !s.regB (R.LSC_ID_CFG c) 0 || !(s.chan c).decayDue then s
  else
    let s := s.updChan c (fun ch => { ch with decayDue := false })
    if ma.natAbs * 100 < chRating c then s
    else
      let v := min us 0xFFFFF
      ((s.setReg (R.LSC_ID_SIG2 c) (word v)).tookValue c 3 v).endSignature c

def execInductiveDecayEnd (t : Nat) (ch : Fin 128) (decayUs : Nat) (s : State) (currentMa : Int := 0) : Result :=
  eventAt t (fun s => s.decayEnd ch decayUs currentMa) s

/-! ## Tag interrogation (R112 to R116) -/

/-- A trigger of R112. -/
def State.tagTrigger (s : State) (c : Nat) : State := s.updChan c (fun ch => { ch with tagPending := true })

/-- LSC_ID_CMD: ACCEPT, then INTERROGATE. -/
def State.idCmd (s : State) (c : Nat) (w : Word) : State :=
  let s := if bit w 1 then s.replaceLoad c 3 none [] else s
  if bit w 0 then s.tagTrigger c else s

def execInterrogate (a : Acc) (ch : Fin 128) (s : State) : Result :=
  writeTo a (R.LSC_ID_CMD ch) (fun s => s.idCmd ch 1) s
def execAccept (a : Acc) (ch : Fin 128) (s : State) : Result :=
  writeTo a (R.LSC_ID_CMD ch) (fun s => s.idCmd ch 2) s

/-- TAG_PERIOD_S has passed since the last interrogation. -/
def State.tagPeriod (s : State) (c : Nat) : State :=
  let p := s.regF (R.LSC_ID_CFG c) 23 16
  if p != 0 && s.regB (R.LSC_ID_CFG c) 1 && (s.chan c).lastInterrog + p * 1000000000 ≤ s.clk.lt then s.tagTrigger c else s

def execTagPeriodExpiry (t : Nat) (ch : Fin 128) (s : State) : Result := eventAt t (fun s => s.tagPeriod ch) s

/-- The CRC-8 of the request (R114). -/
def crc8 (l : List Byte) : Nat :=
  l.foldl (fun c b => (List.range 8).foldl (fun c _ => if 0x80 ≤ c then (2 * c % 256) ^^^ 0x07 else 2 * c)
    (c ^^^ b.toNat)) 0

/-- The request frame READ_ID that the module sends in every attempt (R114). -/
def tagRequest : List Byte := [0xA5, 0x01, BitVec.ofNat 8 (crc8 [0xA5, 0x01])]

/-- An attempt begins: the carrier is on, and the request follows (R115). -/
def Chan.tagAttempt (ch : Chan) (n lt : Nat) : Chan :=
  { ch with tagState := .busy, tagAttempts := n, tagAt := lt, tagRetry := false, tagTx := tagRequest }

/-- A pending interrogation starts: the lowest of its bank, when none runs there. -/
def State.tagStart (s : State) (c : Nat) : State :=
  if !s.tagNext c then s
  else
    (s.setLbank (c / 32) { s.lbank (c / 32) with interrog := some c }).updChan c (fun ch =>
      { ch.tagAttempt 1 s.clk.lt with tagPending := false, lastInterrog := s.clk.lt })

def execTagInterrogationStart (t : Nat) (ch : Fin 128) (s : State) : Result := eventAt t (fun s => s.tagStart ch) s

/-- The channel's carrier is on. -/
def State.tagBusy (s : State) (c : Nat) : Bool :=
  (s.lbank (c / 32)).interrog == some c && (s.chan c).tagState == .busy && !(s.chan c).tagRetry

/-- The interrogation ends in a state. -/
def State.tagEnd (s : State) (c : Nat) (st : TagState) : State :=
  (s.setLbank (c / 32) { s.lbank (c / 32) with interrog := none }).updChan c (fun ch =>
    { ch with tagState := st, tagAttempts := 0, tagRetry := false, tagTx := [] })

/-- The CRC-16 of the response (R114). -/
def crc16 (l : List Byte) : Nat :=
  l.foldl (fun c b => (List.range 8).foldl (fun c _ => if 0x8000 ≤ c then (2 * c % 65536) ^^^ 0x1021 else 2 * c)
    (c ^^^ (b.toNat * 256))) 0xFFFF

/-- A response: tag identity and type, where it is valid (R114, R115). -/
def tagFrame (f : List Byte) : Option (Nat × Nat) :=
  let id := beVal ((f.drop 1).take 8)
  if f.length = 14 && beVal (f.take 1) = 0x5A && beVal (f.drop 12) = crc16 ((f.drop 1).take 11) && id != 0
      && id != 0xFFFFFFFFFFFFFFFF then some (id, beVal ((f.drop 9).take 2)) else none

/-- A tag result is compared (R117). DEDUCED: notes/assumptions/24.md. -/
def State.matchTag (s : State) (c id type : Nat) : State :=
  if !s.load.ledgRun || !s.recLive c then s
  else if !s.recFlag c 0 then
    (((s.setRecFlag c 0 true).putRec c 0x10 8 id).putRec c 0x18 2 type).markDirty c
  else if s.recF c 0x10 8 = id then s.updChan c (fun ch => { ch with matchSt := .same, mismatchRun := 0 })
  else s.replaceLoad c 1 (some (id, type)) []

/-- A NO_TAG result on a record opened from a tag is a mismatch. DEDUCED: notes/assumptions/24.md. -/
def State.matchNoTag (s : State) (c : Nat) : State :=
  if !s.load.ledgRun || !s.recLive c || !s.recFlag c 0 then s
  else
    let r := (s.chan c).mismatch
    let s := s.setChan c r.1
    if r.2 then s.replaceLoad c 1 none [] else s

/-- Times of an attempt from the carrier start, in ns (R115): the request begins after 2 ms; the module listens once its
24 bits are out; a SYNC begins within 1 ms of that. DEDUCED: notes/assumptions/24.md. -/
def tagRequestAt : Nat := 2000000
def tagListenAt : Nat := 4929687
def tagSyncBy : Nat := 5929688

/-- No SYNC has begun in time. -/
def State.tagNone (s : State) (c : Nat) : State :=
  if s.tagBusy c && (s.chan c).tagAt + tagSyncBy ≤ s.clk.lt then (s.tagEnd c .noTag).matchNoTag c else s

def execTagNoResponse (t : Nat) (ch : Fin 128) (s : State) : Result := eventAt t (fun s => s.tagNone ch) s

/-- The response has ended. What ends before the module listens is none, and one whose SYNC began too late is NO_TAG. -/
def State.tagResponse (s : State) (c : Nat) (f : List Byte) : State :=
  let at_ := (s.chan c).tagAt
  let bits := f.length * 8 * 1000000000 / 8192
  if !s.tagBusy c || s.clk.lt < at_ + tagListenAt + bits then s
  else if at_ + tagSyncBy + bits < s.clk.lt then s.tagNone c
  else match tagFrame f with
    | some (id, type) =>
      let s := (s.tagEnd c .tagged).setPair (R.LSC_ID_TAG_LO c) (R.LSC_ID_TAG_HI c) id
      (s.putF (R.LSC_ID_STATUS c) 31 16 type).matchTag c id type
    | none =>
      if (s.chan c).tagAttempts < 3 then
        s.updChan c (fun ch => { ch with tagRetry := true, tagAt := s.clk.lt, tagTx := [] })
      else (s.tagEnd c .crcError).raise ledgPage 3

def execTagResponse (t : Nat) (ch : Fin 128) (frame : List Byte) (s : State) : Result :=
  eventAt t (fun s => s.tagResponse ch frame) s

/-- The carrier current has reached its limit, in the 2 ms before the request. -/
def State.tagLow (s : State) (c : Nat) : State :=
  if s.tagBusy c && s.clk.lt ≤ (s.chan c).tagAt + tagRequestAt then s.tagEnd c .lowImpedance else s

def execTagLowImpedance (t : Nat) (ch : Fin 128) (s : State) : Result := eventAt t (fun s => s.tagLow ch) s

/-- The next attempt begins 5 ms after the carrier turned off. -/
def State.tagAgain (s : State) (c : Nat) : State :=
  let ch := s.chan c
  if ch.tagRetry && ch.tagAt + 5000000 ≤ s.clk.lt then s.setChan c (ch.tagAttempt (ch.tagAttempts + 1) s.clk.lt) else s

def execTagRetry (t : Nat) (ch : Fin 128) (s : State) : Result := eventAt t (fun s => s.tagAgain ch) s

/-! ## LEDG_CMD (R121, R122) -/

/-- The largest load number of the records that are not invalid. -/
def State.lastLoadNo (s : State) : Nat :=
  (List.range 4096).foldl (fun n r => if s.recF r 9 1 = 0 then n else max n (s.recF r 4 4)) s.load.loadNo

/-- START: restore ends; the measurements under way are not compared (R122). DEDUCED: notes/assumptions/23.md. -/
def State.ledgerStart (s : State) : State :=
  if !s.load.ledgRestore then s
  else
    let s := (List.range 128).foldl (fun s c =>
      if s.recLive c && s.recF c 0x7C 4 ≠ s.recCrc c then s.putRec c 9 1 0 else s) s
    let s := s.setLoad { s.load with loadNo := s.lastLoadNo }
    let s := (List.range 128).foldl (fun s c =>
      let s := if s.recLive c then s else s.openRecord c none []
      let a := (s.chan c).acc
      ((s.addCounts c a).updChan c (fun ch => { ch with acc := a.rest, skipMeasure := true, noDecayRef := false })).markDirty c) s
    s.setLoad { s.load with ledgRestore := false, ledgRun := true, lastJournal := s.clk.lt, ledgAt := s.load.steps }

/-- The write of LEDG_CMD: START, then FLUSH. DEDUCED: notes/assumptions/23.md. -/
def State.ledgCmd (s : State) (w : Word) : State :=
  let s := if bit w 0 then s.ledgerStart else s
  if bit w 1 then s.journalAll else s

def execFlush (a : Acc) (s : State) : Result := writeTo a R.LEDG_CMD (fun s => s.ledgCmd 2) s
def execStart (a : Acc) (s : State) : Result := writeTo a R.LEDG_CMD (fun s => s.ledgCmd 1) s

/-! ## Cross-fed loads (R124) -/

/-- What unit 1 tells the keeper of one channel's load: its counts of the outage, if there are any, and those of the
SYNC_TIME steps before `k`. -/
def State.peerCounts (s : State) (c k : Nat) : List PeerCounts :=
  let ch := s.chan c
  let m (o : Bool) (a : Accum) : PeerCounts :=
    { from_ := Fin.ofNat 128 c, to_ := Fin.ofNat 128 (s.regF (R.LSC_ID_CFG c) 30 24)
      fed := if o then [] else (ch.stepFed.filter (fun x => x.1 < k)).reverse
      energyMj := a.energyMj, trips := a.byCause, outage := o, samples := if o then a.samples else 0
      closings := if o then a.closings else 0, loadNo := s.recF c 4 4, replaced := if o then 0 else ch.peerReplaced }
  (if ch.outage = {} then [] else [m true ch.outage]) ++ [m false ch.acc]

/-- Unit 1 sends its counts to the keeper, and its record follows the keeper's, whose LOAD_NO the link has brought. The
spec gives the message no format: the state holds the counts sent. DESIGN CHOICE: notes/assumptions/22.md. -/
def State.peerSend (s : State) (keeperNo : List (Fin 128 × Nat)) : State :=
  let sec := s.syncNs / 1000000000
  if s.hw.unitId ≠ 1 || !s.load.ledgRun || sec = s.load.peerSecond then s
  else
    let k := sec * 1024
    let l := (List.finRange 128).filter (fun c => s.sharedLoad c.val && s.recLive c.val)
    let out := l.flatMap (fun c => s.peerCounts c.val k)
    l.foldl (fun s f =>
      let c := f.val
      let s := s.setRecFlag c 4 true
      let s := match keeperNo.lookup f with
        | some n => s.putRec c 0x6C 4 n
        | none => s
      (s.markDirty c).updChan c (fun ch =>
        { ch with acc := {}, stepFed := ch.stepFed.filter (fun x => k ≤ x.1), outage := {}, peerReplaced := 0 }))
      (s.setLoad { s.load with peerSecond := sec, peerOut := out })

def execLedgerPeerSend (t : Nat) (s : State) (keeperNo : List (Fin 128 × Nat) := []) : Result :=
  eventAt t (fun s => s.peerSend keeperNo) s

/-- The two lists of fed samples as one, by SYNC_TIME step: the larger count of each. -/
def alignFed (a b : List (Nat × Nat)) : List (Nat × Nat) :=
  (b.foldl (fun m x => KMap.upd m 0 x.1 (max x.2)) (a.foldl (fun m x => KMap.put m x.1 x.2) ([] : KMap Nat)) : KMap Nat)

/-- The sum of the counts of a list of steps, and how often they leave 0; a step that is missing has the count 0. -/
def combineFed : List (Nat × Nat) → Nat → Bool → Nat × Nat
  | [], _, _ => (0, 0)
  | x :: t, p, b =>
    let r := combineFed t x.1 (x.2 != 0)
    (x.2 + r.1, r.2 + (x.2 != 0 && !(b && x.1 == p + 1)).toNat)

/-- The keeper takes the partner's counts of a load: its own channel, which PEER of either channel pairs with the other.
DESIGN CHOICE: notes/assumptions/22.md. -/
def State.peerReceive (s : State) (m : PeerCounts) : State :=
  let c := m.to_.val
  if s.hw.unitId ≠ 0 || !s.load.ledgRun || !s.sharedLoad c || !s.recLive c
      || s.regF (R.LSC_ID_CFG c) 30 24 ≠ m.from_.val then s
  else
    let ch := s.chan c
    let k := s.syncNs / 1000000000 * 1024
    let l := alignFed (ch.stepFed.filter (fun x => x.1 < k)) m.fed
    let r := if m.outage then (m.samples, m.closings) else combineFed l ch.fedStep ch.fedBefore
    let last := l.getLast?.getD (ch.fedStep, if ch.fedBefore then 1 else 0)
    let e := ch.acc.energyMj % 3600000 + m.energyMj
    let s := s.addCounts c { samples := r.1, closings := r.2, energyMj := e, byCause := m.trips, trips := m.trips.sum }
    let keep := ch.acc.energyMj - ch.acc.energyMj % 3600000 + e % 3600000
    let s := s.setChan c (if m.outage then { ch with acc := { ch.acc with energyMj := keep } }
      else { ch with acc := { ch.acc with energyMj := keep }, stepFed := ch.stepFed.filter (fun x => k ≤ x.1)
                     fedStep := last.1, fedBefore := last.2 != 0 })
    let s := ((s.putRec c 0x6C 4 m.loadNo).wearStep c).markDirty c
    let s := if m.outage then (s.setRecFlag c 5 true).raise ledgPage 5 else s
    if m.replaced = 0 then s else s.replaceLoad c m.replaced none []

def execLedgerPeerReceive (t : Nat) (ch : Fin 128) (fed : List (Nat × Nat)) (energyMj : Nat) (trips : List Nat) (outage : Bool)
    (s : State) (from_ : Fin 128 := 0) (samples closings loadNo replaced : Nat := 0) : Result :=
  eventAt t (fun s => s.peerReceive ⟨from_, ch, fed, energyMj, trips, outage, samples, closings, loadNo, replaced⟩) s

/-- Read-only registers of the LEDG page (R125). -/
def State.viewLedg (s : State) (off : Nat) : Option Word :=
  match off with
  | 0x48 => some (word (s.load.dirtyRecs.length * 65536 + s.load.ledgRestore.toNat * 2 + s.load.ledgRun.toNat))
  | 0x4C => some (word s.load.ledgSeq)
  | 0x50 => some (word (s.load.histCount * 65536 + s.load.histNext))
  | _ => none

end Sys2Proof.Machine
end

