-- ==== Sys2Proof/Machine/Can.lean ====
section
/-! DEFINITION. The meanings of the CAN commands (spec/07, R146 to R166). -/

namespace Sys2Proof.Machine

/-- A software access to the message buffer window (R147, R148). -/
def mbAt (a : Acc) (c m off : Nat) (write : Bool) (f : State → State) (s : State) : Result :=
  commandAt a.t (fun s =>
    let p := State.accPart a
    if (a.req.val = 19 && !s.sec.svcOpen) || (p != 0 && s.mbOwner c m != p) then
      s.violation a (0x31000000 + c * 0x100000 + m * 0x80 + off) write .notOwner
    else f s) s

/-- A write of MB_CMD; a REQ while the page is not ACTIVE is a bus error that changes nothing (R165). -/
def State.mbCmdWrite (s : State) (c m : Nat) (w : Word) : State :=
  if bit w 0 && !s.pageActive (canPage c) then s.busError .refused else (s.mbCommand c m w).done

def execReq (a : Acc) (ch : Fin 12) (mb : Fin 128) (s : State) : Result :=
  mbAt a ch mb 4 true (fun s => s.mbCmdWrite ch mb 1) s

def execMbCancel (a : Acc) (ch : Fin 12) (mb : Fin 128) (s : State) : Result :=
  mbAt a ch mb 4 true (fun s => s.mbCmdWrite ch mb 2) s

def execRelease (a : Acc) (ch : Fin 12) (mb : Fin 128) (s : State) : Result :=
  mbAt a ch mb 4 true (fun s => s.mbCmdWrite ch mb 4) s

def execCanConfigApply (t : Nat) (ch : Fin 12) (s : State) : Result :=
  eventAt t (fun s => if (s.can ch).pendingCfg && (s.can ch).tx.isNone then s.canApply ch else s) s

/-! ## Candidates and start of frame (R155, R156, R157) -/

/-- Whether a pair unit holds a partition's transmissions (R392). -/
def State.holdTx (s : State) (p : Nat) : Bool := s.regB (R.PAIR_PCFG p) 29 && s.pairHeld p

/-- The head of queue `q` reaches a final state and is read out (R155). -/
def State.txsFinal (s : State) (c q : Nat) : State :=
  match (s.queue q).visible with
  | [] => s
  | p :: rest => (s.txsLeaves c q p rest).txsSweep

/-- The buffers that contend (R156). -/
def State.contenders (s : State) (c : Nat) : List Nat :=
  (List.range 128).filter (fun m =>
    (s.mb c m).code == .txPending && (s.mb c m).eligible && !s.holdTx (s.mbOwner c m))

/-- The buffer that would win arbitration, the lower number on a tie (R156). -/
def State.bestBuffer (s : State) (c : Nat) : Option Nat :=
  (s.contenders c).foldl (fun best m =>
    match best with
    | none => some m
    | some b => if (mbFrame (s.mb c m).words).arb < (mbFrame (s.mb c b).words).arb then some m else some b) none

/-- LOCAL_TIME at the sample point of a start-of-frame bit driven now (R161). DEDUCED: notes/assumptions/36.md. -/
def State.sofStamp (s : State) (c : Nat) : Nat :=
  let n := (s.can c).nbt
  s.clk.lt + canNs ((fld n 7 0 + 1) * (1 + fld n 15 8 + 1))

/-- A buffer becomes TX_ACTIVE: its contents are latched and stamped (R150, R157, R161). -/
def State.startBuffer (s : State) (c m : Nat) : State :=
  let b := s.mb c m
  let st := s.sofStamp c
  let f := mbFrame b.words
  let ws := KMap.set (KMap.set b.words 0 0x20 (lowWord st)) 0 0x24 (highWord st)
  let s := s.setMb c m { b with code := .txActive, words := ws }
  s.setCan c { s.can c with tx := some ⟨.buffer m, f, st⟩ }

/-- The stream head becomes TX_ACTIVE. -/
def State.startStream (s : State) (c q : Nat) (p : Packet) : State :=
  let x := s.queue q
  let s := s.setQueue q { x with visible := { p with claimed := true } :: x.visible.drop 1 }
  let y := s.can c
  s.setCan c { y with tx := some ⟨.stream q, packetFrame p.data, s.sofStamp c⟩,
                      stream := { y.stream with code := .txActive, cancelLate := false } }

/-- A start of frame; `ecc` is what ECC finds in the cells of a stream head (R230).
DEDUCED: notes/assumptions/36.md. -/
def State.canSof (s : State) (c : Nat) (ecc : EccFound) : State :=
  if !s.canSends c || (s.can c).tx.isSome || !s.mayStart (canPage c) then s
  else
    let head := if s.holdTx (s.pageOwner (canPage c)) then none else s.txsHead c
    match s.bestBuffer c, head with
    | none, none => s
    | some m, none => s.startBuffer c m
    | none, some (q, p) => (s.cellFound ecc).startStream c q p
    | some m, some (q, p) =>
      if (packetFrame p.data).arb < (mbFrame (s.mb c m).words).arb then (s.cellFound ecc).startStream c q p
      else s.startBuffer c m

def execCanSof (t : Nat) (ch : Fin 12) (s : State) (ecc : EccFound := .clean) : Result :=
  eventAt t (fun s => s.canSof ch ecc) s

/-- CANCEL on the stream head (R155, R157). -/
def State.txsCancel (s : State) (c : Nat) : State :=
  let x := s.can c
  if x.stream.code == .txActive then s.setCan c { x with stream := { x.stream with cancelPending := true } }
  else match s.txsHead c with
    | some (q, _) => s.txsFinal c q
    | none => s

def execTxsCancel (a : Acc) (ch : Fin 12) (s : State) : Result :=
  writeTo a (R.CAN_TXSCMD ch) (fun s => s.txsCancel ch) s

/-! ## Reception (R151 to R154, R164) -/

/-- The stay-awake log takes a frame (R164). -/
def State.salLog (s : State) (c : Nat) (f : CanFrame) : State :=
  let x := s.can c
  if !x.salArmed then s
  else
    let only := s.regB (R.CAN_SAL_CTRL c) 1
    let ide := f.ide && !only
    let key := if only then f.id % 256 else f.id
    if x.sal.any (fun e => e.ide == ide && e.key == key) then
      s.setCan c { x with sal := x.sal.map (fun e =>
        if e.ide == ide && e.key == key then { e with count := satAdd 16 e.count 1 } else e) }
    else if 16 ≤ x.sal.length then s.setCan c { x with salFull := true }
    else
      let ms := min ((s.clk.lt - x.salSince) / 1000000) 65535
      (s.setCan c { x with sal := x.sal ++ [⟨ide, key, ms, 1⟩] }).raiseIf x.sal.isEmpty (canPage c) 10

/-- Word `k` of acceptance filter entry `e` in the copy in use (R153). -/
def State.filterWord (s : State) (c e k : Nat) : Word :=
  s.regionWord (32 + c) (0x30380000 + c * 0x1000 + 16 * e + 4 * k)

/-- Whether an entry matches a frame (R153). -/
def State.filterHits (s : State) (c : Nat) (f : CanFrame) (e : Nat) : Bool :=
  let w0 := s.filterWord c e 0
  let w1 := s.filterWord c e 1
  let w3 := s.filterWord c e 3
  bit w0 31 && ((mkF 28 0 f.id ^^^ w0) &&& w1 &&& 0x1FFFFFFF) == 0 && (!bit w1 31 || bit w0 29 == f.ide) &&
  (!f.xlf || !bit w3 31 || ((word f.vcid ^^^ word (fld w3 15 8)) &&& word (fld w3 7 0)) == 0)

/-- The words of a receive buffer after a store; the data bytes past the frame's length are free values (R151). -/
def State.storeWords (s : State) (f : CanFrame) (stamp : Nat) (ws : KMap Word) : KMap Word × State :=
  let fmt := word (f.len % 128 + f.vcid % 256 * 2 ^ 8 + f.fdf.toNat * 2 ^ 16 + f.brs.toNat * 2 ^ 17 + f.esi.toNat * 2 ^ 18
    + f.xlf.toNat * 2 ^ 19 + f.sec.toNat * 2 ^ 20 + f.sdt % 256 * 2 ^ 24)
  let ws := KMap.set (KMap.set (KMap.set ws 0 8 f.idWord) 0 0xC fmt) 0 0x10 (word f.af)
  let ws := KMap.set (KMap.set ws 0 0x20 (lowWord stamp)) 0 0x24 (highWord stamp)
  if f.data.length = 64 then (putMbBytes ws f.data, s)
  else let r := s.takeFree; (putMbBytes ws (f.data ++ leBytes (64 - f.data.length) r.1), r.2)

/-- A frame reaches receive buffer `m` (R151, R152, R256). -/
def State.storeFrame (s : State) (c m : Nat) (f : CanFrame) (stamp : Nat) : State :=
  let b := s.mb c m
  let cfg := s.reg (R.CAN_MBCFG c m)
  let full := b.code == .rxFull
  let s := s.raiseIf full (canPage c) 7
  if full && !bit cfg 2 then (s.setMb c m { b with overrun := true }).addF (R.CAN_CNT_RXDROP c) 31 0 1
  else
    let r := s.storeWords f stamp b.words
    let s := r.2.setMb c m { b with words := r.1, seq := (b.seq + 1) % 65536, code := .rxFull, overrun := b.overrun || full }
    let s := s.raiseIf (bit cfg 3) (canPage c) 0
    s.gwOffer { kind := 1, ch := c, direct := some (128 * c + m), keyId := f.idWord.toNat % 2 ^ 30, data := f.data,
                stamp := stamp, frame := some f }

/-- A frame goes to receive stream `n` (R154). -/
def State.streamFrame (s : State) (c n : Nat) (l : List Byte) : State :=
  let w := s.reg (R.CAN_RSCFG c n)
  let q := fld w 11 0
  if !bit w 31 || !s.ownQueue (canPage c) q then s
  else
    let r := s.writePacket q (canWriter c) (s.pageOwner (canPage c)) s.partColour l
    if r.2 then r.1 else (r.1.addF (R.CAN_RSDROP c n) 31 0 1).raise (canPage c) 8

/-- Where the acceptance filters send a frame (R153). -/
def State.filterFrame (s : State) (c : Nat) (f : CanFrame) (stamp : Nat) (own : Bool) : State :=
  match (List.range 256).find? (s.filterHits c f) with
  | none =>
    let w := s.reg (R.CAN_RXCFG c)
    if bit w 4 then s.streamFrame c (fld w 1 0) (canPacket c f stamp own false 0xFF) else s.addF (R.CAN_CNT_RXDROP c) 31 0 1
  | some e =>
    let w := s.filterWord c e 2
    let l := canPacket c f stamp own false e
    let s := s.when (bit w 29) (fun s => s.traceCan c l)
    let m := fld w 6 0
    if fld w 31 30 = 1 then
      if (s.mb c m).code.code < 8 || 64 < f.data.length then s.addF (R.CAN_CNT_RXDROP c) 31 0 1
      else s.storeFrame c m f stamp
    else if fld w 31 30 = 2 then s.streamFrame c (m % 4) l
    else s.addF (R.CAN_CNT_RXDROP c) 31 0 1

/-- A valid frame at its store point (R151, R159, R164, R257); `own` marks a loopback frame of the channel (R457). -/
def State.canReceive (s : State) (c : Nat) (f : CanFrame) (stamp : Nat) (own : Bool) : State :=
  let x := s.can c
  let s := s.addF (R.CAN_CNT_RX c) 31 0 1
  let rec' := if x.rec' = 0 then 0 else if x.rec' ≤ 127 then x.rec' - 1 else 120
  let s := s.when (x.confines c && !own) (fun s => s.setErrors c x.tec rec')
  let s := s.salLog c f
  let s := s.filterFrame c f stamp own
  if 64 < f.data.length then s
  else s.gwOffer { kind := 16, ch := c, keyId := f.idWord.toNat % 2 ^ 30, data := f.data, stamp := stamp, frame := some f }

/-- Whether the channel's configuration takes frames of a format. -/
def State.canTakes (s : State) (c : Nat) (f : CanFrame) : Bool :=
  let ctrl := (s.can c).ctrl
  (!f.fdf || bit ctrl 15) && (!f.xlf || bit ctrl 16)

def execCanRxFrame (t : Nat) (ch : Fin 12) (frame : CanFrame) (stamp : Nat) (s : State) : Result :=
  eventAt t (fun s =>
    if s.canLive ch && (s.can ch).mode ch != 4 && !(s.can ch).busOff && s.canTakes ch frame then
      s.canReceive ch frame stamp false
    else s) s

/-! ## The end of a transmission (R157, R159, R457) -/

/-- The buffer or stream head leaves TX_ACTIVE. -/
def State.txLeaves (s : State) (c : Nat) (tx : CanTx) (buffer stream : Nat → State → State) : State :=
  let s := s.setCan c { s.can c with tx := none }
  match tx.source with
  | .buffer m => (buffer m s).applyHeld c m
  | .stream q => stream q s

/-- A copy of a transmitted frame for the trace recorder (R167). -/
def State.traceTx (s : State) (c : Nat) (tx : CanTx) (err : Bool) : State :=
  s.when (bit (s.can c).ctrl 20) (fun s => s.traceCan c (canPacket c tx.frame tx.stamp true err 0xFF))

def State.canTxDone (s : State) (c : Nat) : State :=
  match (s.can c).tx with
  | none => s
  | some tx =>
    let x := s.can c
    let s := (s.addF (R.CAN_CNT_TX c) 31 0 1).setErrors c (x.tec - 1) x.rec'
    let s := s.traceTx c tx false
    let s := s.txLeaves c tx
      (fun m s => (s.setMb c m { s.mb c m with cancelLate := (s.mb c m).cancelPending }).mbFinal c m .txDone)
      (fun q s => (s.setCan c { s.can c with stream :=
        { (s.can c).stream with cancelLate := (s.can c).stream.cancelPending } }).txsFinal c q)
    if 4 ≤ x.mode c then s.canReceive c tx.frame tx.stamp true else s

/-- The loop delay measured at the FDF bit, or the ADS sequence, of the frame being sent, and with it the secondary sample
point of its data phase: the delay plus TDCO (R145). -/
def State.canDelay (s : State) (c : Nat) (d : Option (Fin 128)) : State :=
  let x := s.can c
  match d, x.tx with
  | some n, some tx =>
    if bit x.tdc 31 && (tx.frame.fdf || tx.frame.xlf) then s.setCan c { x with tdcv := n, ssp := n + fld x.tdc 6 0 } else s
  | _, _ => s

def execCanTxDone (t : Nat) (ch : Fin 12) (delay : Option (Fin 128)) (s : State) : Result :=
  eventAt t (fun s => (s.canDelay ch delay).canTxDone ch) s

/-- The head of queue `q` stays and contends again. -/
def State.txsAgain (s : State) (c q : Nat) : State :=
  let y := s.can c
  let s := s.setCan c { y with stream := { y.stream with code := .txIdle } }
  let x := s.queue q
  match x.visible with
  | [] => s
  | p :: t => (s.setQueue q { x with visible := { p with claimed := false } :: t }).txsSweep

def State.canLost (s : State) (c : Nat) : State :=
  match (s.can c).tx with
  | none => s
  | some tx => s.txLeaves c tx
      (fun m s => if (s.mb c m).cancelPending then s.mbFinal c m .txCancelled
        else s.setMb c m { s.mb c m with code := .txPending })
      (fun q s => if (s.can c).stream.cancelPending then s.txsFinal c q else s.txsAgain c q)

def execCanArbitrationLost (t : Nat) (ch : Fin 12) (s : State) : Result := eventAt t (fun s => s.canLost ch) s

/-- Whether one more attempt reaches RETRY_LIMIT (R157). -/
def CanChan.lastTry (x : CanChan) (attempts : Nat) : Bool :=
  let lim := fld x.ctrl 27 24
  lim != 0 && lim ≤ attempts + 1

/-- An error ends the frame being sent; `exempt` is an error for which ISO 11898-1:2024 leaves TEC as it is (R159). -/
def State.canTxError (s : State) (c lec : Nat) (dataPhase exempt : Bool) : State :=
  match (s.can c).tx with
  | none => s
  | some tx =>
    let x := s.can c
    let s := s.noteCanErr c lec dataPhase
    let s := s.when (!exempt) (fun s => s.setErrors c (x.tec + 8) x.rec')
    let s := s.traceTx c tx true
    s.txLeaves c tx
      (fun m s =>
        let b := s.mb c m
        if b.cancelPending then s.mbFinal c m .txCancelled
        else
          let s := s.setMb c m { b with attempts := satAdd 8 b.attempts 1, code := .txPending }
          if x.lastTry b.attempts then s.mbFinal c m .txFailed else s)
      (fun q s =>
        let b := (s.can c).stream
        if b.cancelPending || x.lastTry b.attempts then s.txsFinal c q
        else (s.setCan c { s.can c with stream := { b with attempts := satAdd 8 b.attempts 1 } }).txsAgain c q)

def execCanTxError (t : Nat) (ch : Fin 12) (lec : Fin 8) (dataPhase exempt : Bool)
    (s : State) (delay : Option (Fin 128) := none) : Result :=
  eventAt t (fun s => (s.canDelay ch delay).canTxError ch lec dataPhase exempt) s

/-- An error seen as receiver (R159, R457), or a protocol exception event (R167). -/
def State.canRxError (s : State) (c : Nat) (kind : CanRxErr) (lec : Nat) (dataPhase exempt : Bool) : State :=
  let x := s.can c
  if !s.canLive c || x.mode c = 4 then s
  else if kind == .protocolException && bit x.ctrl 18 then s.raise (canPage c) 11
  else
    let s := s.noteCanErr c (if kind == .protocolException then 2 else lec) dataPhase
    if !x.confines c || exempt then s
    else s.setErrors c x.tec (x.rec' + (if kind == .dominantAfterFlag then 8 else 1))

def execCanRxError (t : Nat) (ch : Fin 12) (kind : CanRxErr) (lec : Fin 8) (dataPhase exempt : Bool)
    (s : State) : Result :=
  eventAt t (fun s => s.canRxError ch kind lec dataPhase exempt) s

/-! ## Bus-off (R160) -/

def State.canRecover (s : State) (c : Nat) : State :=
  let x := s.can c
  if x.busOff && !bit x.ctrl 19 && !x.recovering then s.setCan c { x with recovering := true, recAt := s.clk.lt } else s

def execRecover (a : Acc) (ch : Fin 12) (s : State) : Result := writeTo a (R.CAN_CMD ch) (fun s => s.canRecover ch) s

/-- Recovery ends; it lasts 128 times 11 recessive bits at least. -/
def State.busOffEnd (s : State) (c : Nat) : State :=
  let x := s.can c
  if x.busOff && x.recovering && decide (x.recAt + canNs (128 * 11 * bitCycles x.nbt) ≤ s.clk.lt) then
    (s.setCan c { x with busOff := false, recovering := false, tec := 0, rec' := 0, warn := false }).raise (canPage c) 6
  else s

def execBusOffEnd (t : Nat) (ch : Fin 12) (s : State) : Result := eventAt t (fun s => s.busOffEnd ch) s

/-! ## Launch (R157, R162) -/

def State.canEligible (s : State) (c m : Nat) : State :=
  let b := s.mb c m
  match b.launch with
  | some (t, sync) => if b.code == .txPending && s.baseReached t sync then s.setMb c m { b with eligible := true } else s
  | none => s

def execCanLaunchEligible (t : Nat) (ch : Fin 12) (mb : Fin 128) (s : State) : Result :=
  eventAt t (fun s => s.canEligible ch mb) s

/-- DEDUCED: notes/assumptions/37.md. -/
def State.canLate (s : State) (c m : Nat) : State :=
  let b := s.mb c m
  match b.launch with
  | some (t, sync) => if b.code == .txPending && s.launchLate c t sync then s.failLate c m else s
  | none => s

def execLaunchLate (t : Nat) (ch : Fin 12) (mb : Fin 128) (s : State) : Result :=
  eventAt t (fun s => s.canLate ch mb) s

/-! ## Wake and the stay-awake log (R163, R164) -/

/-- Whether the transceivers stand in their wake receivers (R163, R346). -/
def State.busAsleep (s : State) : Bool := s.pwr.state == .park || s.pwr.state == .dormant || s.pwr.zsp.silent

def State.canWoke (s : State) (c : Nat) : State :=
  ((s.setCan c { s.can c with woke := true }).raise (canPage c) 9).wakeRequest .can c

def State.wakePattern (s : State) (c : Nat) : State :=
  let w := s.reg (R.CAN_WAKE c)
  if s.busAsleep && bit w 0 && (s.pwr.state != .dormant || bit w 2) then s.canWoke c else s

def execCanWakePattern (t : Nat) (ch : Fin 12) (s : State) : Result := eventAt t (fun s => s.wakePattern ch) s

def State.wakeFrame (s : State) (c : Nat) (f : CanFrame) : State :=
  let mask := s.reg (R.CAN_WUF_MASK c)
  let id := s.reg (R.CAN_WUF_ID c)
  let hit := ((mkF 28 0 f.id ^^^ id) &&& mask &&& 0x1FFFFFFF) == 0 && (!bit mask 29 || bit id 29 == f.ide)
  if s.pwr.state == .park && !canXl c && s.regB (R.CAN_WAKE c) 1 && !f.fdf && !f.xlf && hit then s.canWoke c else s

def execCanWakeFrame (t : Nat) (ch : Fin 12) (frame : CanFrame) (s : State) : Result :=
  eventAt t (fun s => s.wakeFrame ch frame) s

/-- A write of CAN_SAL_CTRL: ARMED = 1 clears and arms the log (R164). -/
def State.salWrite (s : State) (c : Nat) (w : Word) : State :=
  let s := s.putF (R.CAN_SAL_CTRL c) 1 0 (fld w 1 0)
  let x := s.can c
  if bit w 0 then s.setCan c { x with salArmed := true, salSince := s.clk.lt, salFull := false, sal := [] }
  else s.setCan c { x with salArmed := false }

def execSalArm (a : Acc) (ch : Fin 12) (saOnly : Bool) (s : State) : Result :=
  writeTo a (R.CAN_SAL_CTRL ch) (fun s => s.salWrite ch (setBit 1 1 saOnly)) s

/-! ## Page commands and what a commit does (R158, R165, R166) -/

/-- A committed direction of a buffer (R158). -/
def State.dirCommit (s : State) (c m : Nat) : State :=
  let b := s.mb c m
  let d := s.mbDir c m
  match b.code with
  | .txPending => (s.setMb c m { b with newDir := some d }).mbFinal c m .txCancelled
  | .txActive => s.setMb c m { b with newDir := some d, cancelPending := true }
  | _ => s.setMb c m { b with code := dirCode d, overrun := false }

/-- The work items of a CAN page: pending and active buffers and the stream head; `started` counts the active ones. -/
def State.canItems (s : State) (c : Nat) (started : Bool) : Nat :=
  let x := s.can c
  ((List.range 128).filter (fun m =>
    (s.mb c m).code == .txActive || (!started && (s.mb c m).code == .txPending))).length +
  (if x.stream.code == .txActive || (!started && (s.txsHead c).isSome) then 1 else 0)

/-- CANCEL on every buffer that meets a condition (R165). -/
def State.canSquash (s : State) (c : Nat) (which : Nat → Bool) (stream : Bool) : State :=
  let s := ((List.range 128).filter which).foldl (fun s m => s.mbCancel c m) s
  s.when stream (fun s => s.txsCancel c)

/-- A CAN page reset beyond R48 (R166). -/
def State.canReset (s : State) (c : Nat) : State :=
  let x := s.can c
  let s := match x.tx with
    | some ⟨.stream q, _, _⟩ => s.txsAgain c q
    | _ => s
  let x := s.can c
  let s := s.setCan c { x with
    tx := none, tec := 0, rec' := 0, busOff := false, recovering := false, warn := false, woke := false
    txDone := [], salArmed := false, salFull := false, sal := [], tdcv := 0, ssp := 0
    stream := { code := .txIdle, seq := x.stream.seq }
    mbs := x.mbs.map (fun e => (e.1, { code := dirCode (s.mbDir c e.1), seq := e.2.seq
                                       words := KMap.keep e.2.words (fun o => o ≠ 0x20 && o ≠ 0x24) })) }
  let s := s.putF (R.CAN_SAL_CTRL c) 1 0 0
  s.canApply c

/-- What the registers of a CAN page show. -/
def State.viewCan (s : State) (c off : Nat) : Option Word :=
  let x := s.can c
  let group (w : Nat) (f : Nat → Bool) : Word := wordOfBits ((List.range 32).filter (fun j => f (32 * w + j)))
  match off with
  | 0x4C => if canXl c then none else some 0
  | 0x50 => some (setFld (s.reg (R.CAN_TDC c)) 22 16 x.tdcv)
  | 0x54 =>
    let st := if x.busOff then 3 else if !s.canLive c then 0 else if x.passive then 2 else 1
    some (word (st + x.warn.toNat * 4 + x.tx.isSome.toNat * 8 + x.recovering.toNat * 16 + x.woke.toNat * 32
      + (x.cfgInvalid c).toNat * 2 ^ 31))
  | 0x58 => some (word (min x.tec 256 + min x.rec' 127 * 65536 + (decide (127 < x.rec')).toNat * 2 ^ 23))
  | 0x88 =>
    let b := x.stream
    let code := if b.code == .txActive then 3 else if (s.txsHead c).isSome then 2 else 1
    some (word (code + b.cancelLate.toNat * 16 + b.attempts * 256 + b.seq * 65536))
  | 0x9C => some (word (x.salArmed.toNat + fld (s.reg (R.CAN_SAL_CTRL c)) 1 1 * 2 + x.sal.length * 256 + x.salFull.toNat * 65536))
  | _ =>
    if 0xC0 ≤ off && off < 0x140 then
      match x.sal[(off - 0xC0) / 8]? with
      | none => some 0
      | some e => some (if off % 8 = 0 then setBit (setBit (mkF 28 0 e.key) 29 e.ide) 31 true
          else word (e.count + e.firstMs * 65536))
    else if 0x180 ≤ off && off < 0x190 then some (group ((off - 0x180) / 4) (fun m => (s.mb c m).code == .rxFull))
    else if 0x190 ≤ off && off < 0x1A0 then some (group ((off - 0x190) / 4) (fun m => x.txDone.contains m))
    else none

end Sys2Proof.Machine
end

