-- ==== Sys2Proof/Machine/Lin.lean ====
section
/-! DEFINITION. LIN channels (spec/07, R168 to R173). -/

namespace Sys2Proof.Machine

def linPage (l : Nat) : Nat := 49 + l / 2

/-- A LIN event of a channel: 0 FRAME, 1 ERROR, 2 BUS (R173). -/
def State.raiseLin (s : State) (l k : Nat) : State := s.raise (linPage l) (3 * (l % 2) + k)

def State.lbuf (s : State) (l i : Nat) : LinBuf := KMap.get (s.lin l).bufs {} i
def State.setLbuf (s : State) (l i : Nat) (b : LinBuf) : State :=
  s.setLin l { s.lin l with bufs := KMap.put (s.lin l).bufs i b }

/-- LIN_FCFG.DIR: 1 publish, 2 subscribe, 0 ignore. -/
def State.linDir (s : State) (l i : Nat) : Nat :=
  let d := s.regF (R.LIN_FCFG l i) 1 0
  if d = 3 then 0 else d

def State.linLen (s : State) (l i : Nat) : Nat := clamp 1 8 (s.regF (R.LIN_FCFG l i) 7 4)
def State.linBaud (s : State) (l : Nat) : Nat := clamp 1000 20000 (s.regF (R.LIN_CFG l) 31 16)

def LinBuf.data (b : LinBuf) : List Byte := leBytes 4 b.dataLo.toNat ++ leBytes 4 b.dataHi.toNat

/-- Data bytes written from byte 0 up. -/
def LinBuf.put (b : LinBuf) (d : List Byte) : LinBuf :=
  let all := (d ++ b.data.drop d.length).take 8
  { b with dataLo := word (leVal (all.take 4)), dataHi := word (leVal (all.drop 4)) }

def LinErr.code : LinErr → Nat
  | .none => 0 | .bit => 1 | .checksum => 2 | .parity => 3 | .framing => 4 | .sync => 5 | .noResponse => 6
  | .incomplete => 7 | .collision => 8

/-- An error of a frame: LAST_ERR, the buffer's ERR, LIN_ERRCNT and ERROR (R169, R173).
DEDUCED: notes/assumptions/38.md. -/
def State.linError (s : State) (l : Nat) (fid : Option Nat) (e : LinErr) : State :=
  let s := s.setLin l { s.lin l with lastErr := e }
  let s := match fid with
    | some i => s.setLbuf l i { s.lbuf l i with err := e }
    | none => s
  let s := if e == .noResponse || e == .incomplete then s.addF (R.LIN_ERRCNT l) 31 16 1 else s.addF (R.LIN_ERRCNT l) 15 0 1
  s.raiseLin l 1

/-- A channel enters SLEEP (R171). -/
def State.linSleep (s : State) (l : Nat) : State :=
  (s.setLin l { s.lin l with state := .sleep, frame := none, sleepAsked := false, slotEnd := 0 }).raiseLin l 2

/-! ## Protected identifiers, checksums and the latch (R168, R169) -/

/-- The protected identifier: the identifier with its two parity bits. PRESUMED: notes/assumptions/72.md. -/
def linPid (fid : Nat) : Nat :=
  let b (k : Nat) : Nat := fid / 2 ^ k % 2
  fid % 64 + (b 0 + b 1 + b 2 + b 4) % 2 * 64 + (1 - (b 1 + b 3 + b 4 + b 5) % 2) * 128

/-- The inverted sum of bytes with carry. PRESUMED: notes/assumptions/72.md. -/
def linSum (l : List Byte) : Byte :=
  BitVec.ofNat 8 (255 - l.foldl (fun n b => let x := n + b.toNat; if 256 ≤ x then x - 255 else x) 0)

/-- The checksum of a frame: classic for 0x3C and 0x3D and where CLASSIC = 1, else enhanced (R168). -/
def State.linChecksum (s : State) (l fid : Nat) (d : List Byte) : Byte :=
  if 60 ≤ fid || s.regB (R.LIN_FCFG l fid) 8 then linSum d else linSum (BitVec.ofNat 8 (linPid fid) :: d)

/-- Bits of a header that a master sends: BREAK_BITS, the delimiter, the sync byte and the protected identifier (R168).
DEDUCED: notes/assumptions/38.md. -/
def State.linHeaderBits (s : State) (l : Nat) : Nat := clamp 13 26 (s.regF (R.LIN_CFG l) 8 4) + 21

/-- The master pull-up is connected (R168). -/
def State.linPullUp (s : State) (l : Nat) : Bool := s.linMode l == 1 && s.regB (R.LIN_CFG l) 2

/-- A frame latches its response once its identifier has ended. DEDUCED: notes/assumptions/38.md. -/
def State.linLatch (s : State) (l : Nat) : State :=
  match (s.lin l).frame with
  | none => s
  | some f =>
    if f.data.isSome || decide (s.clk.lt < f.idEnd) then s
    else
      let d := if s.linDir l f.fid = 1 && !f.silent then (s.lbuf l f.fid).data.take (s.linLen l f.fid) else []
      s.setLin l { s.lin l with frame := some { f with data := some d, sum := s.linChecksum l f.fid d } }

/-! ## Commands (R170, R171) -/

def State.linSched (s : State) (l n : Nat) : State :=
  if s.linMode l = 1 then s.setLin l { s.lin l with want := some (if n < 4 then n else 7) } else s

def State.linSleepCmd (s : State) (l : Nat) : State :=
  if s.linMode l = 1 then s.setLin l { s.lin l with sleepAsked := true } else s

/-- LIN_CMD.WAKE: a dominant signal of 1,000 µs (R171). -/
def State.linWakeCmd (s : State) (l : Nat) : State :=
  let x := s.lin l
  if x.state != .sleep || s.pwr.zsp.silent then s
  else if s.linMode l = 1 then s.linMasterWake l
  else if s.linMode l = 2 && x.wakeBlock ≤ s.clk.lt then
    s.setLin l { x with state := .waking, wakes := 1, wakeAt := s.clk.lt, lastBus := s.clk.lt }
  else s

/-- A write of LIN_CMD (R173). -/
def State.linCmd (s : State) (l : Nat) (w : Word) : State :=
  let s := s.when (bit w 3) (fun s => s.linSched l (fld w 2 0))
  let s := s.when (bit w 4) (fun s => s.linSleepCmd l)
  s.when (bit w 5) (fun s => s.linWakeCmd l)

def execSched (a : Acc) (l : Fin 8) (table : Fin 8) (s : State) : Result :=
  writeTo a (R.LIN_CMD l) (fun s => s.linSched l table) s
def execSleep (a : Acc) (l : Fin 8) (s : State) : Result := writeTo a (R.LIN_CMD l) (fun s => s.linSleepCmd l) s
def execWake (a : Acc) (l : Fin 8) (s : State) : Result := writeTo a (R.LIN_CMD l) (fun s => s.linWakeCmd l) s

/-! ## The schedule of a master (R170) -/

/-- The frame whose header a master begins to send. -/
def State.linFrame (s : State) (l fid : Nat) : LinFrame :=
  { fid := fid, stamp := s.clk.lt, master := true, rate := s.linBaud l
    idEnd := s.clk.lt + s.linHeaderBits l * 1000000000 / s.linBaud l }

/-- A header of frame identifier `fid` begins (R168). -/
def State.linHeader (s : State) (l fid : Nat) (coll : Option Nat) : State :=
  if 62 ≤ fid then s.setLin l { s.lin l with frame := none }
  else s.setLin l { s.lin l with frame := some { s.linFrame l fid with coll := coll }, lastBus := s.clk.lt }

/-- A table's entries: START and LEN (R173). -/
def State.schedLen (s : State) (l t : Nat) : Nat := if t < 4 then min 64 (s.regF (R.LIN_SCHED l t) 14 8) else 0
def State.schedEntry (s : State) (l t place : Nat) : Nat := (s.regF (R.LIN_SCHED l t) 5 0 + place) % 64

/-- The length of the sporadic group that begins at a place of a table: up to its first entry with a slot length, or to
the last SPORADIC one. -/
def State.groupLen (s : State) (l t place : Nat) : Nat → Nat
  | 0 => 1
  | n + 1 =>
    let w := s.reg (R.LIN_ENTRY l (s.schedEntry l t place))
    let next := s.reg (R.LIN_ENTRY l (s.schedEntry l t (place + 1)))
    if fld w 23 16 != 0 || s.schedLen l t ≤ place + 1 || fld next 10 8 != 2 then 1
    else 1 + s.groupLen l t (place + 1) n

/-- The schedule moves `n` entries on within the table that runs. -/
def State.schedMove (s : State) (l n : Nat) : State :=
  let x := s.lin l
  match x.collRun with
  | some (t, p) => s.setLin l { x with collRun := if s.schedLen l t ≤ p + n then none else some (t, p + n) }
  | none =>
    let len := s.schedLen l x.sched
    s.setLin l { x with place := if len ≤ x.place + n then 0 else x.place + n }

/-- The slot of an entry of the table that runs, SLOT_MS long, that of a sporadic group as long as its last entry says
(R170). -/
def State.linEntry (s : State) (l t place : Nat) : State :=
  let e := s.schedEntry l t place
  let w := s.reg (R.LIN_ENTRY l e)
  let n := if fld w 10 8 = 2 then s.groupLen l t place 64 else 1
  let slot := max 1 (s.regF (R.LIN_ENTRY l (s.schedEntry l t (place + n - 1))) 23 16)
  let s := s.setLin l { s.lin l with entry := e, frame := none, slotEnd := s.clk.lt + slot * 1000000 }
  let fid := fld w 5 0
  match fld w 10 8 with
  | 0 => (s.schedMove l 1).linHeader l fid none
  | 1 => (s.schedMove l 1).linHeader l fid (some (fld w 25 24))
  | 2 =>
    let ids := (List.range n).map (fun k => s.regF (R.LIN_ENTRY l (s.schedEntry l t (place + k))) 5 0)
    let s := s.schedMove l n
    match ids.find? (fun i => s.linDir l i == 1 && (s.lbuf l i).updated) with
    | some i => s.linHeader l i none
    | none => s
  | 3 => (s.schedMove l 1).linHeader l 0x3C none
  | 4 => (s.schedMove l 1).linHeader l 0x3D none
  | _ => s.schedMove l 1

/-- The go-to-sleep command of R171. DEDUCED: notes/assumptions/38.md. -/
def sleepData : List Byte := (0x00 : Byte) :: List.replicate 7 (0xFF : Byte)

/-- The table asked for takes effect (R170). -/
def State.schedTake (s : State) (l : Nat) : State :=
  let x := s.lin l
  match x.want with
  | none => s
  | some t =>
    let t := if s.schedLen l t = 0 then 7 else t
    (s.setLin l { x with want := none, sched := t, place := 0, collRun := none }).raiseLin l 2

/-- A slot starts, once the one before it has ended. DEDUCED: notes/assumptions/38.md. -/
def State.linSlot (s : State) (l : Nat) : State :=
  let x := s.lin l
  if s.linMode l != 1 || x.state != .awake || s.holdTx (s.pageOwner (linPage l)) || decide (s.clk.lt < x.slotEnd) then s
  else if x.sleepAsked then
    let f : LinFrame := { s.linFrame l 0x3C with data := some sleepData, sum := linSum sleepData, sleepCmd := true }
    s.setLin l { x with sleepAsked := false, lastBus := s.clk.lt, frame := some f }
  else if s.pwr.zsp.silent then s
  else
    let s := s.schedTake l
    let x := s.lin l
    match x.collRun with
    | some (t, p) => if s.schedLen l t = 0 then s.setLin l { x with collRun := none } else s.linEntry l t p
    | none =>
      if x.sched = 7 then s.setLin l { x with frame := none }
      else if s.schedLen l x.sched = 0 then (s.setLin l { x with sched := 7, frame := none }).raiseLin l 2
      else s.linEntry l x.sched x.place

def execLinSlotStart (t : Nat) (l : Fin 8) (s : State) : Result := eventAt t (fun s => s.linSlot l) s

/-! ## Headers and responses (R168, R169) -/

/-- What is wrong with a header that a slave receives (R168). DEDUCED: notes/assumptions/38.md. -/
def State.headerFault (s : State) (l : Nat) (h : LinHeader) : LinErr :=
  match h.rate, h.pid with
  | none, _ => .sync
  | some r, p =>
    if 100 * r < 85 * s.linBaud l || 115 * s.linBaud l < 100 * r then .sync
    else match p with
      | none => .framing
      | some p => if p.toNat = linPid (p.toNat % 64) then .none else .parity

/-- A slave has received a break of at least 11 bits, a sync byte and an identifier (R168, R169). -/
def State.linHeaderRx (s : State) (l : Nat) (h : LinHeader) (stamp : Nat) : State :=
  let x := s.lin l
  let fid := (h.pid.getD 0).toNat % 64
  if s.linMode l != 2 || x.state == .sleep || x.state == .off || h.breakBits < 11 then s
  else
    let s := s.setLin l { x with state := .awake, wakes := 0, lastBus := s.clk.lt, frame := none }
    let err := s.headerFault l h
    if err != .none then s.linError l none err
    else if 62 ≤ fid then s
    else
      let silent := s.holdTx (s.pageOwner (linPage l)) || s.pwr.zsp.silent
      (s.setLin l { s.lin l with frame := some { fid := fid, stamp := stamp, master := false, rate := h.rate.getD 0
                                                 idEnd := s.clk.lt, silent := silent } }).linLatch l

def execLinHeaderRx (t : Nat) (l : Fin 8) (rate : Option Nat) (pid : Option Byte) (stamp : Nat) (s : State)
    (breakBits : Nat := 11) : Result :=
  eventAt t (fun s => s.linHeaderRx l ⟨breakBits, rate, pid⟩ stamp) s

/-- A response of this channel has been sent (R169). -/
def State.linSent (s : State) (l : Nat) (f : LinFrame) : State :=
  if f.sleepCmd then s.linSleep l
  else
    let b := s.lbuf l f.fid
    (s.setLbuf l f.fid { b with updated := false, seq := (b.seq + 1) % 65536, stamp := f.stamp }).when
      (s.regB (R.LIN_FCFG l f.fid) 9) (fun s => s.raiseLin l 0)

/-- A response of another node is complete (R169, R171, R256). -/
def State.linStore (s : State) (l : Nat) (f : LinFrame) (d : List Byte) : State :=
  let s := if s.linDir l f.fid = 2 then
      let b := (s.lbuf l f.fid).put (d.take (s.linLen l f.fid))
      let s := s.setLbuf l f.fid { b with new := true, seq := (b.seq + 1) % 65536, stamp := f.stamp }
      let s := s.when (s.regB (R.LIN_FCFG l f.fid) 9) (fun s => s.raiseLin l 0)
      s.gwOffer { kind := 2, ch := l, direct := some (1536 + 64 * l + f.fid), keyId := f.fid,
                  data := d.take (s.linLen l f.fid), stamp := f.stamp }
    else s
  if s.linMode l = 2 && f.fid = 0x3C && d = sleepData then s.linSleep l else s

/-- The end of a response (R168, R169, R170). -/
def State.linResponse (s : State) (l : Nat) (r : LinResp) : State :=
  let s := s.linLatch l
  match (s.lin l).frame with
  | none => s
  | some f =>
    let s := s.setLin l { s.lin l with frame := none, lastBus := s.clk.lt }
    let clash (s : State) (t : Nat) : State := (s.setLin l { s.lin l with collRun := some (t, 0) }).linError l (some f.fid) .collision
    match r with
    | .complete d sum =>
      if !(f.data.getD []).isEmpty then s.linSent l f
      else if sum = s.linChecksum l f.fid d then s.linStore l f d
      else match f.coll with
        | some t => clash s t
        | none => s.linError l (some f.fid) .checksum
    | .collision => match f.coll with
        | some t => clash s t
        | none => s.linError l (some f.fid) .collision
    | .bitError => s.linError l (some f.fid) .bit
    | .framing => s.linError l (some f.fid) .framing

def execLinResponseRx (t : Nat) (l : Fin 8) (resp : LinResp) (s : State) : Result :=
  eventAt t (fun s => s.linResponse l resp) s

/-- A master's frame that is not complete within its limit (R170). -/
def State.linTimeout (s : State) (l : Nat) (some' : Bool) : State :=
  match (s.lin l).frame with
  | none => s
  | some f =>
    let limit := (44 + 10 * s.linLen l f.fid) * 1400000000 / f.rate
    if f.master && f.stamp + limit ≤ s.clk.lt then
      (s.setLin l { s.lin l with frame := none }).linError l (some f.fid) (if some' then .incomplete else .noResponse)
    else s

def execLinFrameTimeout (t : Nat) (l : Fin 8) (someByte : Bool) (s : State) : Result :=
  eventAt t (fun s => s.linTimeout l someByte) s

/-! ## Sleep and wake (R171) -/

def State.linBusWake (s : State) (l : Nat) : State :=
  let x := s.lin l
  if x.state != .sleep || s.linMode l = 0 then s
  else
    let s := if s.linMode l = 1 then s.linMasterWake l
      else s.setLin l { x with state := .awake, lastBus := s.clk.lt, wakes := 0 }
    let s := s.raiseLin l 2
    s.when (s.regB (R.LIN_CFG l) 3) (fun s => s.wakeRequest .lin l)

def execLinBusWake (t : Nat) (l : Fin 8) (s : State) : Result := eventAt t (fun s => s.linBusWake l) s

def State.linIdle (s : State) (l : Nat) : State :=
  let x := s.lin l
  if s.linMode l = 2 && x.state == .awake && x.lastBus + clamp 4 10 (s.regF (R.LIN_CFG l) 15 12) * 1000000000 ≤ s.clk.lt then
    s.linSleep l
  else s

def execLinIdleSleep (t : Nat) (l : Fin 8) (s : State) : Result := eventAt t (fun s => s.linIdle l) s

/-- DEDUCED: notes/assumptions/38.md. -/
def State.linRetry (s : State) (l : Nat) : State :=
  let x := s.lin l
  if s.linMode l != 2 || x.state != .waking || s.clk.lt < x.wakeAt + 150000000 then s
  else if x.wakes < 3 then s.setLin l { x with wakes := x.wakes + 1, wakeAt := s.clk.lt }
  else (s.setLin l { x with state := .sleep, wakeFail := true, wakes := 0, wakeBlock := s.clk.lt + 1500000000 }).raiseLin l 2

def execLinWakeRetry (t : Nat) (l : Fin 8) (s : State) : Result := eventAt t (fun s => s.linRetry l) s

def State.linResume (s : State) (l : Nat) : State :=
  let x := s.lin l
  match x.resumeAt with
  | some r => if s.linMode l = 1 && r ≤ s.clk.lt then
      s.setLin l { x with state := .awake, resumeAt := none, place := 0, collRun := none, slotEnd := 0 } else s
  | none => s

def execLinScheduleResume (t : Nat) (l : Fin 8) (s : State) : Result := eventAt t (fun s => s.linResume l) s

/-! ## Frame buffers (R169) -/

/-- A software access to the LIN frame buffer window. -/
def lfbAt (a : Acc) (l i off : Nat) (write : Bool) (f : State → State) (s : State) : Result :=
  commandAt a.t (fun s =>
    let p := State.accPart a
    if (a.req.val = 19 && !s.sec.svcOpen) || !s.mayOwn p (linPage l) then
      s.violation a (0x32000000 + l * 0x10000 + i * 0x20 + off) write .notOwner
    else f s) s

/-- LFB_CMD (R169). -/
def State.lfbCmd (s : State) (l i : Nat) (w : Word) : State :=
  let s := s.when (bit w 0 && s.linDir l i == 1) (fun s => s.setLbuf l i { s.lbuf l i with updated := true })
  s.when (bit w 1) (fun s => s.setLbuf l i { s.lbuf l i with new := false })

def execUpdate (a : Acc) (l : Fin 8) (i : Fin 64) (s : State) : Result :=
  lfbAt a l i 4 true (fun s => (s.lfbCmd l i 1).done) s
def execLfbRelease (a : Acc) (l : Fin 8) (i : Fin 64) (s : State) : Result :=
  lfbAt a l i 4 true (fun s => (s.lfbCmd l i 2).done) s

/-- The gateway writes a publish buffer; none where it is not one (R272). -/
def State.linWrite (s : State) (l i : Nat) (f : List Byte → List Byte) (update : Bool) : Option State :=
  if s.linDir l i != 1 then none
  else
    let s := s.linLatch l
    let b := s.lbuf l i
    some (s.setLbuf l i { b.put (f b.data) with updated := b.updated || update })

/-! ## Commits, page resets and registers -/

/-- A commit of a LIN page, `old` being the state before it: what a frame has latched stays, and a change of MODE starts or
stops the channel. DEDUCED: notes/assumptions/38.md. -/
def State.linCommit (s : State) (l : Nat) (old : State) : State :=
  if old.linMode l = s.linMode l then s.setLin l { s.lin l with frame := ((old.linLatch l).lin l).frame }
  else s.setLin l { s.lin l with
    state := if s.linMode l = 0 then .off else .awake, frame := none, lastBus := s.clk.lt, sched := 7, place := 0
    collRun := none, want := none, sleepAsked := false, wakes := 0, resumeAt := none, slotEnd := 0 }

/-- A LIN page reset beyond R48 (R172). -/
def State.linReset (s : State) (l : Nat) : State :=
  let x := s.lin l
  s.setLin l { state := if s.linMode l = 0 then .off else .awake, sched := x.sched, want := x.want, lastBus := s.clk.lt
               bufs := x.bufs.map (fun e => (e.1, { seq := e.2.seq, dataLo := e.2.dataLo, dataHi := e.2.dataHi })) }

def LinState.code : LinState → Nat
  | .off => 0 | .sleep => 1 | .awake => 2 | .waking => 3

/-- LIN_STAT. -/
def State.linStat (s : State) (l : Nat) : Word :=
  let x := s.lin l
  word (x.state.code + x.sched * 16 + x.wakeFail.toNat * 128 + x.entry * 256 + x.lastErr.code * 65536)

/-- A word of a LIN frame buffer. -/
def LinBuf.wordAt (b : LinBuf) (off : Nat) : Word :=
  match off with
  | 0 => word (b.new.toNat + b.updated.toNat * 2 + b.err.code * 16 + b.seq * 65536)
  | 0x8 => b.dataLo
  | 0xC => b.dataHi
  | 0x10 => lowWord b.stamp
  | 0x14 => highWord b.stamp
  | _ => 0

end Sys2Proof.Machine
end

