-- ==== Sys2Proof/Machine/Gateway.lean ====
section
/-! DEFINITION. The signal gateway: admission, route jobs, containers, frames of P25 and page commands (spec/11, R256 to
R275, R285, R287 to R289). -/

namespace Sys2Proof.Machine

def State.setGw (s : State) (g : Gateway) : State := { s with gway := g }

/-! ## Owners (R258, R263) -/

/-- The owner of an event's source is partition `q`. -/
def State.ownsSource (s : State) (q : Nat) (e : GwEvent) : Bool :=
  let n := e.direct.getD 0
  let o := match e.kind with
    | 1 => s.mbOwner (n / 128) (n % 128)
    | 2 => s.pageOwner (linPage ((n - 1536) / 64))
    | 3 => s.pageOwner (33 + (n - 2048) / 16)
    | 4 => s.pageOwner (33 + (n - 2112) / 24)
    | 5 => s.pageOwner (33 + (n - 2208) / 4)
    | 6 => s.pageOwner (33 + (n - 2224))
    | 7 => s.pageOwner (lscPage (n - 2304))
    | 16 => s.pageOwner (canPage e.ch)
    | 17 => s.pageOwner 82
    | 21 => s.pageOwner 111
    | _ => s.groupOwner e.group
  o == q

/-- The sink fields of word 2 of a route entry. -/
def sinkKind (w2 : Word) : Nat := fld w2 31 28
def sinkInst (w2 : Word) : Nat := fld w2 27 24
def sinkIdx (w2 : Word) : Nat := fld w2 23 12

/-- The sink of a route is owned by `q` (R258); `src` is the group of the source entry. -/
def State.ownsSink (s : State) (q src : Nat) (w2 : Word) : Bool :=
  let i := sinkIdx w2
  match sinkKind w2 with
  | 1 => s.mbOwner (sinkInst w2) i == q
  | 2 => s.pageOwner (linPage (sinkInst w2)) == q
  | 3 => s.pageOwner (lscPage i) == q
  | 4 => s.queueOwner i == q || (isMsgQueue i && bit (s.qcfgA i) 29)
  | 5 => s.groupOwner (s.regF (R.TUN_CFG i) 24 17) == q
  | 6 => s.groupOwner src == q
  | _ => true

/-! ## Admission (R262 to R266) -/

def State.slot (s : State) (n : Nat) : Word := KMap.get s.gway.slots 0 n
def State.setSlot (s : State) (n : Nat) (w : Word) : State :=
  s.setGw { s.gway with slots := KMap.set s.gway.slots 0 n w }

/-- TRIG: whether the event is admitted, and its slot (R265). DESIGN CHOICE: notes/assumptions/41.md. -/
def State.trigger (s : State) (w3 : Word) (e : GwEvent) : Bool × State :=
  let k := fld w3 11 0
  match fld w3 31 30 with
  | 1 =>
    let c := word (crc32 (e.data ++ leBytes 4 e.data.length))
    if c = s.slot k then (false, s) else (true, s.setSlot k c)
  | 2 =>
    let n := max 1 (fld w3 27 16)
    let c := (s.slot k).toNat
    (c = 0, s.setSlot k (word (if n ≤ c + 1 then 0 else c + 1)))
  | _ => (true, s)

/-- The entries of a chain, at most 64, and why the rest is dropped, with the entry concerned (R262). -/
def chainOf (m : KMap Word) : Nat → Nat → List Nat × Option (GwDrop × Nat)
  | 0, i => ([], some (.chain, i))
  | n + 1, i =>
    if gwType m i != 2 then ([], some (.cfg, i))
    else if bit (gwEntry m i 1) 27 then ([i], none)
    else
      let r := chainOf m n (fld (gwEntry m i 1) 16 0)
      (i :: r.1, r.2)

/-- GW_GROUP_EN of a group. -/
def State.groupOn (s : State) (g : Nat) : Bool := s.regB (R.GW_GROUP_EN (g / 32)) (g % 32)

/-- An event is admitted under source entry `i`: its route jobs follow those already waiting.
DEDUCED: notes/assumptions/42.md. -/
def State.admitChain (s : State) (q i : Nat) (e : GwEvent) : State :=
  let m := s.gwSet.active
  let g := gwGroup m i
  let c := chainOf m 64 (fld (gwEntry m i 2) 16 0)
  let jobs := c.1.map (fun k =>
    { event := e, source := i, entry := k, colour := s.gwSet.colour, owner := q, group := g
      rights := s.groupOwner (gwGroup m k) == q && s.ownsSink q g (gwEntry m k 2) : RouteJob })
  let jobs := match jobs with
    | [] => []
    | j :: t => j :: t.map (fun x => { x with first := false })
  let s := s.setGw { s.gway with jobs := s.gway.jobs ++ jobs }
  match c.2 with
  | none => s
  | some (r, k) => s.gwDrop r k

/-- The ECC of the gateway tables fails for an event or a job: the drop comes with ECC_UNCORR (R288).
DESIGN CHOICE: notes/assumptions/64.md. -/
def State.gwEcc (s : State) : State := s.raise gw0Page 2

/-- The gateway admits the event at the head of its queue. DEDUCED: notes/assumptions/42.md. -/
def State.gwAdmit (s : State) (ecc : EccFound) : State :=
  match s.gway.queue with
  | [] => s
  | e :: t =>
    if !s.regB R.GW_CTRL 0 || !s.pageActive gw0Page then s
    else
      let s := s.setGw { s.gway with queue := t }
      if ecc = .uncorrectable then (s.gwDropOffer .ecc e).gwEcc else
      match gwLookup s.gwSet.active e with
      | none => s
      | some i =>
        let g := gwGroup s.gwSet.active i
        let q := s.groupOwner g
        if !s.groupOn g then s
        else if q != 0 && !s.ownsSource q e then s.gwDrop .rights i
        else
          let r := s.trigger (gwEntry s.gwSet.active i 3) e
          if r.1 then r.2.admitChain q i e else r.2

def execGwEventAdmit (t : Nat) (ecc : EccFound) (s : State) : Result := eventAt t (fun s => s.gwAdmit ecc) s

/-! ## Bit fields and conversion (R270, R271) -/

/-- The bit numbers of a field, least significant first. -/
def fieldBits (start len : Nat) (be : Bool) : List Nat :=
  if !be then (List.range len).map (fun k => start + k)
  else
    ((List.range len).foldl (fun (x : List Nat × Nat) _ =>
      (x.2 :: x.1, if x.2 % 8 = 0 then x.2 + 15 else x.2 - 1)) ([], start)).1

/-- A bit of a byte list. -/
def dataBit (d : List Byte) (b : Nat) : Bool := (d.getD (b / 8) 0).toNat.testBit (b % 8)

/-- A byte list with one bit replaced. -/
def putBit (d : List Byte) (b : Nat) (v : Bool) : List Byte :=
  let x := (d.getD (b / 8) 0).toNat
  let m := 2 ^ (b % 8)
  d.set (b / 8) (BitVec.ofNat 8 (if x.testBit (b % 8) = v then x else if v then x + m else x - m))

/-- The raw value of a field. -/
def fieldValue (d : List Byte) (bits : List Nat) : Nat :=
  bits.reverse.foldl (fun n b => 2 * n + (dataBit d b).toNat) 0

/-- A byte list with a field replaced. -/
def putField (d : List Byte) (bits : List Nat) (v : Nat) : List Byte :=
  (bits.zip (List.range bits.length)).foldl (fun d x => putBit d x.1 (v.testBit x.2)) d

/-- A raw value that SAE J1939-71 reserves, under NA_SKIP (R271). -/
def notAvailable (len raw : Nat) : Bool :=
  if len = 2 then 2 ≤ raw
  else if len = 8 || len = 16 || len = 24 || len = 32 then 0xFB ≤ raw / 2 ^ (len - 8) else false

/-- y before it is cut to the destination (R271). -/
def convert (w0 w3 : Word) (len raw : Nat) : Int :=
  let x : Int := if bit w0 15 then signed len raw else raw
  x * signed 16 (fld w3 31 16) / (2 ^ fld w0 27 24 : Nat) + signed 16 (fld w3 15 0)

/-- y as the destination takes it. -/
def saturate (w0 : Word) (y : Int) : Int :=
  let n := fld w0 20 16 + 1
  if bit w0 22 then
    if bit w0 15 then max (-((2 ^ (n - 1) : Nat) : Int)) (min ((2 ^ (n - 1) : Nat) - 1) y)
    else max 0 (min ((2 ^ n : Nat) - 1) y)
  else (unsigned n y : Nat)

/-! ## Containers (R273) -/

def State.container (s : State) (c : Nat) : Container := KMap.get s.gway.containers {} c
def State.setContainer (s : State) (c : Nat) (x : Container) : State :=
  s.setGw { s.gway with containers := KMap.put s.gway.containers c x }

/-- FMT of an enabled container in a direction; none where it is not enabled. -/
def State.tunFmt (s : State) (c : Nat) (rx : Bool) : Option Nat :=
  let w := s.reg (R.TUN_CFG c)
  let f := fld w 29 28
  if c < 32 && bit w 31 && bit w 30 == rx && f != 3 && !(rx && f == 2) then some f else none

/-- The header of a container's payload: NTSCF, TSCF or none (IEEE 1722). PRESUMED: notes/assumptions/40.md. -/
def OpenFrame.avtp (f : OpenFrame) (seq body : Nat) (sync : Option Nat) : List Byte :=
  match fld f.cfg 29 28 with
  | 0 => beBytes 1 0x82 ++ beBytes 2 (0x8000 + body % 2048) ++ beBytes 1 seq ++ beBytes 8 f.sid
  | 1 => beBytes 1 0x05 ++ beBytes 1 (0x80 + sync.isSome.toNat) ++ beBytes 1 seq ++ beBytes 1 0 ++ beBytes 8 f.sid
      ++ beBytes 4 (sync.getD 0 % 2 ^ 32) ++ beBytes 4 0 ++ beBytes 2 body ++ beBytes 2 0
  | _ => []

/-- The frame as it is handed to P25, without FCS. PRESUMED: notes/assumptions/40.md. -/
def OpenFrame.bytes (f : OpenFrame) (seq : Nat) (sync : Option Nat) : List Byte :=
  let vid := fld f.cfg 11 0
  padTo 60 (beBytes 6 (f.da % 2 ^ 48) ++ beBytes 6 (f.sa % 2 ^ 48)
    ++ (if vid = 0 then [] else beBytes 2 0x8100 ++ beBytes 2 (fld f.cfg 15 13 * 8192 + vid))
    ++ beBytes 2 f.etype ++ f.avtp seq f.body.length sync ++ f.body)

/-- Length of a container frame with FCS, with `n` bytes of messages. -/
def OpenFrame.lenWith (f : OpenFrame) (n : Nat) : Nat :=
  18 + (if fld f.cfg 11 0 = 0 then 0 else 4) + (f.avtp 0 0 none).length + n

/-- A sink write of an event has completed: GW_LAT_MAX (R288). DEDUCED: notes/assumptions/42.md. -/
def State.noteLatency (s : State) (e : GwEvent) : State :=
  s.setReg R.GW_LAT_MAX (word (max (s.reg R.GW_LAT_MAX).toNat (min (s.clk.lt - e.offered) 0xFFFFFFFF)))

/-- A container's open frame is given up: its jobs drop (R273, R285). -/
def State.discardOpen (s : State) (c : Nat) : State :=
  let x := s.container c
  match x.open' with
  | none => s
  | some f => f.jobs.foldl (fun s j => s.gwDrop .sinkState j.entry) (s.setContainer c { x with open' := none })

/-- A container's open frame is closed and handed to P25 as a received frame. -/
def State.closeContainer (s : State) (c : Nat) : State :=
  let x := s.container c
  match x.open' with
  | none => s
  | some f =>
    if !s.portEn 25 || !s.pageActive 82 then (s.discardOpen c).raise gw1Page 1
    else
      let seq := if x.seen then (x.seq + 1) % 256 else 0
      let s := (s.setContainer c { x with open' := none, seq := seq, seen := true }).addF (R.TUN_CNT c) 15 0 1
      let s := s.rxWhole 25 s.clk.lt (f.bytes seq (if s.syncValid then some s.syncNs else none)) true none none none
      f.jobs.foldl (fun s j => s.noteLatency j.event) s

/-- A container opens a frame under the values its registers hold now. -/
def State.openContainer (s : State) (c : Nat) : State :=
  let cfg := s.reg (R.TUN_CFG c)
  let f : OpenFrame :=
    { cfg := cfg, batch := s.reg (R.TUN_BATCH c), da := s.regPair (R.TUN_DA_LO c) (R.TUN_DA_HI c)
      sid := s.regPair (R.TUN_SID_LO c) (R.TUN_SID_HI c), sa := s.regPair R.GW_MAC_LO R.GW_MAC_HI
      etype := if fld cfg 29 28 = 2 then s.regF R.GW_PDU_CFG 15 0 else 0x22F0, opened := s.clk.lt }
  s.setContainer c { s.container c with open' := some f }

/-- A message joins a container; the frame closes when it is full, or at once where there is no window. -/
def State.addMessage (s : State) (c : Nat) (j : RouteJob) (msg : List Byte) : State :=
  let s := match (s.container c).open' with
    | some f => if s.maxLen 25 < f.lenWith (f.body.length + msg.length) then s.closeContainer c else s
    | none => s
  let s := if (s.container c).open'.isSome then s else s.openContainer c
  let x := s.container c
  match x.open' with
  | none => s
  | some f =>
    let f := { f with body := f.body ++ msg, jobs := f.jobs ++ [j] }
    let s := s.setContainer c { x with open' := some f }
    if max 1 (fld f.batch 31 24) ≤ f.jobs.length || fld f.batch 17 0 = 0 then s.closeContainer c else s

/-- The batching window of a container's frame ends. -/
def State.containerDue (s : State) (c : Nat) : State :=
  match (s.container c).open' with
  | some f => if f.opened + fld f.batch 17 0 * 1000 ≤ s.clk.lt then s.closeContainer c else s
  | none => s

def execContainerClose (t : Nat) (c : Fin 32) (s : State) : Result := eventAt t (fun s => s.containerDue c) s

/-- One ACF message (IEEE 1722): type and length in quadlets, then flags, bus and body, padded to a quadlet.
PRESUMED: notes/assumptions/40.md. -/
def acfMessage (type flags : Nat) (rest : List Byte) (pad : Nat) : List Byte :=
  beBytes 2 (type * 512 + (4 + rest.length + pad) / 4 % 512) ++ beBytes 2 (pad * 16384 + flags % 16384) ++ rest
    ++ List.replicate pad 0

/-- Padding to a quadlet. -/
def quadPad (n : Nat) : Nat := (4 - n % 4) % 4

/-- The identifier of a frame, right-justified in 29 bits. -/
def CanFrame.plainId (f : CanFrame) : Nat := if f.ide then f.id % 2 ^ 29 else f.id / 2 ^ 18 % 2048

/-- The ACF message of a TUNNEL route, `mtv` the time it carries; none where the type does not suit the source (R273). -/
def acfOf (e : GwEvent) (acf bus : Nat) (mtv : Option Nat) : Option (List Byte) :=
  let stampBytes := beBytes 8 (mtv.getD 0)
  let m := mtv.isSome.toNat * 2 ^ 13
  match e.frame with
  | some f =>
    let flags := m + f.rtr.toNat * 2 ^ 12 + f.ide.toNat * 2 ^ 11 + f.brs.toNat * 2 ^ 10 + f.fdf.toNat * 2 ^ 9
      + f.esi.toNat * 2 ^ 8 + bus
    let id := beBytes 4 f.plainId
    if acf = 0 then some (acfMessage 1 flags (stampBytes ++ id ++ f.data) (quadPad f.data.length))
    else if acf = 1 then
      some (acfMessage 2 (flags - m) (id ++ f.data) (quadPad f.data.length))
    else none
  | none =>
    if acf = 2 && e.kind = 2 then
      some (acfMessage 3 (m + bus * 256 + ((e.direct.getD 1536 - 1536) % 64)) (stampBytes ++ e.data) (quadPad e.data.length))
    else none

/-! ## Route jobs (R259, R269 to R274) -/

/-- A CAN source, whose datum is a whole CAN frame. -/
def GwEvent.isCan (e : GwEvent) : Bool := e.kind = 1 || e.kind = 16 || e.kind = 18

/-- Whether a route kind joins a source kind and a sink kind (R258, R259); containers are checked apart. -/
def routeValid (rkind kind : Nat) (w2 : Word) : Bool :=
  let i := sinkIdx w2
  let n := sinkInst w2
  let named : Bool := match sinkKind w2 with
    | 1 => n < 12 && i < 128
    | 2 => n < 8 && i < 64
    | 3 => i < 128
    | 4 => true
    | 5 => i < 32
    | 6 => i < 256
    | _ => false
  let fits : Bool := match rkind with
    | 0 => [1, 16, 2, 17, 18, 19, 21].contains kind && [1, 2, 4, 5].contains (sinkKind w2)
    | 1 => [1, 2, 3, 4].contains (sinkKind w2)
    | 2 => [1, 16, 2].contains kind && sinkKind w2 == 5
    | _ => kind == 20 && [6, 4].contains (sinkKind w2)
  named && fits

/-- How a route job ends: its sink is written, a queue refuses its packet, it is dropped, it is skipped, or it waits in a
container. -/
inductive RouteEnd where
  | wrote (s : State)
  | refused (s : State)
  | dropped (r : GwDrop)
  | skipped
  | held (s : State)

/-- A packet in the layout of R154, or in the gateway layout (R272). -/
def gwPacket (s : State) (e : GwEvent) (signal : Option Int) : List Byte × State :=
  match signal, e.isCan, e.frame with
  | none, true, some f =>
    let ch := (match e.direct with | some n => n / 128 | none => e.ch)
    (canPacket (ch % 16) f e.stamp false false 0xFE, s)
  | _, _, _ =>
    let d := match signal with | some y => leBytes 4 (unsigned 32 y) | none => e.data
    let k : (Nat × Nat) × State := match e.direct with
      | some _ =>
        let f := s.takeFree
        let g := f.2.takeFree
        ((f.1, g.1), g.2)
      | none => ((e.keyId, e.ch), s)
    (leBytes 8 e.stamp ++ leBytes 4 k.1.1
      ++ leBytes 4 (d.length % 65536 + k.1.2 % 256 * 2 ^ 16 + e.kind % 64 * 2 ^ 24) ++ d, k.2)

/-- One packet is written into a queue sink. -/
def State.routeQueue (s : State) (q : Nat) (e : GwEvent) (owner : Nat) (signal : Option Int) : RouteEnd :=
  let p := gwPacket s e signal
  let r := p.2.writePacket q 5 owner p.2.partColour p.1
  if r.2 then .wrote r.1 else .refused r.1

/-- The identifier word a FRAME route writes (R269): `old` is the buffer's. -/
def routeId (w0 old : Word) (e : GwEvent) : Word :=
  let base := match e.frame with | some f => f.idWord | none => old
  match fld w0 31 30 with
  | 1 => setFld (setBit base 29 (bit w0 29)) 28 0 (fld w0 28 0)
  | 2 => if bit base 29 then setFld base 7 0 (fld w0 7 0) else setFld base 25 18 (fld w0 7 0)
  | _ => base

/-- FDF and BRS a FRAME route writes. -/
def routeFmt (w3 fmt : Word) (e : GwEvent) : Bool × Bool :=
  match fld w3 1 0 with
  | 1 => (false, false)
  | 2 => (true, false)
  | 3 => (true, true)
  | _ => match e.frame with
    | some f => (f.fdf, f.brs)
    | none => (bit fmt 16, bit fmt 17)

/-- A FRAME route into a CAN transmit buffer. DEDUCED: notes/assumptions/42.md. -/
def State.frameToCan (s : State) (e : GwEvent) (w0 w2 w3 : Word) : RouteEnd :=
  let c := sinkInst w2
  let m := sinkIdx w2
  let fmt := routeFmt w3 ((s.mb c m).wordAt 0xC) e
  let len := match e.frame with | some f => f.len | none => e.data.length
  if (if fmt.1 then 64 else 8) < len then .dropped .length
  else
    let put (ws : KMap Word) : KMap Word :=
      let f := KMap.get ws 0 0xC
      let ws := KMap.set ws 0 8 (routeId w0 (KMap.get ws 0 8) e)
      let ws := KMap.set ws 0 0xC (setFld (setBit (setBit f 16 fmt.1) 17 fmt.2) 6 0 len)
      putMbBytes ws e.data
    match s.mbWrite c m put (bit w2 2) with
    | some s => .wrote s
    | none => .dropped .sinkState

/-- A PDU joins a container of format PDU. -/
def State.frameToPdu (s : State) (j : RouteJob) (w0 w2 : Word) : RouteEnd :=
  .held (s.addMessage (sinkIdx w2) j
    (beBytes 4 w0.toNat ++ beBytes 4 j.event.data.length ++ j.event.data))

/-- The checks every route into a container makes; `pdu` is the format its route kind needs (R259, R273, R285).
DEDUCED: notes/assumptions/42.md. -/
def State.containerFault (s : State) (c : Nat) (pdu : Bool) : Option GwDrop :=
  match s.tunFmt c false with
  | none => some .sinkState
  | some f => if (f = 2) ≠ pdu then some .cfg else if !s.pageActive gw1Page then some .sinkState else none

/-- A FRAME route (R269). -/
def State.routeFrame (s : State) (j : RouteJob) (w0 w2 w3 : Word) : RouteEnd :=
  match sinkKind w2 with
  | 1 => s.frameToCan j.event w0 w2 w3
  | 2 =>
    if 8 < j.event.data.length then .dropped .length
    else match s.linWrite (sinkInst w2) (sinkIdx w2)
        (fun d => j.event.data ++ d.drop j.event.data.length) (bit w2 2) with
      | some s => .wrote s
      | none => .dropped .sinkState
  | 4 => s.routeQueue (sinkIdx w2) j.event j.owner none
  | _ => match s.containerFault (sinkIdx w2) true with
    | some r => .dropped r
    | none => if 1492 < j.event.data.length then .dropped .length else s.frameToPdu j w0 w2

/-- A SIGNAL route (R270 to R272). DEDUCED: notes/assumptions/42.md. -/
def State.routeSignal (s : State) (j : RouteJob) (w0 w2 w3 : Word) : RouteEnd :=
  let len := fld w0 13 9 + 1
  let src := fieldBits (fld w0 8 0) len (bit w0 14)
  let d := j.event.data
  if src.any (fun b => 8 * d.length ≤ b) then .dropped .length
  else
    let raw := fieldValue d src
    if bit w0 23 && notAvailable len raw then .skipped
    else
      let y := convert w0 w3 len raw
      let dst := fieldBits (fld w2 11 3) (fld w0 20 16 + 1) (bit w0 21)
      let v := unsigned 32 (saturate w0 y)
      match sinkKind w2 with
      | 1 =>
        if dst.any (512 ≤ ·) then .dropped .length
        else match s.mbWrite (sinkInst w2) (sinkIdx w2) (fun ws => putMbBytes ws (putField (mbBytes ws) dst v)) (bit w2 2) with
          | some s => .wrote s
          | none => .dropped .sinkState
      | 2 =>
        if dst.any (64 ≤ ·) then .dropped .length
        else match s.linWrite (sinkInst w2) (sinkIdx w2) (fun x => putField x dst v) (bit w2 2) with
          | some s => .wrote s
          | none => .dropped .sinkState
      | 3 => .wrote (s.gwWriteChan (sinkIdx w2) (max 0 (min 65535 y)).toNat)
      | _ => s.routeQueue (sinkIdx w2) j.event j.owner (some (saturate w0 y))

/-- A TUNNEL route (R273). -/
def State.routeTunnel (s : State) (j : RouteJob) (w0 w2 : Word) : RouteEnd :=
  match s.containerFault (sinkIdx w2) false with
  | some r => .dropped r
  | none =>
    if (j.event.frame.map (fun f => f.xlf)).getD false then .dropped .length
    else
      let mtv := if bit w0 10 && s.syncValid then some (s.toSync j.event.stamp) else none
      match acfOf j.event (fld w0 9 8) (fld w0 4 0) mtv with
      | some m => .held (s.addMessage (sinkIdx w2) j m)
      | none => .dropped .cfg

/-- An UNTUNNEL route (R274). -/
def State.routeUntunnel (s : State) (j : RouteJob) (w2 : Word) : RouteEnd :=
  let e := j.event
  if sinkKind w2 = 4 then s.routeQueue (sinkIdx w2) e j.owner none
  else
    let v := sinkIdx w2
    match e.acf with
    | some (.can _ f _) =>
      .wrote (s.gwOffer { kind := 18, ch := v, keyId := f.idWord.toNat % 2 ^ 30, data := f.data, stamp := e.stamp,
                          frame := some f, group := j.group })
    | some (.lin _ fid d) =>
      .wrote (s.gwOffer { kind := 19, ch := v, keyId := fid, data := d, stamp := e.stamp, group := j.group })
    | none => .dropped .cfg

/-- What one route job does. DEDUCED: notes/assumptions/42.md. -/
def State.routeRun (s : State) (j : RouteJob) : RouteEnd :=
  let m := s.gwSet.copyOf j.colour
  let w (k : Nat) : Word := gwEntry m j.entry k
  let rkind := fld (w 1) 29 28
  if !routeValid rkind j.event.kind (w 2) then .dropped .cfg
  else if !j.rights then .dropped .rights
  else match rkind with
    | 0 => s.routeFrame j (w 0) (w 2) (w 3)
    | 1 => s.routeSignal j (w 0) (w 2) (w 3)
    | 2 => s.routeTunnel j (w 0) (w 2)
    | _ => s.routeUntunnel j (w 2)

/-- The first waiting route job may run (R47, R285). -/
def State.jobMayRun (s : State) (j : RouteJob) : Bool :=
  s.mayStart gw0Page || ((s.page gw0Page).mode == .quiescing && !j.first)

/-- The first waiting route job is executed. -/
def State.routeJob (s : State) (ecc : EccFound) : State :=
  match s.gway.jobs with
  | [] => s
  | j :: t =>
    if !s.jobMayRun j then s
    else
      let s := s.setGw { s.gway with jobs := t }
      if ecc = .uncorrectable then (s.gwDrop .ecc j.entry).gwEcc else
      match s.routeRun j with
      | .wrote s => (s.addF R.GW_JOBS 31 0 1).noteLatency j.event
      | .held s => s.addF R.GW_JOBS 31 0 1
      | .skipped => s.addF R.GW_JOBS 31 0 1
      | .refused s => s.gwDrop .queue j.entry
      | .dropped r => s.gwDrop r j.entry

def execGwRouteJob (t : Nat) (ecc : EccFound) (s : State) : Result := eventAt t (fun s => s.routeJob ecc) s

/-! ## Frames of P25 (R274, R275) -/

/-- A drop that no entry concerns. DESIGN CHOICE: notes/assumptions/43.md. -/
def State.gwDropFree (s : State) (r : GwDrop) : State :=
  let f := s.takeFree
  f.2.gwDrop r (f.1 % 131072)

/-- An ACF message of type 1, 2 or 3 as an event of container `c`; none for another type.
PRESUMED: notes/assumptions/40.md. -/
def acfEvent (c group stamp : Nat) (msg : List Byte) : Option GwEvent :=
  let type := be msg 0 1 / 2
  let flags := be msg 2 2
  let pad := flags / 16384
  let can (at' : Nat) (brief : Bool) : GwEvent :=
    let eff := flags.testBit 11
    let d := (msg.drop (at' + 4)).take (msg.length - (at' + 4) - pad)
    let id := be msg at' 4 % 2 ^ 29
    let fdf := flags.testBit 9
    let f : CanFrame := { id := if eff then id else id % 2048 * 2 ^ 18, ide := eff, rtr := flags.testBit 12, fdf := fdf,
                          brs := flags.testBit 10, esi := flags.testBit 8, len := d.length, data := d }
    { kind := 20, ch := c, keyId := 256 + flags % 32, data := msg, stamp := stamp, acf := some (.can (flags % 32) f brief),
      group := group }
  match type with
  | 1 => some (can 12 false)
  | 2 => some (can 4 true)
  | 3 =>
    let bus := flags / 256 % 32
    let d := (msg.drop 12).take (msg.length - 12 - pad)
    some { kind := 20, ch := c, keyId := 512 + bus, data := msg, stamp := stamp, acf := some (.lin bus (flags % 64) d), group := group }
  | _ => none

/-- The ACF messages of a container frame become events. -/
def State.acfMessages (s : State) (c group stamp : Nat) : Nat → List Byte → State
  | 0, _ => s
  | n + 1, b =>
    if b.length < 4 then s
    else
      let len := 4 * (be b 0 2 % 512)
      if len = 0 || b.length < len then s.gwDropFree .length
      else
        let s := match acfEvent c group stamp (b.take len) with
          | some e => s.gwOffer e
          | none => s.gwDropFree .unknown
        s.acfMessages c group stamp n (b.drop len)

/-- A frame for receive container `c`: its sequence number, then its messages. -/
def State.containerRx (s : State) (c seq stamp : Nat) (msgs : List Byte) : State :=
  let x := s.container c
  let missed := if x.seen then (seq + 255 - x.seq) % 256 else 0
  let s := s.setContainer c { x with seq := seq, seen := true }
  let s := ((s.addF (R.TUN_CNT c) 31 16 missed).addF (R.TUN_CNT c) 15 0 1).raiseIf (missed != 0) gw1Page 0
  s.acfMessages c (s.regF (R.TUN_CFG c) 24 17) stamp (msgs.length + 1) msgs

/-- The PDUs of a PDU frame become events (R275). PRESUMED: notes/assumptions/40.md. -/
def State.pdus (s : State) (stamp : Nat) : Nat → List Byte → State
  | 0, _ => s
  | n + 1, b =>
    if b.length < 8 then s
    else
      let len := be b 4 4
      if 1492 < len || b.length < 8 + len then s.gwDropFree .length
      else
        let s := s.gwOffer { kind := 17, keyId := be b 0 4, data := (b.drop 8).take len, stamp := stamp }
        s.pdus stamp n (b.drop (8 + len))

/-- A frame read from P25. -/
def State.p25Frame (s : State) (stamp : Nat) (b : List Byte) : State :=
  let o := etypeOff b
  let etype := be b o 2
  let p := b.drop (o + 2)
  let sub := be p 0 1
  if etype = 0x22F0 && (sub = 0x82 || sub = 0x05) then
    let tscf := sub = 0x05
    let seq := if tscf then be p 2 1 else be p 3 1
    let len := if tscf then be p 20 2 else be p 1 2 % 2048
    match (List.range 32).find? (fun c =>
        (s.tunFmt c true).isSome && s.regPair (R.TUN_SID_LO c) (R.TUN_SID_HI c) == be p 4 8) with
    | some c => s.containerRx c seq stamp ((p.drop (if tscf then 24 else 12)).take len)
    | none => s.gwDropFree .unknown
  else if etype = s.regF R.GW_PDU_CFG 15 0 then s.pdus stamp (p.length + 1) p
  else s.gwDropFree .unknown

/-- A frame of P25 that the gateway can read: it has arrived whole, and its launch time has come (R308). -/
def State.p25Ready (s : State) (q : Nat) : Bool :=
  match (s.queue q).visible with
  | p :: _ => (p.copy.map (fun m => !m.arriving && s.copyReady 25 m)).getD true
  | [] => false

/-- The gateway reads the head frame of the highest stream queue of P25; `ecc` is what ECC finds in its cells. A frame with
an error ends with the inverted FCS, and the gateway takes nothing from it (R212).
PRESUMED: notes/assumptions/40.md. -/
def State.p25In (s : State) (ecc : EccFound) : State :=
  match ((List.range 8).map (fun k => 207 - k)).find? s.p25Ready with
  | none => s
  | some q => match s.readPacket q ecc with
    | none => s
    | some (p, s) =>
      let s := s.noteLaunch 25 s.clk.lt p
      let bad := !p.errs.isEmpty || (p.copy.map (·.stomped)).getD false
      let s := match p.copy with
        | none => s
        | some m =>
          let x := s.port 25
          let s := (s.setPort 25 { x with txBytes := (x.txBytes + m.len) % 2 ^ 64 }).addF (R.SWP_TX_FRAMES 25) 31 0 1
          s.txMirror 25 p { m with stomped := bad }
      if bad then s else s.p25Frame p.born p.data

def execGwP25FrameIn (t : Nat) (s : State) (ecc : EccFound := .clean) : Result := eventAt t (fun s => s.p25In ecc) s

/-! ## Groups, slots and page commands (R264, R265, R285, R287) -/

/-- The admitted route jobs, those that wait in containers among them. -/
def State.allJobs (s : State) : List RouteJob :=
  s.gway.jobs ++ s.gway.containers.flatMap (fun x => (x.2.open'.map (fun f => f.jobs)).getD [])

/-- The last admitted job of a draining group has left. DEDUCED: notes/assumptions/42.md. -/
def State.groupDone (s : State) (g : Nat) : State :=
  if s.gway.draining.contains g && !s.allJobs.any (fun j => j.group == g) then
    (s.setGw { s.gway with draining := s.gway.draining.erase g }).raise gw0Page 1
  else s

def execGroupDone (t : Nat) (g : Fin 256) (s : State) : Result := eventAt t (fun s => s.groupDone g) s

/-- GW_SLOT_CLR. -/
def State.slotClear (s : State) (w : Word) : State :=
  if bit w 31 then s.setGw { s.gway with slots := [] } else s.setSlot (fld w 11 0) 0

def execGwSlotClr (a : Acc) (all : Bool) (slot : Fin 4096) (s : State) : Result :=
  writeTo a R.GW_SLOT_CLR (fun s => s.slotClear (mkF 31 31 all.toNat ||| mkF 11 0 slot)) s

/-- GW_GROUP_EN has changed at a commit edge (R264). -/
def State.groupCommit (s old : State) : State :=
  (List.range 256).foldl (fun s g =>
    if s.groupOn g && !old.groupOn g then s.setGw { s.gway with draining := s.gway.draining.erase g }
    else if !s.groupOn g && old.groupOn g then
      if s.allJobs.any (fun j => j.group == g) then s.setGw { s.gway with draining := insertSorted s.gway.draining g }
      else s.raise gw0Page 1
    else s) s

/-- PAGE_INFLIGHT of GW0: admitted events, or those whose first job has run (R285). -/
def State.gwItems (s : State) (started : Bool) : Nat :=
  let begun : Nat := match s.gway.jobs with
    | j :: _ => (!j.first).toNat
    | [] => 0
  if started then begun else begun + (s.gway.jobs.filter (fun j => j.first)).length

/-- SQUASH of GW0; whether something was discarded. -/
def State.gwSquash (s : State) : State × Bool :=
  let jobs := s.gway.jobs
  let events := s.gway.queue
  let s := s.setGw { s.gway with jobs := [], queue := [] }
  let s := jobs.foldl (fun s j => s.gwDrop .pageState j.entry) s
  (events.foldl (fun s e => s.gwDropOffer .pageState e) s, !jobs.isEmpty || !events.isEmpty)

/-- A reset of GW0, beyond the counters of R48. -/
def State.gwReset (s : State) : State :=
  s.setGw { s.gway with queue := [], jobs := [], slots := [], draining := [], lastReason := none, lastEntry := 0 }

/-- Open container frames, the work items of GW1. -/
def State.openFrames (s : State) : List Nat :=
  (s.gway.containers.filter (fun x => x.2.open'.isSome)).map (fun x => x.1)

/-- DRAIN of GW1 closes the open frames at once. -/
def State.tunDrain (s : State) : State := s.openFrames.foldl (fun s c => s.closeContainer c) s

/-- SQUASH of GW1 discards them. -/
def State.tunSquash (s : State) : State := s.openFrames.foldl (fun s c => s.discardOpen c) s

/-- A reset of GW1. -/
def State.tunReset (s : State) : State := s.tunSquash.setGw { s.tunSquash.gway with containers := [] }

/-- A reason with which a partition reset drops a route job: the spec names none. -/
def dropOf (n : Nat) : GwDrop :=
  ([GwDrop.admitFull, .pageState, .rights, .cfg, .length, .sinkState, .queue, .chain, .ecc, .unknown]).getD (n % 10) .unknown

/-- A partition reset drops the route jobs of its groups that have not written their sink (R287).
DESIGN CHOICE: notes/assumptions/43.md. -/
def State.gwPartReset (s : State) (mine : Nat → Bool) : State :=
  let out := s.gway.jobs.filter (fun j => mine j.group)
  let s := s.setGw { s.gway with jobs := s.gway.jobs.filter (fun j => !mine j.group) }
  out.foldl (fun s j => let f := s.takeFree; f.2.gwDrop (dropOf f.1) j.entry) s

/-- GW_STAT.BUSY: the engine has a route job that it may execute (R288, R285). -/
def State.gwBusy (s : State) : Bool :=
  match s.gway.jobs with
  | [] => false
  | j :: _ => s.jobMayRun j

/-- Read-only registers of GW0 and GW1. -/
def State.viewGw (s : State) (i off : Nat) : Option Word :=
  if i = 0 then
    if off = 0x44 then some (mkF 10 0 s.gway.queue.length ||| mkF 31 31 s.gwBusy.toNat)
    else if off = 0x4C then
      some (mkF 31 28 ((s.gway.lastReason.map GwDrop.code).getD 0) ||| mkF 16 0 s.gway.lastEntry)
    else if 0xA0 ≤ off && off < 0xC0 then
      some (wordOfBits ((List.range 32).filter (fun k => s.gway.draining.contains (8 * (off - 0xA0) + k))))
    else none
  else if 0x100 ≤ off && off < 0x500 && off % 0x20 = 0x18 then
    let x := s.container ((off - 0x100) / 0x20)
    some (mkF 31 31 x.open'.isSome.toNat ||| mkF 23 16 ((x.open'.map (fun f => f.jobs.length)).getD 0) ||| mkF 7 0 x.seq)
  else none

end Sys2Proof.Machine
end

