-- ==== Sys2Proof/Machine/Tpe.lean ====
section
/-! DEFINITION. The J1939 transport engine (spec/11, R276 to R287, R290). The layouts of the transport frames are those of
SAE J1939-21 (PRESUMED, notes/assumptions). -/

namespace Sys2Proof.Machine

def tpePage : Nat := 111

def State.setTpe (s : State) (x : Tpe) : State := { s with tpe := x }
def State.sess (s : State) (k : Nat) : Session := KMap.get s.tpe.sessions {} k
def State.setSess (s : State) (k : Nat) (x : Session) : State :=
  s.setTpe { s.tpe with sessions := KMap.put s.tpe.sessions k x }

/-! ## Configuration (R277 to R280) -/

def State.tpeRxq (s : State) (n : Nat) : Nat := s.regF (R.TPE_CHQ n) 11 0
def State.tpeTxq (s : State) (n : Nat) : Nat := s.regF (R.TPE_CHQ n) 27 16

/-- The engine serves channel `n` (R277, R278). -/
def State.tpeServes (s : State) (n : Nat) : Bool :=
  s.tpeOn && s.regB (R.TPE_CHCFG n) 31 && isMsgQueue (s.tpeRxq n) && isMsgQueue (s.tpeTxq n)

/-- An enabled address of channel `n`. -/
def State.ownAddr (s : State) (n addr : Nat) : Bool :=
  (List.range 4).any (fun k => s.regB (R.TPE_CHCFG n) (24 + k) && s.regF (R.TPE_CHADDR n) (8 * k + 7) (8 * k) == addr)

def State.pktsPerCts (s : State) : Nat := max 1 (s.regF R.TPE_TIMING 23 16)
def State.tpRetry (s : State) : Nat := s.regF R.TPE_TIMING 27 24
def State.dtGapNs (s : State) : Nat := min 50 (s.regF R.TPE_TIMING 15 8) * 1000000
def State.bamGapNs (s : State) : Nat := clamp 50 200 (s.regF R.TPE_TIMING 7 0) * 1000000

/-- Length of a timer in ns (R280). -/
def TpTimer.ns : TpTimer → Nat
  | .none => 0 | .t1 => 750000000 | .t2 => 1250000000 | .t3 => 1250000000 | .t4 => 1050000000

/-- The packets of a message. -/
def Session.total (x : Session) : Nat := ceilDiv x.size 7

/-- Where a session's data lies (R277). DEDUCED: notes/assumptions/44.md. -/
def State.sessArea (s : State) (k : Nat) : Nat := s.tpeArea + 65536 * k

/-! ## Frames (SAE J1939-21) -/

/-- The identifier of a frame of parameter format `pf`. -/
def j1939Id (prio pf ps sa : Nat) : Nat := prio % 8 * 2 ^ 26 + pf * 2 ^ 16 + ps % 256 * 256 + sa % 256

/-- PRESUMED: notes/assumptions/40.md. -/
def tpFrame (prio pf ps sa : Nat) (d : List Byte) : CanFrame :=
  { id := j1939Id prio pf ps sa, ide := true, len := d.length, data := d }

/-- Bytes of a frame from numbers. -/
def bytesOf (l : List Nat) : List Byte := l.map (fun n => BitVec.ofNat 8 n)

/-- Parameter format of control frames: TP.CM or ETP.CM. PRESUMED: notes/assumptions/40.md. -/
def TpMode.cm : TpMode → Nat
  | .etp => 0xC8 | _ => 0xEC

/-- A Conn_Abort (R281). PRESUMED: notes/assumptions/40.md. -/
def abortFrame (etp : Bool) (own peer pgn reason : Nat) : CanFrame :=
  tpFrame 7 (if etp then 0xC8 else 0xEC) peer own (bytesOf [255, reason, 255, 255, 255] ++ leBytes 3 pgn)

/-- The data packet `n` of a message of `size` bytes at `area`, its number within the window's offset `dpo`. -/
def State.dtBytes (s : State) (area size n dpo : Nat) : List Byte :=
  let at' := 7 * (n - 1)
  let d := s.readBytes (area + at') (min 7 (size - at'))
  leBytes 1 (n - dpo) ++ d ++ List.replicate (7 - d.length) (0xFF : Byte)

/-- The frame a session has to send. -/
def State.sessFrame (s : State) (k : Nat) (x : Session) (what : TpSend) : Option CanFrame :=
  let cm (prio : Nat) (l : List Byte) : Option CanFrame := some (tpFrame prio x.mode.cm x.peer x.own (l ++ leBytes 3 x.pgn))
  match what with
  | .none => none
  | .start =>
    match x.mode with
    | .bam => cm x.prio (bytesOf [32] ++ leBytes 2 x.size ++ bytesOf [x.total, 255])
    | .rts => cm x.prio (bytesOf [16] ++ leBytes 2 x.size ++ bytesOf [x.total, 255])
    | .etp => cm x.prio (bytesOf [20] ++ leBytes 4 x.size)
  | .dpo => cm x.prio (bytesOf [22, x.window + 1 - x.next] ++ leBytes 3 x.dpo)
  | .data => some (tpFrame x.prio (x.mode.cm - 1) x.peer x.own (s.dtBytes (s.sessArea k) x.size x.next x.dpo))
  | .cts n next =>
    match x.mode with
    | .etp => cm 7 (bytesOf [21, n] ++ leBytes 3 next)
    | _ => cm 7 (bytesOf [17, n, next, 255, 255])
  | .eoma =>
    match x.mode with
    | .etp => cm 7 (bytesOf [23] ++ leBytes 4 x.size)
    | _ => cm 7 (bytesOf [19] ++ leBytes 2 x.size ++ bytesOf [x.total, 255])

/-! ## The transmit buffer (R277) -/

/-- A session may send: its page lets it start, or it has started (R47, R286). -/
def State.sessMaySend (s : State) (x : Session) : Bool :=
  s.mayStart tpePage || ((s.page tpePage).mode == .quiescing && x.started)

/-- The session of channel `n` that sends next: the lowest slot with a frame to send.
DEDUCED: notes/assumptions/44.md. -/
def State.nextSess (s : State) (n : Nat) : Option (Nat × Session) :=
  s.tpe.sessions.find? (fun x => x.2.state != .free && x.2.ch == n && x.2.send != .none && s.sessMaySend x.2)

/-- A frame is written into the channel's transmit buffer with a request. -/
def State.tpWrite (s : State) (n : Nat) (f : CanFrame) : Option State :=
  s.mbWrite n (s.regF (R.TPE_CHCFG n) 6 0) (fun ws => classicWords f.id f.data ws) true

/-- The next frame of a channel is requested, when none of the engine's is in its buffer. -/
def State.tpPump (s : State) (n : Nat) : State :=
  if (KMap.get? s.tpe.flight n).isSome || !s.tpeServes n then s
  else match s.tpe.extra.find? (fun e => e.1 == n) with
    | some e => match s.tpWrite n e.2 with
      | none => s
      | some s => s.setTpe { s.tpe with extra := s.tpe.extra.erase e, flight := KMap.put s.tpe.flight n ⟨none, .none⟩ }
    | none => match s.nextSess n with
      | none => s
      | some (k, x) => match (s.sessFrame k x x.send).bind (fun f => s.tpWrite n f) with
        | none => s
        | some s =>
          (s.setTpe { s.tpe with flight := KMap.put s.tpe.flight n ⟨some k, x.send⟩ }).setSess k
            { x with send := .none, started := true, gapUntil := none }

/-! ## How sessions end (R281 to R283) -/

/-- TPE_LAST_ABORT and TPE_LAST_PGN, and ABORT. DEDUCED: notes/assumptions/44.md. -/
def State.noteAbort (s : State) (k : Nat) (loc sent : Bool) (ch peer reason pgn : Nat) : State :=
  (s.setTpe { s.tpe with
    lastAbort := word (k % 256 * 2 ^ 24 + loc.toNat * 2 ^ 21 + sent.toNat * 2 ^ 20 + ch * 2 ^ 16 + peer % 256 * 256
      + reason % 256)
    lastPgn := pgn % 2 ^ 18 }).raise tpePage 2

/-- A slot becomes free; a frame of it in the transmit buffer belongs to no session. -/
def State.freeSess (s : State) (k reason : Nat) : State :=
  let x := s.sess k
  let s := s.setSess k { ch := x.ch, peer := x.peer, mode := x.mode, tx := x.tx, reason := reason }
  match KMap.get? s.tpe.flight x.ch with
  | some f => if f.sess = some k then s.setTpe { s.tpe with flight := KMap.put s.tpe.flight x.ch ⟨none, f.what⟩ } else s
  | none => s

/-- An abort frame is owed to a peer. -/
def State.oweAbort (s : State) (n : Nat) (etp : Bool) (own peer pgn reason : Nat) : State :=
  (s.setTpe { s.tpe with extra := s.tpe.extra ++ [(n, abortFrame etp own peer pgn reason)] }).addF R.TPE_ABORT_SENT 31 0 1

/-- Abort r, or Discard of a BAM session (R281). DEDUCED: notes/assumptions/44.md. -/
def State.abortSess (s : State) (k reason : Nat) : State :=
  let x := s.sess k
  if x.mode == .bam then s.freeSess k x.reason
  else
    ((s.freeSess k reason).noteAbort k false true x.ch x.peer reason x.pgn).oweAbort x.ch (x.mode == .etp) x.own x.peer
      x.pgn reason

/-- A session ends without an abort frame, its own transmission having failed (R277). -/
def State.failSess (s : State) (k : Nat) : State :=
  let x := s.sess k
  (s.freeSess k x.reason).noteAbort k true false x.ch x.peer 0 x.pgn

/-- The lowest free slot. DEDUCED: notes/assumptions/44.md. -/
def State.freeSlot (s : State) : Option Nat := (List.range 256).find? (fun k => (s.sess k).state == .free)

/-- The open session of a channel between two addresses in a direction, by what kind of transport. -/
def State.findSess (s : State) (n own peer : Nat) (tx : Bool) (m : TpMode → Bool) : Option (Nat × Session) :=
  s.tpe.sessions.find? (fun x =>
    x.2.state != .free && x.2.ch == n && x.2.own == own && x.2.peer == peer && x.2.tx == tx && m x.2.mode)

/-- A message has been sent (R282). -/
def State.txDoneSess (s : State) (k : Nat) : State :=
  ((s.freeSess k (s.sess k).reason).addF R.TPE_TX_DONE 31 0 1).raise tpePage 1

/-! ## Transmit requests (R278, R279) -/

/-- A discarded request: LOCAL = 1 and REASON 0; it has no session, so that field is a free value.
DEDUCED: notes/assumptions/44.md. -/
def State.discardRequest (s : State) (n da pgn : Nat) : State :=
  let f := s.takeFree
  f.2.noteAbort (f.1 % 256) true false n da 0 pgn

/-- The transmit request at the head of a channel's queue; `ecc` is what ECC finds in its cells when it is read (R230).
DEDUCED: notes/assumptions/44.md. -/
def State.tpRequest (s : State) (n : Nat) (ecc : EccFound) : State :=
  let q := s.tpeTxq n
  if !s.tpeServes n || !s.pageActive tpePage || s.stopsWork (s.queueOwner q) then s
  else match (s.queue q).visible.head? with
    | none => s
    | some p =>
      let v (off k : Nat) : Nat := leVal ((p.data.drop off).take k)
      let pg := v 8 4
      let sa := v 12 1
      let da := v 13 1
      let size := v 16 4 % 2 ^ 17
      let pgn := pg % 2 ^ 18
      let out (s : State) : State := ((s.readPacket q ecc).map (fun x => x.2)).getD s
      if p.data.length ≠ size + 24 || size < 9 || 65536 < size || !s.ownAddr n sa || (da = 255 && 1785 < size) then
        (out s).discardRequest n da pgn
      else
        let mode : TpMode := if da = 255 then .bam else if size ≤ 1785 then .rts else .etp
        let busy := s.tpe.sessions.any (fun x =>
          x.2.state != .free && x.2.ch == n && x.2.tx && x.2.own == sa &&
            (if da = 255 then x.2.mode == .bam else x.2.mode != .bam && x.2.peer == da))
        match s.freeSlot with
        | none => s
        | some k =>
          if busy then s
          else
            let d := p.data.drop 24
            let s := (out s).writeBytes (s.sessArea k) d
            (s.setSess k { state := .sending, mode := mode, tx := true, ch := n, own := sa, peer := da, pgn := pgn
                           prio := pg / 2 ^ 18 % 8, size := size, send := .start, part := s.queueOwner q }).tpPump n

def execTpeTxRequest (t : Nat) (ch : Fin 12) (s : State) (ecc : EccFound := .clean) : Result :=
  eventAt t (fun s => s.tpRequest ch ecc) s

/-! ## Received frames (R281 to R283) -/

/-- How many packets the next CTS asks for. -/
def State.grant (s : State) (x : Session) (from' : Nat) : Nat :=
  min (min s.pktsPerCts (max 1 x.peerMax)) (x.total + 1 - from')

/-- A receiver asks for packets from `next` on. -/
def State.askFrom (s : State) (k : Nat) : State :=
  let x := s.sess k
  let n := s.grant x x.next
  s.setSess k { x with send := .cts n x.next, window := x.next + n - 1, timer := .none }

/-- A receive session opens. -/
def State.openRx (s : State) (n own peer pgn prio size most : Nat) (mode : TpMode) : Option State :=
  s.freeSlot.map (fun k =>
    let s := s.setSess k { state := .receiving, mode := mode, ch := n, own := own, peer := peer, pgn := pgn, prio := prio,
                           size := size, peerMax := most, part := s.queueOwner (s.tpeRxq n), started := true }
    if mode == .bam then s else s.askFrom k)

/-- An RTS or ETP RTS; one of a size that R276 gives its transport none opens nothing.
DEDUCED: notes/assumptions/44.md. -/
def State.rxRts (s : State) (n own peer pgn prio size most : Nat) (etp : Bool) : State :=
  let mode : TpMode := if etp then .etp else .rts
  let refuse (s : State) (r : Nat) : State :=
    let f := s.takeFree
    (f.2.noteAbort (f.1 % 256) false true n peer r pgn).oweAbort n etp own peer pgn r
  if !s.pageActive tpePage then refuse s 2
  else if etp && 65536 < size then refuse s 2
  else if (if etp then size < 1786 else size < 9 || 1785 < size) then s
  else
    let old := s.findSess n own peer false (fun (m : TpMode) => m != .bam)
    let same : Bool := match old with | some x => x.2.pgn == pgn | none => true
    if !same then refuse s 1
    else
      let s := match old with | some x => s.freeSess x.1 x.2.reason | none => s
      match s.openRx n own peer pgn prio size most mode with
      | some s => s
      | none => refuse s 1

/-- A BAM. DEDUCED: notes/assumptions/44.md. -/
def State.rxBam (s : State) (n peer pgn prio size : Nat) : State :=
  if !s.pageActive tpePage || size < 9 || 1785 < size then s
  else
    let s := match s.findSess n 255 peer false (fun (m : TpMode) => m == .bam) with
      | some x => s.freeSess x.1 x.2.reason
      | none => s
    match s.openRx n 255 peer pgn prio size 255 .bam with
    | some s => s
    | none => (s.addF R.TPE_NO_SESSION 31 0 1).raise tpePage 3

def TpMode.code : TpMode → Nat
  | .bam => 0 | .rts => 1 | .etp => 2

/-- The packet of a received message (R278). -/
def State.rxPacket (s : State) (k : Nat) (x : Session) : List Byte :=
  leBytes 8 x.stamp ++ leBytes 4 (x.pgn % 2 ^ 18 + x.prio % 8 * 2 ^ 18 + x.mode.code * 2 ^ 22)
    ++ leBytes 4 (x.peer % 256 + x.own % 256 * 256 + x.ch * 2 ^ 16) ++ leBytes 4 x.size ++ leBytes 4 0
    ++ s.readBytes (s.sessArea k) x.size

/-- A whole message is delivered (R281, R284). -/
def State.deliver (s : State) (k : Nat) : State :=
  let x := s.sess k
  let r := s.writePacket (s.tpeRxq x.ch) 6 x.part s.partColour (s.rxPacket k x)
  if !r.2 then r.1.abortSess k 2
  else
    let s := (r.1.addF R.TPE_RX_DONE 31 0 1).raise tpePage 0
    let s := if s.regB (R.TPE_CHQ x.ch) 31 && x.size ≤ 1785 then
        s.gwOffer { kind := 21, ch := x.ch, keyId := x.pgn * 256 + x.peer, stamp := x.stamp,
                    data := s.readBytes (s.sessArea k) (min 64 x.size) }
      else s
    if x.mode == .bam then s.freeSess k x.reason else s.setSess k { x with send := .eoma, timer := .none }

/-- A data packet for receive session `k`. -/
def State.rxData (s : State) (k n stamp : Nat) (d : List Byte) : State :=
  let x := s.sess k
  if n < x.next then s.abortSess k 8
  else if x.next < n then
    if x.mode == .bam then s.abortSess k 7
    else if s.tpRetry ≤ x.retries then s.abortSess k 7
    else (s.setSess k { x with retries := x.retries + 1 }).askFrom k
  else
    let at' := 7 * (n - 1)
    let s := s.writeBytes (s.sessArea k + at') (d.take (min 7 (x.size - at')))
    let x := { x with next := n + 1, stamp := stamp, timer := .t1, since := s.clk.lt }
    let s := s.setSess k x
    if x.total ≤ n then s.deliver k
    else if x.mode != .bam && x.window ≤ n then s.askFrom k
    else s

/-- A CTS for originator session `k`: `n` packets from `next`. DEDUCED: notes/assumptions/44.md. -/
def State.rxCts (s : State) (k n next : Nat) : State :=
  let x := s.sess k
  if x.next ≤ x.window then s.abortSess k 4
  else if n = 0 then s.setSess k { x with state := .held, timer := .t4, since := s.clk.lt }
  else if next = 0 || x.total < next then s
  else
    let again := decide (next ≤ x.sent)
    if again && s.tpRetry ≤ x.retries then s.abortSess k 5
    else
      s.setSess k { x with state := .sending, timer := .none, retries := x.retries + again.toNat, next := next
                           window := min x.total (next + n - 1), dpo := if x.mode == .etp then next - 1 else 0
                           send := if x.mode == .etp then .dpo else .data }

/-- A Conn_Abort from a peer. -/
def State.rxAbort (s : State) (n own peer pgn reason : Nat) (etp : Bool) : State :=
  (s.tpe.sessions.filter (fun x => x.2.state != .free && x.2.ch == n && x.2.own == own && x.2.peer == peer
      && x.2.pgn == pgn && (if etp then x.2.mode == .etp else x.2.mode == .rts))).foldl (fun s x =>
    ((s.freeSess x.1 reason).addF R.TPE_ABORT_RCVD 31 0 1).noteAbort x.1 false false n peer reason pgn) s

/-- A control frame. -/
def State.rxControl (s : State) (n own peer prio : Nat) (etp : Bool) (d : List Byte) : State :=
  let v (off k : Nat) : Nat := leVal ((d.drop off).take k)
  let pgn := v 5 3 % 2 ^ 18
  let orig (f : Nat → State) : State :=
    match s.findSess n own peer true (fun (m : TpMode) => if etp then m == .etp else m == .rts) with
    | some x => if x.2.pgn = pgn then f x.1 else s
    | none => s
  if own = 255 then (if !etp && v 0 1 = 32 then s.rxBam n peer pgn prio (v 1 2) else s)
  else match etp, v 0 1 with
    | false, 16 => s.rxRts n own peer pgn prio (v 1 2) (v 4 1) false
    | false, 17 => orig (fun k => s.rxCts k (v 1 1) (v 2 1))
    | false, 19 => orig (fun k => s.txDoneSess k)
    | true, 20 => s.rxRts n own peer pgn prio (v 1 4) 255 true
    | true, 21 => orig (fun k => s.rxCts k (v 1 1) (v 2 3))
    | true, 22 =>
      match s.findSess n own peer false (fun (m : TpMode) => m == .etp) with
      | some x => if x.2.pgn = pgn then s.setSess x.1 { x.2 with dpo := v 2 3 } else s
      | none => s
    | true, 23 => orig (fun k => s.txDoneSess k)
    | _, 255 => s.rxAbort n own peer pgn (v 1 1) etp
    | _, _ => s

/-- A frame received on channel `n`. DEDUCED: notes/assumptions/44.md. -/
def State.tpFrameRx (s : State) (n : Nat) (f : CanFrame) (stamp : Nat) : State :=
  let pf := f.id / 2 ^ 16 % 2 ^ 10
  let own := f.id / 256 % 256
  let peer := f.id % 256
  let prio := f.id / 2 ^ 26 % 8
  let taken := own = 255 || s.ownAddr n own
  if !s.tpeServes n || !f.ide || f.rtr || f.fdf || f.xlf || f.data.length ≠ 8 || !taken then s
  else
    let num := leVal (f.data.take 1)
    let s := match pf with
      | 0xEC => s.rxControl n own peer prio false f.data
      | 0xC8 => s.rxControl n own peer prio true f.data
      | 0xEB =>
        match s.findSess n own peer false (fun (m : TpMode) => if own = 255 then m == TpMode.bam else m == TpMode.rts) with
        | some x => s.rxData x.1 num stamp (f.data.drop 1)
        | none => s
      | 0xC7 =>
        match s.findSess n own peer false (fun (m : TpMode) => m == TpMode.etp) with
        | some x => s.rxData x.1 (x.2.dpo + num) stamp (f.data.drop 1)
        | none => s
      | _ => s
    s.tpPump n

def execTpeFrameRx (t : Nat) (ch : Fin 12) (frame : CanFrame) (stamp : Nat) (s : State) : Result :=
  eventAt t (fun s => s.tpFrameRx ch frame stamp) s

/-! ## Sent frames and timers (R277, R280, R282) -/

/-- A session's frame has reached TX_DONE. -/
def State.sessSent (s : State) (k : Nat) (what : TpSend) : State :=
  let x := s.sess k
  let lt := s.clk.lt
  match what with
  | .none => s
  | .start =>
    if x.mode == .bam then s.setSess k { x with window := x.total, gapUntil := some (lt + s.bamGapNs) }
    else s.setSess k { x with timer := .t3, since := lt }
  | .dpo => s.setSess k { x with send := .data }
  | .data =>
    let y := { x with next := x.next + 1, sent := max x.sent x.next }
    if x.mode == .bam then
      if x.total < y.next then s.txDoneSess k else s.setSess k { y with gapUntil := some (lt + s.bamGapNs) }
    else if y.next ≤ x.window then
      if s.dtGapNs = 0 then s.setSess k { y with send := .data } else s.setSess k { y with gapUntil := some (lt + s.dtGapNs) }
    else s.setSess k { y with timer := .t3, since := lt, state := if x.total ≤ x.window then .awaiting else .sending }
  | .cts _ _ => s.setSess k { x with timer := .t2, since := lt }
  | .eoma => s.freeSess k x.reason

/-- The frame in the transmit buffer of channel `n` has reached a final state. -/
def State.tpSent (s : State) (n : Nat) : State :=
  match KMap.get? s.tpe.flight n with
  | none => s
  | some f =>
    let code := (s.mb n (s.regF (R.TPE_CHCFG n) 6 0)).code
    let out := s.setTpe { s.tpe with flight := KMap.del s.tpe.flight n }
    if code = .txDone then
      (match f.sess with | some k => out.sessSent k f.what | none => out).tpPump n
    else if code = .txFailed || code = .txCancelled then
      (match f.sess with | some k => out.failSess k | none => out).tpPump n
    else s

def execTpeTxFrameDone (t : Nat) (ch : Fin 12) (s : State) : Result := eventAt t (fun s => s.tpSent ch) s

/-- A timer of a session expires. -/
def State.tpTimer (s : State) (k : Nat) : State :=
  let x := s.sess k
  if x.state != .free && x.timer != .none && x.since + x.timer.ns ≤ s.clk.lt then (s.abortSess k 3).tpPump x.ch else s

def execTpeTimerExpiry (t : Nat) (sess : Fin 256) (s : State) : Result := eventAt t (fun s => s.tpTimer sess) s

/-- A gap of a session elapses: the next data packet is requested. -/
def State.tpGap (s : State) (k : Nat) : State :=
  let x := s.sess k
  match x.gapUntil with
  | some g => if g ≤ s.clk.lt then (s.setSess k { x with gapUntil := none, send := .data }).tpPump x.ch else s
  | none => s

def execTpeGapExpiry (t : Nat) (sess : Fin 256) (s : State) : Result := eventAt t (fun s => s.tpGap sess) s

/-! ## Page commands, partition reset and registers (R286, R287, R290) -/

/-- The open sessions. -/
def State.openSess (s : State) : List (Nat × Session) := s.tpe.sessions.filter (fun x => x.2.state != .free)

/-- PAGE_INFLIGHT of the TPE page. -/
def State.tpeItems (s : State) (started : Bool) : Nat :=
  if started then (s.openSess.filter (fun x => x.2.started)).length
  else s.openSess.length
    + ((List.range 12).filter (fun n => s.tpeServes n && !(s.queue (s.tpeTxq n)).visible.isEmpty)).length

/-- Sessions are aborted with reason 2. -/
def State.abortAll (s : State) (l : List (Nat × Session)) : State :=
  l.foldl (fun s x => (s.abortSess x.1 2).tpPump x.2.ch) s

def State.tpeSquash (s : State) : State × Bool := (s.abortAll s.openSess, !s.openSess.isEmpty)

/-- A reset of partition `p` aborts its sessions (R287). -/
def State.tpePartReset (s : State) (p : Nat) : State :=
  (s.abortAll (s.openSess.filter (fun x => x.2.part == p)))

/-- A reset of the TPE page (R286). -/
def State.tpeReset (s : State) : State := s.setTpe {}

def SessState.code : SessState → Nat
  | .free => 0 | .receiving => 1 | .sending => 2 | .held => 3 | .awaiting => 4

/-- Read-only registers of the TPE page. -/
def State.viewTpe (s : State) (off : Nat) : Option Word :=
  match off with
  | 0x40 => some (setBit (s.reg R.TPE_CTRL) 31 s.tpeInvalid)
  | 0x48 => some s.tpe.lastAbort
  | 0x4C => some (word s.tpe.lastPgn)
  | 0x64 => some (word s.openSess.length)
  | _ =>
    if 0x400 ≤ off && off < 0x800 then
      let x := s.sess ((off - 0x400) / 4)
      some (word (x.reason % 256 * 2 ^ 24 + x.peer % 256 * 2 ^ 16 + x.ch * 256 + x.tx.toNat * 32 + x.mode.code * 8
        + x.state.code))
    else none

end Sys2Proof.Machine
end

