-- ==== Sys2Proof/Machine/Partitions.lean ====
section
/-! DEFINITION. Processors and partitions: scheduling, the reset of a partition, the PART page, and what a commit of the
PART set does (spec/13, R312 to R329, R455). -/

namespace Sys2Proof.Machine

def partPage : Nat := 10

/-! ## Cores (R312, R313) -/

/-- Whether core `c` (0 to 7 application cores, 8 pair 0, 9 pair 1) hosts partition `p`. -/
def coreHosts (m : KMap Word) (valid : List Nat) (c p : Nat) : Bool :=
  if c < 8 then ptHosts m c p && valid.contains p
  else if c = 8 then p = 0
  else 1 ≤ p && p < 4 && valid.contains p

/-- The enabled partitions that a core hosts, ascending. -/
def State.hosted (s : State) (c : Nat) : List Nat :=
  let valid := ptValid s.pt.active
  (List.range 32).filter (fun p => coreHosts s.pt.active valid c p)

/-- The partition after `p` in a core's cycle that is RUNNING. -/
def State.nextOn (s : State) (c : Nat) (p : Nat) : Option Nat :=
  let l := (s.hosted c).filter (fun q => s.isRunning q)
  match l.find? (fun q => p < q) with
  | some q => some q
  | none => l.head?

def State.setCurrent (s : State) (c : Nat) (p : Option Nat) : State :=
  { s with parts := { s.parts with
      current := match p with
        | some q => KMap.put s.parts.current c (q, s.clk.lt)
        | none => KMap.del s.parts.current c } }

/-- Each core goes on with its partition, or with the next that runs, at once (R313). -/
def State.settleCores (s : State) : State :=
  (List.range 10).foldl (fun s c =>
    match KMap.get? s.parts.current c with
    | some (p, _) => if s.isRunning p && (s.hosted c).contains p then s else s.setCurrent c (s.nextOn c p)
    | none => s.setCurrent c (s.nextOn c 31)) s

/-- PT_CORES.SLICE_US of a partition in ns (R315). -/
def State.sliceNs (s : State) (p : Nat) : Nat := max 100 (fld (ptWord s.pt.active p 4) 31 16) * 1000

/-- A slice ends: the next RUNNING partition of the core follows (R313). -/
def State.sliceEnd (s : State) (c : Nat) : State :=
  match KMap.get? s.parts.current c with
  | some (p, since) => if since + s.sliceNs p ≤ s.clk.lt then s.setCurrent c (s.nextOn c p) else s
  | none => s

def execSliceEnd (t : Nat) (core : Fin 10) (s : State) : Result := eventAt t (fun s => s.sliceEnd core) s

/-! ## The work of a partition in the shared engines (R324, R325) -/

def PartState.code : PartState → Nat
  | .off => 0 | .stopped => 1 | .running => 2 | .resetting => 3
def PartPhase.code : PartPhase → Nat
  | .none => 0 | .drain => 1 | .squash => 2 | .clean => 3
def ResetCause.code : ResetCause → Nat
  | .none => 0 | .command => 1 | .disabled => 2 | .lockstep => 3 | .cluster => 4 | .activation => 5 | .pin => 6

/-- Requester numbers of processor cores (R34). -/
def isCore (r : Nat) : Bool := r < 2 || (11 ≤ r && r < 19)

/-- The pages a partition owns under a table. -/
def scopePages (m : KMap Word) (p lo hi : Nat) : List Nat :=
  ((List.range (hi - lo)).map (· + lo)).filter (fun idx => ownerOfPage m idx == p)

/-- Open packets written by a partition's cores, as queue and writer. -/
def State.coreOpens (s : State) (p : Nat) : List (Nat × Nat) :=
  s.pool.queues.flatMap (fun x => (x.2.opens.filter (fun o => isCore o.1 && o.2.part == p)).map (fun o => (x.1, o.1)))

/-- The message buffers of a CAN channel in a partition's scope that meet a condition. -/
def State.scopeMbs (s : State) (m : KMap Word) (p c : Nat) (f : Mb → Bool) : List Nat :=
  ((s.can c).mbs.filter (fun x => f (s.mb c x.1) && ownerOfMb m c x.1 == p)).map (fun x => x.1)

def mbWaits (x : MbCode) : Bool := x == .txPending || x == .txActive

/-- Accesses that its cores have issued and that have not completed: reads through the partner view. -/
def State.coreXacts (s : State) (p : Nat) : Nat := (s.ulf.reads.filter (fun r => r.part == p && isCore r.req)).length

/-- Every transaction issued for `p` that has not completed, by its cores or its DMA channels (R322, R251). -/
def State.partXacts (s : State) (p : Nat) : Nat := s.ulf.reads.countP (fun r => r.part == p)

/-- Work items left in the scope of a reset (PART_PSTAT.INFLIGHT); after the squash, those it squashed that have not left:
cancelled frames on a bus, and frames that were in transmission. -/
def State.partItems (s : State) (p : Nat) (squashed : Bool) : Nat :=
  let m := (s.part p).scope
  let leaves (x : Mb) : Bool := if squashed then x.code == .txActive && x.cancelPending else mbWaits x.code
  let can := (List.range 12).foldl (fun n c =>
    n + (s.scopeMbs m p c leaves).length +
      (ownerOfPage m (37 + c) == p && (leaves (s.can c).stream || (!squashed && (s.txsHead c).isSome))).toNat) 0
  let eth := (scopePages m p 57 84).foldl (fun n idx =>
    n + if squashed then s.swpLeaving (idx - 57) else s.swpItems (idx - 57)) 0
  if squashed then can + eth
  else
    (scopePages m p 101 109).foldl (fun n idx => n + s.dmaItems idx true) 0 + (s.coreOpens p).length + can + eth
      + (s.gway.jobs.filter (fun j => ownerOfGroup m j.group == p)).length
      + (s.openSess.filter (fun x => x.2.part == p)).length

/-- PART_PSTAT.INFLIGHT. DEDUCED: notes/assumptions/49.md. -/
def State.partInflight (s : State) (p : Nat) : Nat :=
  let x := s.part p
  if x.state != .resetting || x.phase == .none then 0
  else if x.phase == .drain then s.partItems p false + s.coreXacts p
  else if x.phase == .squash then s.partItems p true + s.coreXacts p
  else s.coreXacts p

/-- The open packets of the partition's cores are rewound without a gap, and those cores' latches are cleared (R229).
DEDUCED: notes/assumptions/49.md. -/
def State.rewindCores (s : State) (p : Nat) : State :=
  let s := (s.coreOpens p).foldl (fun s x => s.rewindPacket x.1 x.2) s
  let m := (s.part p).scope
  let mine (r : Nat) : Bool :=
    if r < 11 then r = (if p = 0 then 0 else 1) && p < 4 else ptHosts m (r - 11) p
  { s with pool := { s.pool with
      queues := s.pool.queues.map (fun x => (x.1, { x.2 with latches := KMap.keep x.2.latches (fun r => !mine r) })) } }

/-- The squash of R324 and R325. DEDUCED: notes/assumptions/49.md. -/
def State.partSquash (s : State) (p : Nat) : State :=
  let x := s.part p
  let m := x.scope
  let before := s.partItems p false
  let s := (scopePages m p 101 109).foldl (fun s idx => s.dmaSquash idx) s
  let s := s.rewindCores p
  let s := (List.range 12).foldl (fun s c =>
    let l := s.scopeMbs m p c (fun x => mbWaits x.code)
    s.canSquash c (fun k => l.contains k) (ownerOfPage m (37 + c) == p)) s
  let s := (s.gwPartReset (fun g => ownerOfGroup m g == p)).tpePartReset p
  let s := (scopePages m p 57 84).foldl (fun s idx => s.swpSquash (idx - 57)) s
  s.setPart p { x with phase := .squash, squashed := decide (s.partItems p true < before) }

/-! ## The start and the end of a reset (R322, R323, R328, R455) -/

/-- Causes whose reset applies AUTO_START at its end. -/
def ResetCause.auto : ResetCause → Bool
  | .lockstep => true | .cluster => true | .activation => true | .pin => true | _ => false

def State.autoStart (s : State) (p : Nat) : Bool := bit (ptWord s.pt.active p 0) 24

/-- Steps 2 to 6 of R323; the partition's need is set to none (R337). -/
def State.stripPart (s : State) (p : Nat) : State :=
  let m := (s.part p).scope
  let s := s.settleCores.cancelPending p
  let s := ((List.range 118).filter (fun idx => ownerOfPage m idx == p)).foldl (fun s idx => s.discardPage idx) s
  let s := ([SetId.sw, .gw, .part]).foldl (fun s x => s.dropEdits p x) s
  let s := (regionList.filter (fun x => ownerOfPage m x.2 == p && (s.region x.1).dirty)).foldl
    (fun s x => s.dropRegion x.1) s
  let s := s.setPwr { s.pwr with needs := KMap.put s.pwr.needs p { s.need p with lo := 0xFFFFFFFF, time := noNeed } }
  { s.clearMirrorCount p with coh := { s.coh with sems := s.coh.sems.filter (fun x => x.2 != p) } }

/-- A pin reset of a partition that is already resetting: its drain ends without a squash, so the channels that the drain
paused run on, its open packets are rewound, and AUTO_START alone decides how it ends (R455).
DEDUCED: notes/assumptions/49.md. -/
def State.pinOnReset (s : State) (p : Nat) : State :=
  let x := s.part p
  let drained := x.phase == .drain
  let s := ((s.setPart p { x with cause := .pin, phase := .clean, restart := false, start := s.clk.lt
                                  timeout := false, squashed := false }).stripPart p).rewindCores p
  s.when drained (fun s =>
    ((scopePages x.scope p 101 109).filter (fun idx => (s.page idx).mode == .active && !s.resetDrains idx)).foldl
      (fun s idx => s.dmaResume idx) s)

/-- A reset of `p` starts; one already resetting goes on with the new cause. DEDUCED: notes/assumptions/49.md. -/
def State.resetStart (s : State) (p : Nat) (cause : ResetCause) (restart : Bool) (scope : KMap Word) : State :=
  let x := s.part p
  if x.state == .resetting then
    if cause == .pin then s.pinOnReset p else s.setPart p { x with cause := cause }
  else
    let drainUs := fld (ptWord scope p 0) 17 0
    let s := (s.setPart p { state := .resetting, phase := if cause == .pin then .clean else .drain, cause := cause
                            restart := restart, start := s.clk.lt, drainEnd := s.clk.lt + drainUs * 1000
                            scope := scope }).stripPart p
    if cause == .pin then s.rewindCores p
    else
      let s := (scopePages scope p 101 109).foldl (fun s idx => s.dmaSettlePage idx) s
      if drainUs = 0 then s.partSquash p else s

/-- The reset of `p` is complete (R322). -/
def State.finishReset (s : State) (p : Nat) : State :=
  let x := s.part p
  let on := p = 0 || (ptValid s.pt.active).contains p
  let go := p = 0 || x.restart || (x.cause.auto && s.autoStart p)
  let st : PartState := if !on then .off else if go then .running else .stopped
  let s := s.setPart p { state := st, cause := x.cause, start := x.start }
  let s := ({ s with parts := { s.parts with
      lastPart := p, lastCause := x.cause, lastTimeout := x.timeout, lastSquashed := x.squashed
      lastTime := x.start } } : State).raise partPage 0
  (s.when (st == .running) (fun s => s.resendAll p)).settleCores

/-- The processors that host the partition have restarted: the boot ROM brings partition 0 up, and the others follow it
(R322, R328, R418, R455). -/
def State.hostReady (s : State) (p : Nat) : Bool :=
  match (s.part p).cause with
  | .cluster => !s.parts.clusterDown
  | .activation => !s.parts.pinHeld && (p = 0 || (s.isRunning 0 && (p < 4 || !s.parts.clusterDown)))
  | .pin => !s.parts.pinHeld && (p = 0 || s.isRunning 0)
  | _ => true

/-- The drain phase ends: nothing is in flight, or DRAIN_US has elapsed. -/
def State.partDrainEnd (s : State) (p : Nat) : State :=
  let x := s.part p
  if x.state != .resetting || x.phase != .drain then s
  else if s.partInflight p = 0 then s.partSquash p
  else if x.drainEnd ≤ s.clk.lt then (s.setPart p { x with timeout := true }).partSquash p
  else s

def execPartDrainEnd (t : Nat) (part : Fin 32) (s : State) : Result := eventAt t (fun s => s.partDrainEnd part) s

def State.partSquashDone (s : State) (p : Nat) : State :=
  let x := s.part p
  if x.state == .resetting && x.phase == .squash && s.partItems p true = 0 then s.setPart p { x with phase := .clean }
  else s

def execPartSquashDone (t : Nat) (part : Fin 32) (s : State) : Result := eventAt t (fun s => s.partSquashDone part) s

def State.partResetDone (s : State) (p : Nat) : State :=
  let x := s.part p
  if x.state == .resetting && x.phase == .clean && s.partXacts p = 0 && s.hostReady p then s.finishReset p else s

def execResetDone (t : Nat) (part : Fin 32) (s : State) : Result := eventAt t (fun s => s.partResetDone part) s

/-- A partition that does not run is reset at once, with nothing to drain (R322). DEDUCED: notes/assumptions/49.md. -/
def State.resetCommand (s : State) (p : Nat) (restart : Bool) : State :=
  let x := s.part p
  if x.state == .running then s.resetStart p .command restart s.pt.active
  else
    ((s.setPart p { state := x.state, cause := .command, restart := restart, start := s.clk.lt, scope := s.pt.active
                    }).stripPart p).finishReset p

/-! ## PART_CMD (R322, R326 to R329) -/

def PartCmdResult.code : PartCmdResult → Nat
  | .none => 0 | .accepted => 1 | .refusedKey => 2 | .refusedState => 3 | .refusedTarget => 4

def State.partResult (s : State) (target : Nat) (r : PartCmdResult) : State :=
  { s with parts := { s.parts with cmdTarget := target, cmdResult := r } }

/-- The application cluster restarts (R328). DEDUCED: notes/assumptions/49.md. -/
def State.clusterRestart (s : State) (cause : ResetCause) : State :=
  let s : State := { s with parts := { s.parts with clusterDown := true } }
  ((List.range 32).filter (fun p => 4 ≤ p && (s.part p).state != .off)).foldl
    (fun s p => s.resetStart p cause false s.pt.active) s

def State.partStart (s : State) (p : Nat) : State :=
  let x := s.part p
  if x.state == .stopped then
    ((s.setPart p { x with state := .running }).partResult p .accepted).resendAll p |>.settleCores
  else s.partResult p .refusedState

/-- A write of PART_CMD. -/
def State.partCmd (s : State) (w : Word) : State :=
  let p := fld w 4 0
  let action := fld w 10 8
  if fld w 31 24 ≠ 0xA5 then s.partResult p .refusedKey
  else if action = 0 || 5 ≤ action then s.partResult p .refusedTarget
  else if action = 4 then ((s.partResult p .accepted).clusterRestart .cluster).raise partPage 3
  else if p = 0 then s.partResult p .refusedTarget
  else if (s.part p).state == .resetting then s.partResult p .refusedState
  else if action = 2 then s.partStart p
  else (s.partResult p .accepted).resetCommand p (action = 3)

def partWord (key : Byte) (action target : Nat) : Word := mkF 31 24 key.toNat ||| mkF 10 8 action ||| mkF 4 0 target

def execPartReset (a : Acc) (key : Byte) (target : Fin 32) (s : State) : Result :=
  writeTo a R.PART_CMD (fun s => s.partCmd (partWord key 1 target)) s
def execPartStart (a : Acc) (key : Byte) (target : Fin 32) (s : State) : Result :=
  writeTo a R.PART_CMD (fun s => s.partCmd (partWord key 2 target)) s
def execRestart (a : Acc) (key : Byte) (target : Fin 32) (s : State) : Result :=
  writeTo a R.PART_CMD (fun s => s.partCmd (partWord key 3 target)) s

/-- The cluster restarts by PART_CMD, or because the monitor met an uncorrectable error in its own state. -/
def execCluster (t : Nat) (cmd : Option (Acc × Byte)) (s : State) : Result :=
  match cmd with
  | some (a, key) => writeTo a R.PART_CMD (fun s => s.partCmd (partWord key 4 0)) s
  | none => eventAt t (fun s => (s.clusterRestart .cluster).raise partPage 3) s

/-- The partitions whose reset waits for the cluster. -/
def State.clusterParts (s : State) : List Nat :=
  (List.range 32).filter (fun p =>
    let x := s.part p
    x.state == .resetting && (x.cause == .cluster || x.cause == .activation) && 4 ≤ p)

/-- The monitor has been reloaded: every partition of the cluster leaves CLEAN (R328). -/
def State.clusterReload (s : State) : State :=
  let l := s.clusterParts
  if s.parts.clusterDown && l.all (fun p => (s.part p).phase == .clean && s.partXacts p = 0) then
    l.foldl (fun s p => s.finishReset p) { s with parts := { s.parts with clusterDown := false } }
  else s

def execClusterReload (t : Nat) (s : State) : Result := eventAt t State.clusterReload s

/-- A lockstep pair stops (R314). DEDUCED: notes/assumptions/49.md. -/
def State.lockstep (s : State) (pair : Nat) : State :=
  if pair = 0 then s.resetStart 0 .lockstep true s.pt.active
  else
    (([1, 2, 3].filter (fun p => (s.part p).state != .off)).foldl
      (fun s p => s.resetStart p .lockstep false s.pt.active) s).raise partPage 2

def execLockstep (t : Nat) (pair : Fin 2) (s : State) : Result := eventAt t (fun s => s.lockstep pair) s

/-! ## A commit of the PART set (R316, R317, R320, R322) -/

/-- Bits that two partitions of a list claim in one word, and the highest partition that lost one. -/
def wordLoser (m : KMap Word) (off : Nat) (mask : Word) (l : List Nat) : Option Nat :=
  (l.foldl (fun (a : Word × Option Nat) p =>
    let w := ptWord m p off &&& mask
    (a.1 ||| w, if a.1 &&& w = 0 then a.2 else some p)) ((0 : Word), none)).2

/-- The highest partition that loses a claim in `n` words from `off`. -/
def claimLoser (m : KMap Word) (off n : Nat) (mask : Nat → Word) : Option Nat :=
  let l := (ptValid m).filter (0 < ·)
  ((List.range n).filterMap (fun k => wordLoser m (off + 4 * k) (mask k) l)).foldl
    (fun a p => some (max p (a.getD 0))) none

/-- The pages of word `k` of PT_PAGES that a claim can win (R41). -/
def claimablePages (k : Nat) : Word :=
  wordOfBits ((List.range 32).filter (fun b => 32 * k + b < 118 && !pageLocked (32 * k + b)))

/-- PART_CONFLICT flags of a new partition table, and the partition to report. -/
def partConflicts (m : KMap Word) : List (Nat × Nat) :=
  let all : Nat → Word := fun _ => 0xFFFFFFFF
  let flag (k : Nat) (r : Option Nat) : List (Nat × Nat) := (r.map (fun p => (k, p))).toList
  flag 0 (claimLoser m 0x40 4 claimablePages) ++ flag 1 (claimLoser m 0x200 128 all)
    ++ flag 2 (claimLoser m 0x80 48 all) ++ flag 3 (claimLoser m 0x60 8 all) ++ flag 5 (ptInvalid m).getLast?

/-- PART_CONFLICT takes the flags of a commit, and CONFLICT is raised. DEDUCED: notes/assumptions/49.md. -/
def State.noteConflicts (s : State) (l : List (Nat × Nat)) : State :=
  if l.isEmpty then s
  else
    let w := l.foldl (fun w x => setBit w x.1 true) (s.reg R.PART_CONFLICT)
    (s.setReg R.PART_CONFLICT (setFld w 12 8 (l.foldl (fun n x => max n x.2) 0))).raise partPage 1

/-- The states that follow the enabled partitions of a new table. -/
def State.followTable (s old : State) (p : Nat) : State :=
  let on := (ptValid s.pt.active).contains p
  let x := s.part p
  match x.state with
  | .off =>
    if !on then s
    else if s.autoStart p then (s.setPart p { x with state := .running }).resendAll p
    else s.setPart p { x with state := .stopped }
  | .stopped => if on then s else s.setPart p { x with state := .off }
  | .running => if on then s else s.resetStart p .disabled false old.pt.active
  | .resetting => s

/-- A PART generation has become ACTIVE. -/
def State.partCommit (s old : State) : State :=
  let s : State := { s with ifiles := movedFiles s.ifiles old.pt.active s.pt.active }
  let s := s.noteConflicts (partConflicts s.pt.active)
  (((List.range 32).filter (0 < ·)).foldl (fun s p => s.followTable old p) s).settleCores

/-- PART_CONFLICT.REGION at a commit edge (R320). DEDUCED: notes/assumptions/49.md. -/
def State.regionConflict (s : State) : State :=
  let m := s.pt.active
  let areas := s.engineAreas
  let bad := (List.range 32).any (fun p =>
    s.mirrorTooBig m p || (List.range 32).any (fun r =>
      bit (ptRegion m p r 3) 31 && regionSize m p r != 0 && areas.any (fun x =>
        overlaps (regionBase m p r) (regionSize m p r) x.1 x.2)))
  if bad then s.setReg R.PART_CONFLICT (setBit (s.reg R.PART_CONFLICT) 4 true) else s

/-! ## Registers (R329) -/

def State.partStat (s : State) (p : Nat) : Word :=
  let x := s.part p
  let again := x.state == .resetting && (p = 0 || x.restart || (x.cause.auto && s.autoStart p))
  mkF 31 16 (min 65535 (s.partInflight p)) ||| mkF 11 8 x.cause.code ||| mkF 7 7 again.toNat ||| mkF 5 4 x.phase.code
    ||| mkF 2 0 x.state.code

def State.viewPart (s : State) (off : Nat) : Option Word :=
  let x := s.parts
  match off with
  | 0x44 => some (wordOfBits ((List.range 32).filter (fun p => s.isRunning p)))
  | 0x4C => some (mkF 12 8 x.cmdTarget ||| mkF 3 0 x.cmdResult.code)
  | 0x54 => some (mkF 13 13 x.lastSquashed.toNat ||| mkF 12 12 x.lastTimeout.toNat ||| mkF 11 8 x.lastCause.code
      ||| mkF 4 0 x.lastPart)
  | 0x58 => some (lowWord x.lastTime)
  | 0x5C => some (highWord x.lastTime)
  | _ =>
    if 0x100 ≤ off && off < 0x180 then some (s.partStat ((off - 0x100) / 4))
    else if 0x180 ≤ off && off < 0x1A8 then
      let c := (off - 0x180) / 4
      let h := mkF 11 8 (s.hosted c).length
      some (match KMap.get? x.current c with
        | some (p, _) => setBit h 31 true ||| mkF 4 0 p
        | none => h)
    else none

end Sys2Proof.Machine
end

