-- ==== Sys2Proof/Machine/TimeExec.lean ====
section
/-! DEFINITION. The meanings of the commands of the time unit, and the registers of the TIME and PTP pages (spec/12, R291
to R310). -/

namespace Sys2Proof.Machine

/-! ## Adjustments (R294, R295, R306) -/

/-- The write of PTP_CMD; a step of the selected domain moves the time gates (R191, R299). -/
def State.ptpCmdWrite (s : State) (d : Nat) (w : Word) : State :=
  let n := s.ptpCmd d w
  if bit w 1 && d = s.selDom && (bitsOf w 4).length = 1 then n.gatesAfterStep else n

def execSlew (a : Acc) (dom : Fin 2) (s : State) : Result := writeTo a (R.PTP_CMD dom) (fun s => s.ptpCmdWrite dom 1) s
def execStep (a : Acc) (dom : Fin 2) (s : State) : Result := writeTo a (R.PTP_CMD dom) (fun s => s.ptpCmdWrite dom 2) s
def execLocked (a : Acc) (dom : Fin 2) (s : State) : Result := writeTo a (R.PTP_CMD dom) (fun s => s.ptpCmdWrite dom 4) s
def execHoldover (a : Acc) (dom : Fin 2) (s : State) : Result := writeTo a (R.PTP_CMD dom) (fun s => s.ptpCmdWrite dom 8) s
def execTxPop (a : Acc) (dom : Fin 2) (s : State) : Result := writeTo a (R.PTP_CMD dom) (fun s => s.ptpCmdWrite dom 16) s

def execPtpRateWrite (a : Acc) (dom : Fin 2) (rate : Word) (s : State) : Result :=
  writeTo a (R.PTP_RATE dom) (fun s => s.ptpRate dom rate) s

/-! ## Timers of the domains (R295, R297, R304) -/

/-- No adjustment of a SYNCED domain for WD_MS. DEDUCED: notes/assumptions/48.md. -/
def State.ptpWatchdog (s : State) (d : Nat) : State :=
  let wd := s.regF (R.PTP_CFG d) 31 16
  let c := s.dom d
  if c.state == .synced && wd != 0 && c.lastAdjust + wd * 1000000 ≤ s.clk.lt then
    (s.setDomState d .holdover).raise (ptpPage d) 2
  else s

def execWatchdog (t : Nat) (dom : Fin 2) (s : State) : Result := eventAt t (fun s => s.ptpWatchdog dom) s

/-- HOLD_S have elapsed since entry to HOLDOVER. DEDUCED: notes/assumptions/48.md. -/
def State.holdEnd (s : State) (d : Nat) : State :=
  let h := s.regF (R.PTP_CFG d) 15 8
  let c := s.dom d
  if c.state == .holdover && h != 0 && c.holdSince + h * 1000000000 ≤ s.clk.lt then s.setDomState d .free else s

def execHoldoverExpiry (t : Nat) (dom : Fin 2) (s : State) : Result := eventAt t (fun s => s.holdEnd dom) s

/-- PHASE has reached 0. -/
def State.switchEnd (s : State) : State :=
  if s.clk.switching && s.clk.phase = 0 then
    ({ s with clk := { s.clk with switching := false } } : State).raise 7 1
  else s

def execSwitchDone (t : Nat) (s : State) : Result := eventAt t State.switchEnd s

/-- A slew has run out: PTP_SLEW_LEFT comes to 0 with the passing of time (R293), and nothing else follows. -/
def execSlewComplete (t : Nat) (_dom : Fin 2) (s : State) : Result := eventAt t (fun s => s) s

/-- A Follow_Up that has not arrived within 100 ms is not relayed (R304). DEDUCED: notes/assumptions/48.md. -/
def State.followUpLate (s : State) (d seqId : Nat) : State :=
  { s with clk := { s.clk with followUps := s.clk.followUps.filter (fun f =>
      !(f.dom == d && f.seqId == seqId && !f.arrived && f.since + 100000000 ≤ s.clk.lt)) } }

def execFollowUpTimeout (t : Nat) (dom : Fin 2) (seqId : Fin 65536) (s : State) : Result :=
  eventAt t (fun s => s.followUpLate dom seqId) s

/-! ## Commits, power states (R293, R295 to R298) -/

/-- TIME_SEL has changed at a commit edge; `old` is the state before it. -/
def State.timeCommit (s old : State) : State :=
  let s := if s.selDom = old.selDom then s
    else
      let n := s.switchDomain old
      if n.clk.abruptLast then n.gatesAtStep else n
  s.noteValid old

/-- PTP_CFG of a domain has changed at a commit edge. -/
def State.ptpCommit (s old : State) (d : Nat) : State :=
  if old.domEn d && !s.domEn d then s.setDomState d .free else s

/-- Entry to PARK or DORMANT. -/
def State.ptpPark (s : State) : State :=
  [0, 1].foldl (fun s d => if (s.dom d).state == .synced then s.setDomState d .holdover else s) s

/-- Exit from DORMANT: both domains are FREE at LOCAL_TIME with no rate. -/
def State.ptpRestart (s : State) : State :=
  [0, 1].foldl (fun s d =>
    let s := (s.setReg (R.PTP_RATE d) 0).setDom d
      { s.dom d with d := (s.clk.lt : Int) * 1099511627776, rest := 0, stepBy := 0, slewLeft := 0 }
    s.setDomState d .free) s

/-! ## Registers (R309, R310) -/

def saturate32 (v : Int) : Word := word (unsigned 32 (max (-2147483647) (min 2147483647 v)))

/-- A value in clock units as whole ns, cut towards 0. -/
def wholeNs (v : Int) : Int := v.tdiv clkUnit

/-- Read-only registers of the TIME page. DESIGN CHOICE: notes/assumptions/63.md. -/
def State.viewTime (s : State) (off : Nat) : Option Word :=
  match off with
  | 0x40 => some (lowWord s.clk.lt)
  | 0x44 => some (highWord s.clk.lt)
  | 0x48 => some (lowWord s.syncNs)
  | 0x4C => some (highWord s.syncNs)
  | 0x54 => some (word (s.clk.abruptLast.toNat * 8 + s.selDom * 4 + s.clk.switching.toNat * 2 + s.syncValid.toNat))
  | 0x58 => some (saturate32 (wholeNs s.clk.phase))
  | 0x5C => some (lowWord s.clk.stepTime)
  | 0x60 => some (highWord s.clk.stepTime)
  | 0x64 => some (saturate32 s.clk.stepNs)
  | _ => none

def DomState.code : DomState → Nat
  | .free => 0 | .synced => 1 | .holdover => 2

/-- Read-only registers of a PTP page. -/
def State.viewPtp (s : State) (d off : Nat) : Option Word :=
  let c := s.dom d
  match off with
  | 0x4C => some (lowWord (s.domNs d))
  | 0x50 => some (highWord (s.domNs d))
  | 0x64 => some (word (c.stamps.length * 256 + (decide (c.slewLeft ≠ 0)).toNat * 16 + (s.originates d).toNat * 8 + c.state.code))
  | 0x68 => some (saturate32 (wholeNs c.slewLeft))
  | 0x6C => some (match c.stamps with
    | [] => 0
    | x :: _ => word (2 ^ 31 + x.port * 2 ^ 24 + x.msgType * 2 ^ 16 + x.seqId % 65536))
  | 0x70 => some (match c.stamps with | [] => 0 | x :: _ => lowWord x.time)
  | 0x74 => some (match c.stamps with | [] => 0 | x :: _ => highWord x.time)
  | _ => none

end Sys2Proof.Machine
end

