-- ==== Sys2Proof/Machine/Power.lean ====
section
/-! DEFINITION. Encke and the zone sleep protocol: known events, holds, the choice of a state, entries, and the messages,
wakes and needs (spec/14, R331 to R352). -/

namespace Sys2Proof.Machine

/-! ## States (R331, R338) -/

def PwrState.code : PwrState → Nat
  | .run => 0 | .idle => 1 | .nap => 2 | .drowse => 3 | .park => 4 | .dormant => 5

def pwrOf : Nat → PwrState
  | 0 => .run | 1 => .idle | 2 => .nap | 3 => .drowse | 4 => .park | _ => .dormant

/-- Exit latency in ns (R331). -/
def PwrState.exitNs : PwrState → Nat
  | .run => 0 | .idle => 1000 | .nap => 150000 | .drowse => 3000000 | .park => 45000000 | .dormant => 380000000

/-- Entry time in ns (R338). -/
def PwrState.entryNs : PwrState → Nat
  | .run => 0 | .idle => 100 | .nap => 50000 | .drowse => 1000000 | .park => 30000000 | .dormant => 100000000

/-- Break-even residence in ns (R338). -/
def PwrState.evenNs : PwrState → Nat
  | .run => 0 | .idle => 2000 | .nap => 600000 | .drowse => 12000000 | .park => 1500000000 | .dormant => 3600000000000

/-! ## Known events (R336) -/

/-- A known event: its time in LOCAL_TIME, its tolerance in ns, and what PWR_KNOWN_SRC shows of it. -/
structure KnownEvent where
  time : Nat
  lat : Nat
  src : Nat
  part : Nat := 0
  index : Nat := 0
  deriving DecidableEq, Repr

/-- A SYNC_TIME in LOCAL_TIME, by the formula of R300 solved for the stamp. DEDUCED: notes/assumptions/48.md. -/
def State.toLocal (s : State) (t : Nat) : Nat :=
  let d : Int := ((t : Int) * clkUnit - s.syncUnits) / ((1099511627776 + s.rateOf s.selDom) * 1000000000)
  ((s.clk.lt : Int) + d).toNat

/-- A time of one of the two bases in LOCAL_TIME; none in SYNC_TIME while that is not valid. -/
def State.baseLocal (s : State) (t : Nat) (sync : Bool) : Option Nat :=
  if !sync then some t else if s.syncValid then some (s.toLocal t) else none

/-- The end of the time wait a DMA channel is in (R245). -/
def State.dmaWaitEnd (s : State) (c : Nat) : Option Nat :=
  let x := s.dchan c
  let w0 := s.dmaWord c 0
  if x.state != .waiting || fld w0 31 28 ≠ 3 then none
  else if fld w0 27 24 = 2 then s.baseLocal (pairVal (s.dmaWord c 1) (s.dmaWord c 2)) (bit w0 23)
  else if fld w0 27 24 = 3 then
    if bit w0 23 && !s.syncValid then none else some (x.waitSince + (s.dmaWord c 1).toNat)
  else none

/-- The launch copies that wait in the stream queues, as queue, launch time and base. -/
def State.waitingCopies (s : State) : List (Nat × Nat × Bool) :=
  s.pool.queues.flatMap (fun x =>
    if x.1 < 216 then
      (x.2.visible.filter waitingLaunch).filterMap (fun p => (p.copy.bind (·.launch)).map (fun l => (x.1, l)))
    else [])

/-- The known events of R336; `timers` are the compares of the waiting cores, each with the partition that armed it.
DEDUCED: notes/assumptions/52.md. -/
def State.knownEvents (s : State) (timers : List (Fin 32 × Nat)) : List KnownEvent :=
  let ms3 := 3000000
  s.needy.map (fun p => { time := (s.need p).time, lat := (s.need p).latUs * 1000, src := 1, part := p })
  ++ timers.map (fun x => { time := x.2, lat := (s.need x.1).latUs * 1000, src := 2, part := x.1.val })
  ++ (List.range 32).filterMap (fun p => (s.bank p).pending.map (fun c =>
      { time := s.toLocal c.time, lat := ms3, src := 3, part := p }))
  ++ (List.range 12).flatMap (fun c => (s.can c).mbs.filterMap (fun x =>
      if x.2.code == .txPending && !x.2.eligible then
        (x.2.launch.bind (fun l => s.baseLocal l.1 l.2)).map (fun t => { time := t, lat := ms3, src := 4, index := c })
      else none))
  ++ s.waitingCopies.filterMap (fun x => (s.baseLocal x.2.1 x.2.2).map (fun t =>
      { time := t - s.txLead (x.1 / 8), lat := ms3, src := 5, index := x.1 / 8 }))
  ++ s.dma.chans.filterMap (fun x => (s.dmaWaitEnd x.1).map (fun t => { time := t, lat := ms3, src := 6, index := x.1 }))
  ++ (if s.pwr.zsp.state == .committed then [{ time := s.pwr.zsp.tc, lat := ms3, src := 7 }] else [])

/-! ## Holds and the choice (R339) -/

/-- PWR_CFG.MAX_STATE. -/
def State.maxState (s : State) : Nat := min 5 (s.regF R.PWR_CFG 2 0)

def State.anyConducts (s : State) : Bool := s.load.chans.any (fun x => x.2.conducting)
def State.anyLease (s : State) : Bool := s.load.chans.any (fun x => x.2.lease == .running)
def State.ledgerHold (s : State) : Bool := s.regB R.LEDG_CFG 31 && !s.load.dirtyRecs.isEmpty

/-- No sleep is in force: before T_c, or with a wake latched for T_c + 2 ms (R339, R347). -/
def State.noSleep (s : State) : Bool := s.pwr.zsp.state != .asleep || s.pwr.zsp.latched.isSome

/-- PWR_STATE.ALLOWED. -/
def State.allowed (s : State) : Nat :=
  if s.pwr.executing then 0
  else
    let n := if s.noSleep then 3 else if s.anyConducts || s.anyLease || s.ledgerHold then 4 else 5
    min n s.maxState

/-- The residence a state may have, and the event that limits it; none without a limit. -/
def State.residence (s : State) (ev : List KnownEvent) (st : PwrState) : Option (Int × KnownEvent) :=
  let guard := s.regF R.PWR_CFG 23 8 * 1000
  (ev.filter (fun e => e.lat < st.exitNs)).foldl (fun a e =>
    let r : Int := (e.time : Int) - s.clk.lt - st.exitNs - guard
    match a with
    | none => some (r, e)
    | some (m, x) => if r < m then some (r, e) else some (m, x)) none

/-- Whether a state pays. DEDUCED: notes/assumptions/52.md. -/
def State.pays (s : State) (ev : List KnownEvent) (st : PwrState) : Bool :=
  (st != .drowse || s.pwr.noDrowse ≤ s.clk.lt) &&
    match s.residence ev st with
    | none => true
    | some (r, _) => decide ((st.evenNs : Int) ≤ r)

/-- The state Encke chooses. DEDUCED: notes/assumptions/52.md. -/
def State.encke (s : State) (ev : List KnownEvent) : PwrState :=
  if s.pwr.executing then .run
  else ((((List.range s.allowed).map (fun k => pwrOf (s.allowed - k))).find? (fun st => s.pays ev st))).getD .idle

/-- The known event that keeps Encke from the next deeper permitted state. -/
def State.limitOf (s : State) (ev : List KnownEvent) (st : PwrState) : Known :=
  if st.code < s.allowed then
    match s.residence ev (pwrOf (st.code + 1)) with
    | some (_, e) => { time := e.time, src := e.src, part := e.part, index := e.index }
    | none => {}
  else {}

/-! ## Waking by known events (R346) -/

/-- A known event that wakes the network: a need with NET, or a launch. -/
def State.wakesNet (s : State) (e : KnownEvent) : Bool :=
  (e.src = 1 && bit (s.need e.part).lat 31) || e.src = 4 || e.src = 5

/-- A known event of that kind is due while the module is silent (R346). -/
def State.timerWake (s : State) (ahead : Nat) : State :=
  if s.pwr.zsp.state == .asleep && s.pwr.zsp.latched.isNone then
    match (s.knownEvents []).find? (fun e => s.wakesNet e && decide (e.time ≤ s.clk.lt + ahead)) with
    | some e => s.zspWake .timer .none e.index
    | none => s
  else s

/-- An exit begins, or an entry is aborted. -/
def State.leaveState (s : State) : State :=
  let p := s.pwr
  if p.target.isSome then s.startExit
  else if p.state != .run && !p.exiting then s.setPwr { p with exiting := true, began := s.clk.lt }
  else s

/-- Encke evaluates its choice (R339). DEDUCED: notes/assumptions/52.md. -/
def State.enckeChoose (s : State) (executing : Bool) (timers : List (Fin 32 × Nat)) : State :=
  let s := (s.setPwr { s.pwr with executing := executing }).timerWake 0
  let ev := s.knownEvents timers
  let st := s.encke ev
  let s := s.setPwr { s.pwr with known := s.limitOf ev st }
  let p := s.pwr
  if p.exiting then s
  else if st.code < p.state.code then s.leaveState
  else if st == p.state then
    (match p.target with | some x => if x == st then s else s.startExit | none => s)
  else if p.target == some st then s
  else
    s.setPwr { p with target := some st, began := s.clk.lt
                      exitAt := (s.residence ev st).map (fun r => s.clk.lt + r.1.toNat) }

def execEnckeChoose (t : Nat) (executing : Bool) (timers : List (Fin 32 × Nat)) (s : State) : Result :=
  eventAt t (fun s => s.enckeChoose executing timers) s

/-- The time spent in the state so far is added to its residence. -/
def State.countRes (s : State) : State :=
  let p := s.pwr
  let k := p.state.code
  s.setPwr { p with res := KMap.put p.res k (KMap.get p.res 0 k + (s.clk.lt - p.resAt)), resAt := s.clk.lt }

/-- An entry completes (R338). -/
def State.powerEntered (s : State) : State :=
  match s.pwr.target with
  | none => s
  | some st =>
    if s.clk.lt < s.pwr.began + st.entryNs then s
    else
      let s := s.countRes
      let p := s.pwr
      let last := if p.returned || p.last.code < st.code then st else p.last
      let s := s.setPwr { p with state := st, target := none, last := last, returned := false, slow := st == .drowse }
      if st == .park || st == .dormant then
        let s := { s with clk := { s.clk with parkAt := s.clk.lt } }
        let s := if st == .dormant && s.load.clockOn then
            ({ s with load := { s.load with clockOn := false, clockAt := s.clk.lt } } : State).raise 6 1 else s
        s.ptpPark.ainPark
      else s

def execPowerStateEntered (t : Nat) (s : State) : Result := eventAt t State.powerEntered s

/-- Encke's exit timer expires. DEDUCED: notes/assumptions/52.md. -/
def State.enckeExit (s : State) : State :=
  match s.pwr.exitAt with
  | none => s
  | some x =>
    if s.clk.lt < x then s
    else (s.setPwr { s.pwr with exitAt := none }).leaveState.timerWake (s.pwr.state.exitNs + s.regF R.PWR_CFG 23 8 * 1000)

def execEnckeExitTimer (t : Nat) (s : State) : Result := eventAt t State.enckeExit s

/-- The load of the fabric exceeds half of what DROWSE carries (R335). -/
def State.loadHigh (s : State) : State :=
  if s.pwr.state == .drowse && s.pwr.slow then
    let s := s.countRes
    s.setPwr { s.pwr with state := .nap, slow := false, noDrowse := s.clk.lt + 100000000 }
  else s

def execFabricLoadHigh (t : Nat) (s : State) : Result := eventAt t State.loadHigh s

/-! ## Needs (R337, R339, R344) -/

/-- A write of a partition's banked need registers (R351). -/
def State.needWrite (s : State) (p off : Nat) (w : Word) : State :=
  let n := s.need p
  let put (n : Need) : State := s.setPwr { s.pwr with needs := KMap.put s.pwr.needs p n }
  if off = 0x4C then put { n with lo := w }
  else if off = 0x54 then (put { n with lat := w }).zspCheck
  else
    let n := { n with time := pairVal n.lo w }
    let s := put n
    let from_ := s.pwr.target.getD s.pwr.state
    let late := from_ != .run && n.time + n.latUs * 1000 < s.clk.lt + from_.exitNs
    let s := s.when late (fun s => (s.addF R.PWR_LATE 31 0 1).leaveState)
    s.zspCheck

def execNeedDeclare (a : Acc) (val : Word) (s : State) : Result :=
  writeTo a R.PWR_NEXT_NEED_HI (fun s => s.needWrite (State.accPart a) 0x50 val) s

/-- The time of a need passes. -/
def State.needDue (s : State) (p : Nat) : State :=
  if s.isRunning p && decide ((s.need p).time ≤ s.clk.lt) then (s.timerWake 0).zspCheck else s

def execNeedDue (t : Nat) (part : Fin 32) (s : State) : Result := eventAt t (fun s => s.needDue part) s

/-! ## Protocol messages (R341 to R348) -/

/-- The message at the front of a carrier, its stamp, and the state with it released: none where there is none. A message
that is no protocol message has an empty body. DEDUCED: notes/assumptions/53.md. -/
def State.zspTake (s : State) (eth : Bool) (ecc : EccFound) : Option (List Byte × Nat × State) :=
  let bearer := s.regF R.PWR_ZSP_CFG 15 14
  if !s.regB R.PWR_CFG 4 then none
  else if eth then
    let q := s.regF R.PWR_ZSP_ETHQ 11 0
    if bearer < 2 || q < 192 || 200 ≤ q || s.queueOwner q ≠ 0 || !s.readable q then none
    else match s.readPacket q ecc with
      | none => none
      | some (p, s) =>
        let f := p.data.drop 16
        let b := f.drop (etypeOff f)
        let ok := be b 0 2 = s.regF R.PWR_ZSP_ETH 15 0
        some (if ok then (b.drop 2).take 8 else [], p.born, (s.readBegins q p).readEnds q p)
  else
    let w := s.reg R.PWR_ZSP_CAN
    let c := fld w 27 24
    let m := fld w 22 16
    let b := s.mb c m
    if bearer % 2 = 0 || s.mbOwner c m ≠ 0 || b.code != .rxFull then none
    else
      let f := mbFrame b.words
      let ok := f.ide && f.id / 2 ^ 8 % 2 ^ 16 = 0xFF00 + fld w 7 0 && 8 ≤ f.data.length
      some (if ok then f.data.take 8 else [], pairVal (b.wordAt 0x20) (b.wordAt 0x24), s.mbRelease c m)

/-- Byte `k` of a message. -/
def zspByte (b : List Byte) (k : Nat) : Nat := (b.getD k 0xFF).toNat

/-- A message of one type is read from a carrier; what no row acts on is read and released. Only the coordinator's
messages are acted on, apart from ANSWERs, and of two copies the first. DEDUCED: notes/assumptions/53.md. -/
def State.zspMessage (s : State) (eth : Bool) (ecc : EccFound) (type : Nat)
    (f : List Byte → Nat → State → State) : State :=
  match s.zspTake eth ecc with
  | none => s
  | some (b, stamp, out) =>
    let ty := zspByte b 0
    if b.isEmpty || ty = 0 || 4 < ty then out
    else if ty ≠ type then s
    else if ty ≠ 2 && zspByte b 2 ≠ s.regF R.PWR_ZSP_CFG 13 8 then out
    else if ty ≠ 2 && out.pwr.zsp.seen == some (b, !eth) then out.setZsp { out.pwr.zsp with seen := none }
    else f b stamp (if ty = 2 then out else out.setZsp { out.pwr.zsp with seen := some (b, eth) })

def ZspState.awakeLike : ZspState → Bool
  | .awake => true | .ready => true | .notReady => true | _ => false

/-- A QUERY (R343, R344, R348). -/
def State.zspQuery (s : State) (round : Nat) : State :=
  let z := s.pwr.zsp
  if !z.state.awakeLike then s
  else
    let s := s.setZsp { z with round := round, request := none, block := 0 }
    (s.zspAnswer s.notReady).raise pwrPage 0

/-- A COMMIT (R345). -/
def State.zspCommit (s : State) (round delay stamp : Nat) : State :=
  let z := s.pwr.zsp
  if !z.state.awakeLike then s
  else
    let why := s.notReady
    let z := { z with state := .committed, round := round, tc := stamp + max delay 20 * 1000000, firstReady := none }
    let s := (s.setZsp z).raise pwrPage 1
    if why = 0 then s
    else
      let l := if why = 3 then z.request else some (.software, 0)
      (s.setZsp { s.pwr.zsp with latched := l }).raise pwrPage 4

def State.zspAbort (s : State) : State :=
  let z := s.pwr.zsp
  if z.state == .ready || z.state == .notReady then (s.setZsp { z with state := .awake }).raise pwrPage 2 else s

/-- An ANSWER of another node (R348). -/
def State.zspNoteAnswer (s : State) (b : List Byte) : State :=
  let z := s.pwr.zsp
  let n := zspByte b 2
  if zspByte b 1 ≠ z.round || 64 ≤ n then s
  else
    let rest := z.block / 2 ^ (n + 1) * 2 ^ (n + 1) + z.block % 2 ^ n
    s.setZsp { z with block := rest + (if zspByte b 3 = 0 then 0 else 2 ^ n) }

def execZspQuery (t : Nat) (eth : Bool) (s : State) (ecc : EccFound := .clean) : Result :=
  eventAt t (fun s => s.zspMessage eth ecc 1 (fun b _ s => s.zspQuery (zspByte b 1))) s
def execZspCommit (t : Nat) (eth : Bool) (s : State) (ecc : EccFound := .clean) : Result :=
  eventAt t (fun s => s.zspMessage eth ecc 3 (fun b stamp s =>
    s.zspCommit (zspByte b 1) (zspByte b 4 + 256 * zspByte b 5) stamp)) s
def execZspAbort (t : Nat) (eth : Bool) (s : State) (ecc : EccFound := .clean) : Result :=
  eventAt t (fun s => s.zspMessage eth ecc 4 (fun _ _ s => s.zspAbort)) s
def execZspAnswer (t : Nat) (eth : Bool) (s : State) (ecc : EccFound := .clean) : Result :=
  eventAt t (fun s => s.zspMessage eth ecc 2 (fun b _ s => s.zspNoteAnswer b)) s

/-! ## Wake requests, T_c and the WAKE lines (R344 to R347) -/

/-- The wake request has been taken already, by the row of the input or bus it came from. -/
def State.wakeKnown (s : State) (cause : WakeCause) (index : Nat) : Bool :=
  let z := s.pwr.zsp
  z.request == some (cause, index) || z.latched.isSome
    || (z.valid && z.cause == cause && z.index == index && z.wakeLt == s.clk.lt)

/-- The causes of R344. -/
def WakeCause.requests : WakeCause → Bool
  | .wakeInput => true | .digitalInput => true | .can => true | .lin => true | .software => true | _ => false

def execWakeRequest (t : Nat) (cause : WakeCause) (index : Fin 256) (s : State) : Result :=
  eventAt t (fun s => if cause.requests && !s.wakeKnown cause index then s.wakeRequest cause index else s) s

/-- T_c: the module falls silent (R346). -/
def State.zspTc (s : State) : State :=
  let z := s.pwr.zsp
  if z.state == .committed && decide (z.tc ≤ s.clk.lt) then
    let s := s.setZsp { z with state := .asleep, silent := true }
    ((List.range 8).filter (fun l => s.linMode l == 1 && (s.lin l).state == .awake)).foldl
      (fun s l => s.setLin l { s.lin l with sleepAsked := true }) s
  else s

def execZspTc (t : Nat) (s : State) : Result := eventAt t State.zspTc s

/-- A WAKE line has been active for FILT_US. DEDUCED: notes/assumptions/53.md. -/
def State.wakeLine (s : State) (lines : Nat) : State :=
  let z := s.pwr.zsp
  let watched := fld (word lines &&& (s.reg R.PWR_WAKE_CFG >>> 16)) 1 0
  if watched = 0 || z.driving.isSome || z.state != .asleep || z.latched.isSome then s
  else s.zspWake .wakeLine .none (if watched % 2 = 1 then 0 else 1)

def execWakeLine (t : Nat) (lines : Fin 4) (s : State) : Result := eventAt t (fun s => s.wakeLine lines) s

/-- The drive of the WAKE lines begins (R346, R347). -/
def State.driveStart (s : State) : State :=
  let z := s.pwr.zsp
  let s := match z.latched with
    | some (c, i) =>
      if z.state == ZspState.asleep && decide (z.tc + 2000000 ≤ s.clk.lt) then s.zspWake WakeCause.afterCommit c i else s
    | none => s
  let z := s.pwr.zsp
  match z.driveFrom with
  | some f => if f ≤ s.clk.lt then s.setZsp { z with driveFrom := none, driving := some s.clk.lt } else s
  | none => s

def execWakeDriveStart (t : Nat) (s : State) : Result := eventAt t State.driveStart s

/-- PWR_WAKE_CFG.DRIVE_MS in ns. -/
def State.driveNs (s : State) : Nat := max 5 (s.regF R.PWR_WAKE_CFG 31 24) * 1000000

def State.driveEnd (s : State) : State :=
  match s.pwr.zsp.driving with
  | some d => if d + s.driveNs ≤ s.clk.lt then s.setZsp { s.pwr.zsp with driving := none } else s
  | none => s

def execWakeDriveEnd (t : Nat) (s : State) : Result := eventAt t State.driveEnd s

/-- WAKE_REASON goes out on one bearer (R341, R346). DEDUCED: notes/assumptions/53.md. -/
def State.wakeReason (s : State) (eth : Bool) : State :=
  let z := s.pwr.zsp
  let body := zspBody 5 z.round (s.regF R.PWR_ZSP_CFG 5 0) [z.cause.code, z.orig.code, z.index]
  let b := s.regF R.PWR_ZSP_CFG 15 14
  if z.silent then s
  else if eth then
    if z.reasonEth then (s.setZsp { z with reasonEth := false }).when (2 ≤ b) (fun s => s.zspEth body) else s
  else if z.reasonCan then (s.setZsp { z with reasonCan := false }).when (b % 2 = 1) (fun s => s.zspCan body) else s

def execWakeReasonSend (t : Nat) (eth : Bool) (s : State) : Result := eventAt t (fun s => s.wakeReason eth) s

/-- A write of PWR_CMD (R344, R350). DEDUCED: notes/assumptions/53.md. -/
def State.localSleep (s : State) (delay : Nat) : State :=
  let z := s.pwr.zsp
  if s.regB R.PWR_CFG 4 || !z.state.awakeLike then s
  else s.setZsp { z with state := .committed, tc := s.clk.lt + max delay 20 * 1000000 }

def State.pwrCmd (s : State) (w : Word) : State :=
  let s := s.when (bit w 0) (fun s => s.localSleep (fld w 31 16))
  s.when (bit w 1) (fun s => s.wakeRequest .software 0)

def execPwrWake (a : Acc) (s : State) : Result := writeTo a R.PWR_CMD (fun s => s.pwrCmd 2) s
def execLocalSleep (a : Acc) (delay : Fin 65536) (s : State) : Result :=
  writeTo a R.PWR_CMD (fun s => s.pwrCmd (setBit (mkF 31 16 delay) 0 true)) s

/-! ## What keeps the network awake (R348, R349) -/

def State.stayAwake (s : State) : State :=
  let z := s.pwr.zsp
  let w := s.reg R.PWR_ZSP_CTRL
  let sec := fld w 15 8
  match z.firstReady with
  | none => s
  | some r =>
    if sec = 0 || z.salDone || s.clk.lt < r + sec * 1000000000 then s
    else
      let s := (bitsOf (w >>> 16) 12).foldl (fun s c => s.salWrite c (setBit (s.reg (R.CAN_SAL_CTRL c)) 0 true)) s
      (s.setZsp { s.pwr.zsp with salDone := true }).raise pwrPage 5

def execStayAwake (t : Nat) (s : State) : Result := eventAt t State.stayAwake s

/-- DEDUCED: notes/assumptions/53.md. -/
def State.maxAwake (s : State) : State :=
  let z := s.pwr.zsp
  let min' := s.regF R.PWR_CFG 31 24
  if min' = 0 || s.awakeS < min' * 60 || !s.regB R.PWR_ZSP_CTRL 0 || z.maxDone || !z.state.awakeLike then s
  else
    let s := (s.setZsp { z with maxDone := true }).raise pwrPage 6
    if s.regB R.PWR_CFG 6 then s.setZsp { s.pwr.zsp with state := .committed, tc := s.clk.lt + 20000000 } else s

def execMaxAwake (t : Nat) (s : State) : Result := eventAt t State.maxAwake s

/-! ## Commits and registers (R343, R351, R352) -/

/-- A commit of the PWR page: clearing SLEEP_EN returns the engine to AWAKE (R343). -/
def State.pwrCommit (s old : State) : State :=
  let z := s.pwr.zsp
  let s := s.when (old.regB R.PWR_CFG 4 && !s.regB R.PWR_CFG 4 && z.state != ZspState.asleep)
    (fun s => s.setZsp { z with state := .awake, latched := none })
  s.zspCheck

/-- A write of PWR_ZSP_CTRL (R344). -/
def State.zspCtrl (s : State) (w : Word) : State := (s.setReg R.PWR_ZSP_CTRL (w &&& 0x0FFFFF01)).zspCheck

def ZspState.code : ZspState → Nat
  | .awake => 0 | .ready => 1 | .notReady => 2 | .committed => 3 | .asleep => 4

/-- Milliseconds spent in a state (R351). -/
def State.resMs (s : State) (k : Nat) : Nat :=
  (KMap.get s.pwr.res 0 k + (if s.pwr.state.code = k then s.clk.lt - s.pwr.resAt else 0)) / 1000000

def State.holds' (s : State) : Word :=
  let x := s.pwr
  setBit (setBit (setBit (setBit (setBit (setBit (setBit 0 6 x.executing) 5 (x.known.src != 0)) 4 s.noSleep)
    3 (decide (s.maxState < 5) && s.allowed == s.maxState)) 2 s.ledgerHold) 1 s.anyLease) 0 s.anyConducts

/-- Registers of the PWR page, as partition `p` reads them. -/
def State.viewPwr (s : State) (p off : Nat) : Option Word :=
  let x := s.pwr
  let z := x.zsp
  match off with
  | 0x40 => some (mkF 27 24 s.allowed ||| mkF 19 16 x.last.code ||| mkF 12 12 (x.target.isSome || x.exiting).toNat
      ||| mkF 11 8 ((x.target.map PwrState.code).getD 0) ||| mkF 3 0 x.state.code)
  | 0x4C => some (s.need p).lo
  | 0x50 => some (highWord (s.need p).time)
  | 0x54 => some (s.need p).lat
  | 0x58 => some (lowWord x.known.time)
  | 0x5C => some (highWord x.known.time)
  | 0x60 => some (mkF 27 16 x.known.index ||| mkF 12 8 x.known.part ||| mkF 3 0 x.known.src)
  | 0x64 => some s.holds'
  | 0x6C => some (word s.awakeS)
  | 0xA4 => some (mkF 31 31 z.valid.toNat ||| mkF 23 16 z.index ||| mkF 11 8 z.orig.code ||| mkF 3 0 z.cause.code)
  | 0xA8 => some (lowWord z.wakeLt)
  | 0xAC => some (highWord z.wakeLt)
  | 0xDC => some (mkF 16 16 z.latched.isSome.toNat ||| mkF 15 8 z.round ||| mkF 7 4 z.reason ||| mkF 2 0 z.state.code)
  | 0xE0 => some (lowWord z.tc)
  | 0xE4 => some (highWord z.tc)
  | 0xE8 => some (lowWord z.block)
  | 0xEC => some (highWord z.block)
  | _ => if 0x80 ≤ off && off < 0x98 then some (word (s.resMs ((off - 0x80) / 4))) else none

/-- CLK_STAT (R352, R333). -/
def State.clkStat (s : State) : Word :=
  let st := s.pwr.state
  let on := st != .park && st != .dormant
  let app := st == .run || st == .idle || st == .nap
  wordOfBits ((if s.load.clockOn then [8] else []) ++ (if app then [6] else []) ++ (if s.pwr.slow then [3] else [])
    ++ (if on then [0, 1, 2, 4, 5, 7] else []))

end Sys2Proof.Machine
end

