-- ==== Sys2Proof/Machine/TraceRec.lean ====
section
/-! DEFINITION. The trace recorder (spec/09, R226 to R228). -/

namespace Sys2Proof.Machine

def State.setTrace (s : State) (x : Trace) : State := { s with pool := { s.pool with trace := x } }

def State.ringBase (s : State) : Nat := s.regF R.QMGR_TRACE_BASE_LO 31 12 * 4096 + s.regF R.QMGR_TRACE_BASE_HI 3 0 * 2 ^ 32
def State.ringSize (s : State) : Nat := clamp 1 4096 (s.regF R.QMGR_TRACE_SIZE 12 0) * 1048576

/-- QMGR_TRACE_STAT.INVALID (R226); until the first commit of the page it reads 0, as its reset value says.
DEDUCED: notes/assumptions/35.md. -/
def State.traceInvalid (s : State) : Bool :=
  s.pool.trace.judged && (!inDram s.ringBase s.ringSize ||
  s.extEnabled.any (fun b => overlaps s.ringBase s.ringSize (s.extBase + (b - 16) * 0x20000000) 0x20000000))

def State.traceOn (s : State) : Bool := s.regB R.QMGR_TRACE_CTRL 31 && !s.traceInvalid

/-- The queue of an enabled slot that holds a packet (R226). -/
def State.slotQueue (s : State) (n : Nat) : Option Nat :=
  let w := s.reg (R.QMGR_TRACE_Q n)
  let q := fld w 11 0
  if bit w 31 && isMsgQueue q && !(s.queue q).visible.isEmpty then some q else none

/-- The next slot in turn (R226). -/
def State.nextSlot (s : State) : Option Nat :=
  (((List.range 8).map (fun k => (s.pool.trace.next + k) % 8)).filter (fun n => (s.slotQueue n).isSome)).head?

/-- The 16 bytes before a record's data (R227). -/
def traceHeader (slot len gap queue lt : Nat) : List Byte :=
  leBytes 4 (setBit (setFld (mkF 16 0 len) 23 20 slot) 31 true).toNat ++ leBytes 2 gap ++ leBytes 2 queue ++ leBytes 8 lt

/-- Bytes are written at WPTR and the records that they overwrite leave the list; `span` is the ring space taken. -/
def State.ringWrite (s : State) (l : List Byte) (span : Nat) : State :=
  let x := s.pool.trace
  let s := s.writeBytes (s.ringBase + x.wptr) l
  let kept := x.records.filter (fun r => !overlaps r.1 r.2 x.wptr span)
  let at' := x.wptr + span
  s.setTrace { x with records := kept ++ [(x.wptr, span)], wptr := if s.ringSize ≤ at' then 0 else at',
                      wrapped := x.wrapped || decide (s.ringSize ≤ at') }

/-- A wrap record fills the ring to its end (R227); its GAP and QUEUE fields are free values.
DEDUCED: notes/assumptions/35.md. -/
def State.wrapRing (s : State) : State :=
  let r := s.takeFree
  r.2.ringWrite (padTo 32 (traceHeader 15 0 r.1 (r.1 / 65536) s.clk.lt)) (s.ringSize - s.pool.trace.wptr)

/-- One packet becomes one record (R227). DEDUCED: notes/assumptions/35.md. -/
def State.recordPacket (s : State) (slot q : Nat) (p : Packet) : State :=
  let len := 32 * ceilDiv (16 + p.data.length) 32
  let s := if s.ringSize < s.pool.trace.wptr + len then s.wrapRing else s
  let s := s.ringWrite (padTo len (traceHeader slot p.data.length p.gap q s.clk.lt ++ p.data)) len
  let x := s.pool.trace
  s.setTrace { x with posting := x.posting.map (· - len) }

/-- The recorder takes the next packet; `ecc` is what ECC finds in its cells (R230). -/
def State.traceRecord (s : State) (ecc : EccFound) : State :=
  if !s.traceOn then s
  else match s.nextSlot with
    | none => s
    | some n =>
      let q := (s.slotQueue n).getD 0
      let x := s.pool.trace
      if x.posting = some 0 then s
      else match s.readPacket q ecc with
        | none => s
        | some (p, s) =>
          let s := s.setTrace { x with next := (n + 1) % 8 }
          if x.frozen then s.addF R.QMGR_TRACE_LOST 31 0 1 else s.recordPacket n q p

def execTraceRecord (t : Nat) (s : State) (ecc : EccFound := .clean) : Result :=
  eventAt t (fun s => s.traceRecord ecc) s

/-- QMGR_TRACE_CMD (R228): a write with more than one command bit set is ignored. DEDUCED: notes/assumptions/35.md. -/
def State.traceFreeze (s : State) : State :=
  let x := s.pool.trace
  if x.frozen || x.posting.isSome then s
  else s.setTrace { x with posting := some (s.regF R.QMGR_TRACE_CTRL 15 0 * 1024) }

def State.traceUnfreeze (s : State) : State := s.setTrace { s.pool.trace with frozen := false, posting := none }

def State.traceClear (s : State) : State := s.setTrace { s.pool.trace with wptr := 0, records := [], wrapped := false }

def State.traceCmd (s : State) (w : Word) : State :=
  match fld w 2 0 with
  | 1 => s.traceFreeze
  | 2 => s.traceUnfreeze
  | 4 => s.traceClear
  | _ => s

def execFreeze (a : Acc) (s : State) : Result := writeTo a R.QMGR_TRACE_CMD (fun s => s.traceCmd 1) s
def execUnfreeze (a : Acc) (s : State) : Result := writeTo a R.QMGR_TRACE_CMD (fun s => s.traceCmd 2) s
def execClear (a : Acc) (s : State) : Result := writeTo a R.QMGR_TRACE_CMD (fun s => s.traceCmd 4) s

/-- The writes after a FREEZE are complete (R228, R53). -/
def State.traceFrozen (s : State) : State :=
  let x := s.pool.trace
  if x.posting = some 0 then (s.setTrace { x with frozen := true, posting := none }).raise qmgrPage 5 else s

def execTraceFrozen (t : Nat) (s : State) : Result := eventAt t State.traceFrozen s

/-- QMGR_TRACE_STAT, WPTR and OLDEST. -/
def State.viewTrace (s : State) (off : Nat) : Option Word :=
  let x := s.pool.trace
  match off with
  | 0x154 => some (setBit (setBit (setBit (setBit (setBit 0 0 s.traceOn) 1 x.wrapped) 2 x.frozen) 3 s.traceInvalid)
      4 x.posting.isSome)
  | 0x158 => some (word x.wptr)
  | 0x15C => some (word ((x.records.map (·.1)).headD x.wptr))
  | _ => none

end Sys2Proof.Machine
end

