-- ==== Sys2Proof/Machine/Views.lean ====
section
/-! DEFINITION. What the registers of every page show to a reader: the common header, the coherence page, the routing
pages, the link and the pair, and the pages of the other chapters (R8, R36, R40, R54, R378, R404, R456). -/

namespace Sys2Proof.Machine

/-! ## The common header (R40, R456) -/

/-- PAGE_CAP, with the instances whose capabilities differ from those of their type. -/
def pageCap (idx : Nat) : Word :=
  match pageRowOf idx with
  | none => 0
  | some r =>
    let held := if idx = 110 then 32 else r.held
    let staged := r.stagedRegs && idx != 54 && idx != 55
    mkF 31 16 held ||| mkF 15 8 r.events ||| mkF 3 3 r.mirrored.toNat ||| mkF 2 2 r.resettable.toNat
      ||| mkF 1 1 r.snapshot.toNat ||| mkF 0 0 staged.toNat

def pageId (idx : Nat) : Word :=
  match pageRowOf idx with
  | none => 0
  | some r => mkF 31 24 r.code ||| mkF 23 16 (idx - r.firstIndex) ||| mkF 15 8 1

def PageMode.code : PageMode → Nat
  | .active => 0 | .quiescing => 1 | .quiesced => 2 | .resetting => 3
def PageFault.code : PageFault → Nat
  | .none => 0 | .drainTimeout => 1 | .resetNotQuiesced => 2 | .commandInvalid => 3 | .squashed => 4

/-- A region committed with a page holds staged edits (R15). -/
def State.regionDirty (s : State) (idx : Nat) : Bool := regionList.any (fun x => x.2 == idx && (s.region x.1).dirty)

/-- A page holds staged values or staged edits of a region. -/
def State.pageDirty (s : State) (idx : Nat) : Bool := s.stagedCount idx != 0 || s.regionDirty idx

/-- The work items of a page: accepted and not finished, or those of them that are started (R47, R128, R165, R172, R204,
R253, R285, R286). -/
def State.pageItems (s : State) (idx : Nat) (started : Bool) : Nat :=
  if 37 ≤ idx && idx < 49 then s.canItems (idx - 37) started
  else if 57 ≤ idx && idx < 84 then
    let n := idx - 57
    if started then (s.port n).sending.isSome.toNat + (s.port n).preempted.isSome.toNat else s.swpItems n
  else if 101 ≤ idx && idx < 109 then s.dmaItems idx started
  else if idx = 109 then s.gwItems started
  else if idx = 110 then s.openFrames.length
  else if idx = 111 then s.tpeItems started
  else 0

/-- Partner-view reads that channels of DMA page `idx` have issued and that have not completed (R254). -/
def State.viewReads (s : State) (idx : Nat) : Nat :=
  s.ulf.reads.countP (fun r => r.chan.any (fun c => c / 8 + 101 == idx))

/-- Squashed items of a page that have not left (R47). -/
def State.squashedItems (s : State) (idx : Nat) : Nat :=
  if (37 ≤ idx && idx < 49) || (57 ≤ idx && idx < 84) then s.pageItems idx true
  else if 101 ≤ idx && idx < 109 then s.viewReads idx else 0

/-- PAGE_INFLIGHT.COUNT. -/
def State.inflight (s : State) (idx : Nat) : Nat :=
  let p := s.page idx
  if p.mode == .active then s.pageItems idx false
  else match p.stop with
    | .squash => s.squashedItems idx
    | .quiesce => s.pageItems idx true
    | _ => s.pageItems idx false

/-- A header register, as partition `p` reads it. DEDUCED: notes/assumptions/65.md. -/
def State.viewHeader (s : State) (p idx off : Nat) : Word :=
  let g := s.page idx
  let b := s.bank p
  match off with
  | 0x00 => pageId idx
  | 0x04 => pageCap idx
  | 0x08 => mkF 31 31 (pageLocked idx).toNat ||| mkF 4 0 (s.pageOwner idx)
  | 0x0C => mkF 15 8 g.fault.code ||| mkF 1 0 g.mode.code
  | 0x10 => if idx = 0 then b.evStatus else s.reg (R.EVT_STATUS idx)
  | 0x14 => if idx = 0 then b.evEnable else s.reg (R.EVT_ENABLE idx)
  | 0x18 => if idx = 0 then b.evStatus &&& b.evEnable else s.reg (R.EVT_STATUS idx) &&& s.reg (R.EVT_ENABLE idx)
  | 0x1C => if idx = 0 then b.evStatus else s.reg (R.EVT_STATUS idx)
  | 0x20 => word g.epochSeen
  | 0x24 => mkF 31 31 (s.pageDirty idx).toNat ||| mkF 8 0 (s.stagedCount idx)
  | 0x2C => lowWord g.snapTime
  | 0x30 => highWord g.snapTime
  | 0x34 => s.reg (R.PAGE_RESET_CFG idx)
  | 0x38 => mkF 23 0 (s.inflight idx)
  | _ => 0

/-! ## The coherence page (R36) -/

def CommitResult.code : CommitResult → Nat
  | .none => 0 | .applied => 1 | .refusedDrain => 2 | .refusedTime => 3 | .refusedPending => 4 | .refusedScope => 5
  | .refusedKey => 6 | .cancelled => 7 | .refusedPair => 8 | .refusedMode => 9

def setIds : List SetId := [.sw, .gw, .part]

/-- A set whose other copy is not SPARE, or whose stage log is not replayed (R23, R29). -/
def State.setBusy (s : State) (x : SetId) : Bool := (s.setOf x).other != .spare || !(s.logOf x).isEmpty

/-- COH_STATUS.BUSY_DRAIN of partition `p` (R29). DEDUCED: notes/assumptions/20.md. -/
def State.busyDrain (s : State) (p : Nat) : Bool := setIds.any (fun x => (p == 0 || (s.setOf x).holder == some p) && s.setBusy x)

/-- COH_STATUS of partition `p`. -/
def State.cohStatus (s : State) (p : Nat) : Word :=
  let b := s.bank p
  mkF 31 16 b.lastEpoch ||| mkF 7 4 b.result.code ||| mkF 3 3 b.skipped.toNat ||| mkF 2 2 b.sealedWrite.toNat
    ||| mkF 1 1 (s.busyDrain p).toNat ||| mkF 0 0 b.pending.isSome.toNat

def OtherCopy.code : OtherCopy → Nat
  | .spare => 0 | .draining => 1 | .resync => 2

/-- A set's field of COH_GEN. -/
def State.genField (s : State) (x : SetId) : Nat :=
  let g := s.setOf x
  g.colour.toNat + g.other.code * 2 + (!(s.logOf x).isEmpty).toNat * 8

/-- A set's field of COH_HOLDER. -/
def GenSet.holderField (g : GenSet) : Nat := g.holder.isSome.toNat * 128 + g.holder.getD 0

/-- Items stamped with a colour of a set (R27). -/
def State.stamped (s : State) (x : SetId) (colour : Bool) : Nat :=
  match x with
  | .sw => (s.pool.frames.filter (fun f => f.2.colour == colour)).length
  | .gw =>
    let held : List RouteJob := s.gway.containers.flatMap (fun c => (c.2.open'.map (fun o => o.jobs)).getD [])
    ((s.gway.jobs ++ held).filter (fun j => j.colour == colour)).length
  | .part => (s.pool.queues.flatMap (fun q => q.2.visible ++ q.2.opens.map (fun o => o.2))).countP
      (fun p => p.colour == some colour && !p.dead)
    + (s.dma.chans.filter (fun c => c.2.move.any (fun m => m.colour == some colour))).length

/-- Items stamped with the DRAINING colour (COH_DRAIN_CNT). -/
def State.drainCount (s : State) (x : SetId) : Nat :=
  if (s.setOf x).other == .draining then s.stamped x (!(s.setOf x).colour) else 0

/-- COH_DRAIN_BOUND.BOUND_US: the largest age limit of the stream queues and the message queues, and batching window
(R30, R188, R218). DESIGN CHOICE: notes/assumptions/21.md. -/
def State.drainBound (s : State) : Nat :=
  let eff (n : Nat) : Nat := if n = 0 then 262143 else n
  let ages := (List.range 216).map (fun q => eff (s.regF (R.SWP_QCFG (q / 8) (q % 8)) 17 0))
  let msgs := (if s.pool.cfgA.length < 3880 then [fld cfgAReset 17 0] else []) ++
    s.pool.cfgA.map (fun x => eff (fld x.2 17 0))
  let tuns := (List.range 32).map (fun c => s.regF (R.TUN_BATCH c) 17 0)
  (ages ++ msgs ++ tuns).foldl max 0

/-- A register of the COH page, as partition `p` reads it; the semaphores are read by SEM_CLAIM.
DEDUCED: notes/assumptions/69.md. -/
def State.viewCoh (s : State) (p off : Nat) : Word :=
  let b := s.bank p
  match off with
  | 0x40 => word s.coh.epoch
  | 0x48 => b.timeLo
  | 0x4C => b.timeHi
  | 0x50 => s.cohStatus p
  | 0x60 => lowWord b.snapTime
  | 0x64 => highWord b.snapTime
  | 0x68 => lowWord s.coh.lastLt
  | 0x6C => highWord s.coh.lastLt
  | 0x70 => mkF 11 8 (s.genField .part) ||| mkF 7 4 (s.genField .gw) ||| mkF 3 0 (s.genField .sw)
  | 0x74 => mkF 23 16 s.pt.holderField ||| mkF 15 8 s.gwSet.holderField ||| mkF 7 0 s.sw.holderField
  | 0x78 => mkF 23 0 (s.drainCount .sw)
  | 0x7C => mkF 23 0 (s.drainCount .gw)
  | 0x80 => mkF 23 0 (s.drainCount .part)
  | 0x84 => mkF 17 0 s.drainBound
  | _ =>
    if 0xA0 ≤ off && off < 0xB4 then
      let k := (off - 0xA0) / 4
      wordOfBits ((List.range 32).filter (fun b =>
        let idx := 32 * k + b
        idx < 118 && (p == 0 || s.pageOwner idx == p) && s.pageDirty idx))
    else if 0x100 ≤ off && off < 0x180 then (if p = 0 then s.cohStatus ((off - 0x100) / 4) else 0)
    else if 0x200 ≤ off && off < 0x300 then
      match KMap.get? s.coh.sems ((off - 0x200) / 4) with
      | some q => mkF 8 8 1 ||| mkF 4 0 q
      | none => 0
    else 0

/-! ## The routing pages (R44, R54) -/

/-- The page whose event is source `n`, and the bit. -/
def sourcePage (n : Nat) : Option (Nat × Nat) :=
  (List.range 118).findSome? (fun idx =>
    let f := eventSource idx 0
    if f ≤ n && n < f + pageEvents idx then some (idx, n - f) else none)

/-- EVT_PENDING of a source; for a COH event, of any partition's copy. -/
def State.sourcePending (s : State) (n : Nat) : Bool :=
  if n < 4 then s.coh.banks.any (fun b => bit (b.2.evStatus &&& b.2.evEnable) n)
  else match sourcePage n with
    | some (idx, k) => bit (s.reg (R.EVT_STATUS idx) &&& s.reg (R.EVT_ENABLE idx)) k
    | none => false

def BusCause.code : BusCause → Nat
  | .notOwner => 1 | .size => 2 | .unmapped => 3 | .partnerWrite => 4 | .partnerDown => 5 | _ => 0

/-- Read-only registers of EVT page `k`. -/
def State.viewEvt (s : State) (k off : Nat) : Option Word :=
  let v := s.viol.head?
  if 0x460 ≤ off && off < 0x480 then
    some (wordOfBits ((List.range 32).filter (fun j => s.sourcePending (256 * k + 8 * (off - 0x460) + j))))
  else if k ≠ 0 then none
  else match off with
    | 0x440 => some (mkF 31 16 s.violLost ||| mkF 4 0 s.viol.length)
    | 0x444 => some (match v with
      | none => 0
      | some r => mkF 31 31 1 ||| mkF 20 16 r.part ||| mkF 12 8 r.requester ||| mkF 4 4 r.write.toNat ||| mkF 3 0 r.cause.code)
    | 0x448 => some (lowWord ((v.map (fun r => r.addr)).getD 0))
    | 0x44C => some (highWord ((v.map (fun r => r.addr)).getD 0) &&& 0xF)
    | 0x450 => some (lowWord ((v.map (fun r => r.time)).getD 0))
    | 0x454 => some (highWord ((v.map (fun r => r.time)).getD 0))
    | _ => none

/-! ## The link and the pair (R378, R404) -/

/-- Registers of the ULF page. -/
def State.viewUlf (s : State) (off : Nat) : Option Word :=
  let u := s.ulf
  let sel := s.regF R.ULF_LER_SEL 4 0
  let l := s.ler sel
  match off with
  | 0x4C => some (mkF 13 13 u.modeMismatch.toNat ||| mkF 12 12 u.idConflict.toNat ||| mkF 9 9 s.hw.paired.toNat
      ||| mkF 8 8 s.hw.unitId ||| mkF 5 4 u.lock ||| mkF 2 0 u.state.code)
  | 0x50 => some (lowWord u.lastGood)
  | 0x54 => some (highWord u.lastGood)
  | 0x58 => some (mkF 31 24 u.credC ||| mkF 21 16 u.credNp ||| mkF 15 8 u.credT ||| mkF 7 0 u.credP)
  | 0x5C => some (mkF 29 24 (u.reads.countP (fun r => !u.waitNp.any (fun f => f.tag == r.tag))) ||| mkF 20 16 u.fences.length ||| mkF 8 0 u.replay.length)
  | 0x6C => some (word u.downs)
  | 0x78 => some (lowWord u.txFlits)
  | 0x7C => some (highWord u.txFlits)
  | 0x80 => some (lowWord u.rxFlits)
  | 0x84 => some (highWord u.rxFlits)
  | 0x104 => some (match l with
    | [] => 0
    | e :: _ => mkF 31 31 1 ||| mkF 27 24 l.length ||| mkF 19 16 e.cause ||| mkF 15 0 e.tag)
  | 0x108 => some (lowWord ((l.head?.map (fun e => e.addr)).getD 0))
  | 0x10C => some (highWord ((l.head?.map (fun e => e.addr)).getD 0) &&& 0xF)
  | 0x110 => some (lowWord ((l.head?.map (fun e => e.time)).getD 0))
  | 0x114 => some (highWord ((l.head?.map (fun e => e.time)).getD 0))
  | 0x118 => some (word (s.lerLost sel))
  | 0x11C => some (wordOfBits ((List.range 32).filter (fun p => !(s.ler p).isEmpty)))
  | _ => none

def PairResult.code : PairResult → Nat
  | .none => 0 | .accepted => 1 | .refusedKey => 2 | .refusedState => 3 | .paused => 4 | .done => 5

/-- PAIR_PSTAT of partition `p`. DEDUCED: notes/assumptions/55.md. -/
def State.pairStat (s : State) (p : Nat) : Word :=
  let x := s.pp p
  mkF 24 16 (s.syncLeft p) ||| mkF 11 11 x.claimed.toNat ||| mkF 10 10 x.diverged.toNat
    ||| mkF 9 9 (s.isPaired p && s.pair.contact && bit s.pair.pHealthy p).toNat ||| mkF 8 8 (s.isPaired p && s.healthy p).toNat
    ||| mkF 6 4 (s.partnerRole p).code ||| mkF 2 0 x.role.code

/-- Registers of the PAIR page. -/
def State.viewPair (s : State) (off : Nat) : Option Word :=
  let x := s.pair
  match off with
  | 0x44 => some (mkF 9 9 x.authFault.toNat ||| mkF 8 8 s.hw.unitId ||| mkF 6 6 x.mismatch.toNat ||| mkF 5 5 x.left.toNat
      ||| mkF 4 4 x.leaving.toNat ||| mkF 3 3 x.pSleep.toNat ||| mkF 2 2 s.authOut.toNat ||| mkF 1 1 x.authIn.toNat
      ||| mkF 0 0 x.contact.toNat)
  | 0x48 => some (word (s.ageUs x.leaseAt))
  | 0x4C => some (word (s.ageUs x.bbAt))
  | 0x5C => some s.activeMask
  | 0x60 => some x.pActive
  | 0x68 => some (mkF 12 8 x.cmdTarget ||| mkF 3 0 x.cmdResult.code)
  | 0x6C => some (mkF 14 12 x.lastRole.code ||| mkF 11 8 x.lastCause.code ||| mkF 4 0 x.lastPart)
  | 0x70 => some (lowWord x.lastLt)
  | 0x74 => some (highWord x.lastLt)
  | 0x100 => some (setBit (s.reg (R.PAIR_PCFG 0)) 31 false)
  | _ => if 0x180 ≤ off && off < 0x200 then some (s.pairStat ((off - 0x180) / 4)) else none

/-! ## Every page -/

/-- The registers of a page that are not simply held, as partition `p` reads them. -/
def State.viewBlock (s : State) (p idx off : Nat) : Option Word :=
  if idx = 0 then some (s.viewCoh p off)
  else if idx < 5 then s.viewEvt (idx - 1) off
  else if idx = 5 then s.viewPwr p off
  else if idx = 6 then (if off = 0x40 then some s.clkStat else none)
  else if idx = 7 then s.viewTime off
  else if idx < 10 then s.viewPtp (idx - 8) off
  else if idx = 10 then s.viewPart off
  else if idx < 15 then s.viewLsb (idx - 11) off
  else if idx = 15 then s.viewPgen off
  else if idx = 16 then s.viewLedg off
  else if idx < 33 then s.viewLsc (idx - 17) off
  else if idx < 37 then s.viewInp (idx - 33) off
  else if idx < 49 then s.viewCan (idx - 37) off
  else if idx < 53 then
    (if off = 0x118 then some (s.linStat (2 * (idx - 49))) else if off = 0x418 then some (s.linStat (2 * (idx - 49) + 1))
     else none)
  else if idx < 57 then s.viewSwc (idx - 53) off
  else if idx < 84 then s.viewSwp (idx - 57) off
  else if idx = 84 then (match s.viewQmgr off with | some w => some w | none => s.viewTrace off)
  else if idx < 101 then
    (if 0x40 ≤ off && off < 0x440 then some (s.queue (256 * (idx - 85) + (off - 0x40) / 4)).count else none)
  else if idx < 109 then s.viewDma (idx - 101) off
  else if idx < 111 then s.viewGw (idx - 109) off
  else if idx = 111 then s.viewTpe off
  else if idx = 112 then s.viewUlf off
  else if idx = 113 then s.viewPair off
  else if idx = 114 then s.viewSec off
  else if idx = 115 then s.viewUpd off
  else if idx = 116 then s.viewDramc off
  else s.viewStor off

/-- The current value of the register at a lower-half offset of a page, as partition `p` reads it; offsets without a
register, and write-only registers, read 0 (R4, R5). EVT_FORCE, the one register of code W1S, shows the bits that it
sets. -/
def State.live (s : State) (p idx off : Nat) : Word :=
  match regRowAt idx off with
  | none => 0
  | some r =>
    if off < 0x40 then s.viewHeader p idx off
    else if r.access = .wo then 0
    else match s.viewBlock p idx off with
      | some w => w
      | none => s.reg (pageBase idx + off)

/-- The staged value of an ST register, in the shadow half (R8); its read-only fields show what they are (CAN_TDC.TDCV,
TPE_CTRL.BUF_INVALID). -/
def State.liveStaged (s : State) (idx off : Nat) : Word :=
  let addr := pageBase idx + off
  let q := s.regF R.QMGR_QSEL 11 0
  if addr = R.QMGR_QCFG_A then (if isMsgQueue q then (KMap.get? s.pool.stagedA q).getD (s.qcfgA q) else 0)
  else if addr = R.QMGR_QCFG_B then (if isMsgQueue q then (KMap.get? s.pool.stagedB q).getD (s.qcfgB q) else 0)
  else match KMap.get? s.staged addr with
    | some w =>
      if 37 ≤ idx && idx < 49 && off = 0x50 then setFld w 22 16 (fld (s.live 0 idx off) 22 16)
      else if idx = 111 && off = 0x40 then setFld w 31 31 (fld (s.live 0 idx off) 31 31)
      else w
    | none => s.live 0 idx off

/-! ## Snapshots (R31) -/

/-- The counters and measured values of a page that a snapshot latches: its RC counts and extremes, and the read-only
registers that its chapter names. DEDUCED: notes/assumptions/15.md. -/
def latched (idx off : Nat) : Bool :=
  match regRowAt idx off with
  | none => false
  | some r =>
    if idx = 54 then 0x44 ≤ off && off < 0x50
    else if idx = 55 then 0x44 ≤ off && off < 0x58
    else if idx = 5 then off = 0x58 || off = 0x5C || off = 0x68 || off = 0x6C || (0x80 ≤ off && off < 0x98)
    else if idx = 7 then (0x40 ≤ off && off < 0x50) || off = 0x58 || r.access = .rc
    else if idx = 8 || idx = 9 then off = 0x4C || off = 0x50 || off = 0x68 || r.access = .rc
    else if 11 ≤ idx && idx < 15 then off = 0x48 || off = 0x4C || r.access = .rc || off = 0xA4
    else if idx = 15 then 0x100 ≤ off && (off % 0x20 = 8 || off % 0x20 = 0xC)
    else if idx = 16 then off = 0x48 || off = 0x4C || off = 0x50 || r.access = .rc
    else if 17 ≤ idx && idx < 33 then
      let o := off % 0x80
      r.access = .rc || (0x100 ≤ off && off < 0x500 &&
        (o = 0x48 || o = 0x4C || o = 0x50 || o = 0x5C || o = 0x24 || o = 0x28 || o = 0x2C))
    else if 33 ≤ idx && idx < 37 then
      (0x100 ≤ off && off < 0x200 && off % 16 = 8) || off = 0x200 || (0x280 ≤ off && off < 0x2C0 && off % 16 ≠ 0)
        || off = 0x304 || off = 0x314
    else if 37 ≤ idx && idx < 49 then off = 0x58 || (r.access = .rc && off ≠ 0x5C)
    else if 57 ≤ idx && idx < 84 then (0x120 ≤ off && off < 0x130) || off = 0x50 || r.access = .rc
    else if idx = 84 then off = 0x64 || off = 0x68 || (0x80 ≤ off && off < 0x100) || r.access = .rc
    else if 85 ≤ idx && idx < 101 then 0x40 ≤ off
    else if 101 ≤ idx && idx < 109 then r.access = .rc || (0x100 ≤ off && off % 0x80 = 0x30) || (0x100 ≤ off && off % 0x80 = 0x34)
    else if idx = 112 then r.access = .rc || (0x6C ≤ off && off < 0x88)
    else if idx = 113 then off = 0x48 || off = 0x4C || r.access = .rc
    else if idx = 116 then off = 0x4C || r.access = .rc
    else if idx = 117 then off = 0x5C || r.access = .rc
    else r.access = .rc

/-- The latched offsets of a page. -/
def latchedOffs (idx : Nat) : List Nat := ((List.range 512).map (· * 4)).filter (latched idx)

/-- A page is latched at this instant. -/
def State.latch (s : State) (idx : Nat) : State :=
  let h := (latchedOffs idx).foldl (fun h off => KMap.put h (pageBase idx + off) (s.live 0 idx off)) s.held
  let s : State := { s with held := h, heldRead := s.heldRead.filter (fun a => pageAt a != some idx) }
  s.updPage idx (fun g => { g with held := true, snapTime := s.clk.lt })

/-- The hold of a page ends. -/
def State.unhold (s : State) (idx : Nat) : State :=
  ({ s with held := KMap.keep s.held (fun a => pageAt a != some idx) } : State).updPage idx (fun g => { g with held := false })

/-- The page holds counters or measured values (PAGE_CAP.SNAPSHOT). -/
def pageSnapshot (idx : Nat) : Bool := ((pageRowOf idx).map (fun r => r.snapshot)).getD false

end Sys2Proof.Machine
end

