-- ==== Sys2Proof/Machine/DmaCmds.lean ====
section
/-! DEFINITION. The software commands of the DMA channels (spec/10, R234, R245). -/

namespace Sys2Proof.Machine

/-- CMD_REFUSED of a channel. -/
def State.dmaRefuse (s : State) (c : Nat) : State := s.setDchan c { s.dchan c with refused := true }

/-- DMA_CMD.START. DEDUCED: notes/assumptions/46.md. -/
def State.dmaStart (s : State) (c pc : Nat) : State :=
  let x := s.dchan c
  if (x.state == .idle || x.state == .halted) && !x.removing then
    (s.setDchan c { x with
      state := .running, pc := pc, lc0 := 0, lc1 := 0, pace := false, squashed := false, ringDone := 0, prefetch := 0,
      stop := false }).dmaSettle c
  else s.dmaRefuse c

/-- DMA_CMD.STOP: the current instruction completes. -/
def State.dmaStop (s : State) (c : Nat) : State :=
  let x := s.dchan c
  if x.runs then (s.setDchan c { x with stop := true }).dmaSettle c else s.dmaRefuse c

/-- DMA_CMD.CLEAR. -/
def State.dmaClear (s : State) (c : Nat) : State :=
  let x := s.dchan c
  if x.state == .fault then s.setDchan c { x with state := .halted } else s.dmaRefuse c

/-- A write of DMA_CMD: one with no command bit does nothing, and one with more than one is none of R234.
DESIGN CHOICE: notes/assumptions/18.md. -/
def State.dmaCmd (s : State) (c : Nat) (w : Word) : State :=
  match fld w 2 0 with
  | 0 => s
  | 1 => s.dmaStart c (fld w 13 8)
  | 2 => s.dmaStop c
  | 4 => s.dmaClear c
  | _ => s.dmaRefuse c

/-- A channel's trigger flag is set (R245). -/
def State.dmaSetTrig (s : State) (c : Nat) : State := s.setDchan c { s.dchan c with trig := true }

/-- A write of DMA_TRIG of page `k`. -/
def State.dmaTrigger (s : State) (k : Nat) (w : Word) : State :=
  (bitsOf w 8).foldl (fun s n => s.dmaSetTrig (8 * k + n)) s

def execDmaStart (a : Acc) (ch : Fin 64) (pc : Fin 64) (s : State) : Result :=
  writeTo a (R.DMA_CMD ch) (fun s => s.dmaCmd ch (mkF 13 8 pc ||| 1)) s
def execStop (a : Acc) (ch : Fin 64) (s : State) : Result := writeTo a (R.DMA_CMD ch) (fun s => s.dmaCmd ch 2) s
def execDmaClear (a : Acc) (ch : Fin 64) (s : State) : Result := writeTo a (R.DMA_CMD ch) (fun s => s.dmaCmd ch 4) s
def execDmaTrig (a : Acc) (page : Fin 8) (mask : Byte) (s : State) : Result :=
  writeTo a (R.DMA_TRIG page) (fun s => s.dmaTrigger page (word mask.toNat)) s

/-- A removed channel that rests powers down. -/
def execChOff (t : Nat) (ch : Fin 64) (s : State) : Result := eventAt t (fun s => s.dmaOff ch) s

end Sys2Proof.Machine
end

