-- ==== Sys2Proof/Machine/LinkCmds.lean ====
section
/-! DEFINITION. The software commands of the Uloft link and of the pair controller (spec/15, R356, R375, R378; spec/16,
R381, R400, R401, R404). -/

namespace Sys2Proof.Machine

/-! ## The link -/

/-- Entry into RETRAIN from UP. -/
def State.enterRetrain (s : State) : State :=
  if s.ulf.state != .up then s
  else ((s.setUlf { s.ulf with state := .retrain, since := s.clk.lt }).addF R.ULF_RETRAINS 31 0 1).raise ulfPage 2

/-- The oldest entry of the LER that ULF_LER_SEL names is discarded. -/
def State.lerPop (s : State) : State :=
  let p := s.regF R.ULF_LER_SEL 4 0
  s.setUlf { s.ulf with lers := KMap.put s.ulf.lers p ((s.ler p).drop 1) }

/-- A write of ULF_CMD. -/
def State.ulfCmd (s : State) (w : Word) : State :=
  (s.when (bit w 1) (fun s => s.lerPop)).when (bit w 0) (fun s => s.enterRetrain)

def execUlfRetrain (a : Acc) (s : State) : Result := writeTo a R.ULF_CMD (fun s => s.ulfCmd 1) s
def execLerPop (a : Acc) (s : State) : Result := writeTo a R.ULF_CMD (fun s => s.ulfCmd 2) s

/-! ## The pair -/

def State.pairResult (s : State) (r : PairResult) : State := s.setPair' { s.pair with cmdResult := r }

/-- HANDOVER of a partition (R400). DEDUCED: notes/assumptions/57.md. -/
def State.pairHandover (s : State) (p : Nat) : State :=
  if s.roleOf p == .active && s.pair.contact && s.partnerReady p && (s.bank p).pending.isNone && s.pair.handover.isNone then
    (s.pairResult .accepted).beginHandover p
  else s.pairResult .refusedState

/-- LEAVE (R401). DEDUCED: notes/assumptions/57.md. -/
def State.pairLeave (s : State) : State :=
  if s.pairOn && !s.pair.leaving && !s.pair.left then
    (s.setPair' { s.pair with leaving := true, cmdResult := .accepted }).leaveStep
  else s.pairResult .refusedState

/-- CANCEL_LEAVE: a unit that has left greets its partner again (R401). DEDUCED: notes/assumptions/57.md. -/
def State.pairCancelLeave (s : State) : State :=
  if !s.pair.leaving && !s.pair.left then s.pairResult .refusedState
  else
    let gone := s.pair.left
    let s := s.setPair' { s.pair with leaving := false, left := false, cmdResult := .accepted }
    s.when (gone && s.pairOn && s.ulf.state == .up) (fun s => s.sendHello)

/-- A write of PAIR_CMD. DESIGN CHOICE: notes/assumptions/18.md. -/
def State.pairCmd (s : State) (w : Word) : State :=
  let p := fld w 4 0
  let s := s.setPair' { s.pair with cmdTarget := p }
  if fld w 31 24 ≠ 0x96 then s.pairResult .refusedKey
  else match fld w 10 8 with
    | 1 => s.pairHandover p
    | 2 => s.pairLeave
    | 3 => s.pairCancelLeave
    | _ => s.pairResult .refusedState

def pairCmdAt (a : Acc) (key : Byte) (action target : Nat) (s : State) : Result :=
  writeTo a R.PAIR_CMD (fun s => s.pairCmd (mkF 31 24 key.toNat ||| mkF 10 8 action ||| mkF 4 0 target)) s

def execHandover (a : Acc) (key : Byte) (target : Fin 32) (s : State) : Result := pairCmdAt a key 1 target s
def execLeave (a : Acc) (key : Byte) (s : State) : Result := pairCmdAt a key 2 0 s
def execCancelLeave (a : Acc) (key : Byte) (s : State) : Result := pairCmdAt a key 3 0 s

/-- A heartbeat of partition `p` (R381). -/
def State.pairHeart (s : State) (p : Nat) : State := s.setPp p { s.pp p with heart := some s.clk.lt }

def execPairHeart (a : Acc) (s : State) : Result :=
  writeTo a R.PAIR_HEART (fun s => s.pairHeart (State.accPart a)) s

end Sys2Proof.Machine
end

