-- ==== Sys2Proof/Machine/PageCmds.lean ====
section
/-! DEFINITION. Page commands, the page state machine, page resets and snapshots (spec/02, R46 to R49; spec/01, R31, R32). -/

namespace Sys2Proof.Machine

/-! ## The page state machine (R47, R49) -/

/-- STATE_DONE of a page. DEDUCED: notes/assumptions/19.md. -/
def State.stateDone (s : State) (idx : Nat) : State := s.raise idx (pageEvents idx - 1)

def State.pageFaults (s : State) (idx : Nat) (f : PageFault) : State := s.updPage idx (fun g => { g with fault := f })

/-- T_d in ns: DRAIN_TIMEOUT_US, 0 behaving as 1. -/
def State.drainNs (s : State) (idx : Nat) : Nat := max 1 (s.regF (R.PAGE_RESET_CFG idx) 17 0) * 1000

/-- A page enters RESETTING; the interrogations of a load channel page are aborted (R116). -/
def State.enterResetting (s : State) (idx : Nat) : State :=
  let s := if 17 ≤ idx && idx < 33 then (List.range 8).foldl (fun s n => s.abortTag (8 * (idx - 17) + n)) s else s
  s.updPage idx (fun g => { g with mode := .resetting, resetPending := false, deadline := none, resetSince := s.clk.lt })

/-- The work of a QUIESCING page has come to its end: PAGE_INFLIGHT.COUNT is 0. DEDUCED: notes/assumptions/19.md. -/
def State.settlePage (s : State) (idx : Nat) : State :=
  let g := s.page idx
  if g.mode != .quiescing || s.inflight idx != 0 then s
  else if g.resetPending then
    let s := s.enterResetting idx
    if g.stop == .squash then s else s.stateDone idx
  else (s.updPage idx (fun g => { g with mode := .quiesced, deadline := none })).stateDone idx

/-- A page refuses new work and begins to stop in one of the ways of R47. -/
def State.stopPage (s : State) (idx : Nat) (k : StopKind) (resetPending : Bool) : State :=
  let td := if k == .drain then some (s.clk.lt + s.drainNs idx) else none
  let s := s.updPage idx (fun g =>
    { g with mode := .quiescing, stop := k, fault := .none, resetPending := resetPending, deadline := td })
  let s := if 101 ≤ idx && idx < 109 then s.dmaSettlePage idx
    else if idx = 110 && k == .drain then s.tunDrain else s
  s.settlePage idx

/-- The remaining work of a page is squashed: whether an item was discarded. -/
def State.squashWork (s : State) (idx : Nat) : State × Bool :=
  let before := s.pageItems idx false
  if idx = 109 then s.gwSquash
  else if idx = 111 then s.tpeSquash
  else
    let n :=
      if 37 ≤ idx && idx < 49 then s.canSquash (idx - 37) (fun k => mbWaits (s.mb (idx - 37) k).code) true
      else if 57 ≤ idx && idx < 84 then s.swpSquash (idx - 57)
      else if 101 ≤ idx && idx < 109 then s.dmaSquash idx
      else if idx = 110 then s.tunSquash else s
    (n, decide (n.squashedItems idx < before))

/-- SQUASH in QUIESCING or QUIESCED; the drain limit of a pending reset runs on. DEDUCED: notes/assumptions/19.md. -/
def State.squashPage (s : State) (idx : Nat) : State :=
  let r := s.squashWork idx
  (r.1.updPage idx (fun g => { g with
    mode := .quiescing, stop := .squash, deadline := if g.resetPending then g.deadline else none,
    fault := if r.2 then .squashed else .none })).settlePage idx

/-- RESUME in QUIESCING or QUIESCED: kept work proceeds. -/
def State.resumePage (s : State) (idx : Nat) : State :=
  let s := s.updPage idx (fun g =>
    { g with mode := .active, stop := .none, fault := .none, resetPending := false, deadline := none })
  if 101 ≤ idx && idx < 109 then s.dmaResume idx else s

/-- PAGE_CMD.RESET outside RESETTING. -/
def State.resetPageCmd (s : State) (idx : Nat) : State :=
  let auto := s.regB (R.PAGE_RESET_CFG idx) 31
  match (s.page idx).mode with
  | .quiesced => (s.pageFaults idx .none).enterResetting idx
  | .active => if auto then s.stopPage idx .drain true else s.pageFaults idx .resetNotQuiesced
  | _ => s.pageFaults idx (if auto then .commandInvalid else .resetNotQuiesced)

/-! ## Snapshots (R31, R32) -/

/-- PAGE_CMD.SNAPSHOT. COH_SNAP_TIME is the time of a COH_SNAPSHOT. DEDUCED: notes/assumptions/15.md. -/
def State.snapshotPage (s : State) (idx : Nat) : State := (s.pageFaults idx .none).latch idx

/-- COH_SNAPSHOT.TAKE by partition `p`. DEDUCED: notes/assumptions/15.md. -/
def State.snapshotAll (s : State) (p : Nat) : State :=
  let s := ((List.range 118).filter (fun idx => s.mayOwn p idx)).foldl (fun s idx => s.latch idx) s
  s.setBank p { s.bank p with snapTime := s.clk.lt }

/-- COH_SNAP_RELEASE by partition `p`. -/
def State.snapRelease (s : State) (p : Nat) (w : Word) : State :=
  let l := if bit w 31 then List.range 118 else [fld w 7 0].filter (· < 118)
  (l.filter (fun idx => s.mayOwn p idx && (s.page idx).held)).foldl (fun s idx => s.unhold idx) s

/-! ## PAGE_CMD (R46) -/

/-- The command of one PAGE_CMD bit, in a page that is not RESETTING. DESIGN CHOICE: notes/assumptions/18.md. -/
def State.pageCommand (s : State) (p idx k : Nat) : State :=
  let m := (s.page idx).mode
  let invalid := s.pageFaults idx .commandInvalid
  if k = 4 then s.snapshotPage idx
  else if k = 5 then s.discardStage p idx
  else if !pageResettable idx then invalid
  else match k with
    | 0 => if m == .active then s.stopPage idx .quiesce false else invalid
    | 1 => if m == .active then s.stopPage idx .drain false else invalid
    | 2 => if m == .active then invalid else s.squashPage idx
    | 3 => if m == .active then s else s.resumePage idx
    | _ => s.resetPageCmd idx

/-- A write of PAGE_CMD by partition `p`. -/
def State.pageCmd (s : State) (p idx : Nat) (w : Word) : State :=
  match bitsOf w 7 with
  | [] => s
  | [k] =>
    if (s.page idx).mode == .resetting && k ≠ 5 then s.pageFaults idx .commandInvalid else s.pageCommand p idx k
  | _ => s.pageFaults idx .commandInvalid

/-- A PAGE_CMD write of one command bit. -/
def pageCmdAt (a : Acc) (idx k : Nat) (s : State) : Result :=
  writeTo a (R.PAGE_CMD idx) (fun s => s.pageCmd (State.accPart a) idx (setBit 0 k true)) s

def execQuiesce (a : Acc) (page : Fin 118) (s : State) : Result := pageCmdAt a page 0 s
def execDrain (a : Acc) (page : Fin 118) (s : State) : Result := pageCmdAt a page 1 s
def execSquash (a : Acc) (page : Fin 118) (s : State) : Result := pageCmdAt a page 2 s
def execResume (a : Acc) (page : Fin 118) (s : State) : Result := pageCmdAt a page 3 s
def execReset (a : Acc) (page : Fin 118) (s : State) : Result := pageCmdAt a page 6 s
def execSnapshot (a : Acc) (page : Fin 118) (s : State) : Result := pageCmdAt a page 4 s

def execCohSnapshot (a : Acc) (s : State) : Result :=
  writeTo a R.COH_SNAPSHOT (fun s => s.snapshotAll (State.accPart a)) s

def execSnapRelease (a : Acc) (all : Bool) (page : Fin 256) (s : State) : Result :=
  writeTo a R.COH_SNAP_RELEASE (fun s => s.snapRelease (State.accPart a) (mkF 31 31 all.toNat ||| mkF 7 0 page)) s

/-! ## The ends of a stop and of a reset (R47, R48) -/

def execPageInflightZero (t : Nat) (page : Fin 118) (s : State) : Result :=
  eventAt t (fun s => if (s.page page).stop == .squash then s else s.settlePage page) s

def execSquashComplete (t : Nat) (page : Fin 118) (s : State) : Result :=
  eventAt t (fun s => if (s.page page).stop == .squash then s.settlePage page else s) s

/-- T_d expires. -/
def State.drainExpiry (s : State) (idx : Nat) : State :=
  let g := s.page idx
  match g.deadline with
  | none => s
  | some d =>
    if g.mode != .quiescing || s.clk.lt < d then s
    else
      let s := s.updPage idx (fun g => { g with deadline := none, fault := .drainTimeout })
      if g.resetPending then
        let s := (s.squashWork idx).1
        (s.updPage idx (fun g => { g with stop := .squash })).settlePage idx
      else s.stateDone idx

def execDrainTimeout (t : Nat) (page : Fin 118) (s : State) : Result := eventAt t (fun s => s.drainExpiry page) s

/-- What a page reset clears in the block, beside the registers that are simply held. -/
def State.resetBlock (s : State) (idx : Nat) : State :=
  if 17 ≤ idx && idx < 33 then s.lscPageReset (idx - 17)
  else if 33 ≤ idx && idx < 37 then s.inpReset (idx - 33)
  else if 37 ≤ idx && idx < 49 then s.canReset (idx - 37)
  else if 49 ≤ idx && idx < 53 then (s.linReset (2 * (idx - 49))).linReset (2 * (idx - 49) + 1)
  else if 57 ≤ idx && idx < 84 then s.swpReset (idx - 57)
  else if 101 ≤ idx && idx < 109 then s.dmaReset idx
  else if idx = 109 then s.gwReset
  else if idx = 110 then s.tunReset
  else if idx = 111 then s.tpeReset
  else s

/-- A register whose value a page reset clears: not staged and not of the header; load channel pages name theirs. -/
def clearedReg (idx addr : Nat) : Bool :=
  pageAt addr == some idx && !(17 ≤ idx && idx < 33) && decide (0x40 ≤ addr % 0x1000) &&
    (match regRowAt idx (addr % 0x1000) with
    | some r => r.access != .st
    | none => true)

/-- The runtime state of a page is cleared (R48). -/
def State.clearPage (s : State) (idx : Nat) : State :=
  let s : State := { s with regs := KMap.keep s.regs (fun a => !clearedReg idx a) }
  let s := s.resetBlock idx
  s.setEvents idx (s.reg (R.EVT_STATUS idx) &&& setBit 0 (pageEvents idx - 1) true) (s.reg (R.EVT_ENABLE idx))

/-- 1,024 fabric cycles of RESETTING have elapsed. DEDUCED: notes/assumptions/19.md. -/
def State.pageResetDone (s : State) (idx : Nat) : State :=
  let g := s.page idx
  if g.mode != .resetting || s.clk.lt < g.resetSince + 1024 * s.cycleNs then s
  else ((s.clearPage idx).updPage idx (fun g => { g with mode := .active, stop := .none })).stateDone idx

def execPageResetComplete (t : Nat) (page : Fin 118) (s : State) : Result := eventAt t (fun s => s.pageResetDone page) s

end Sys2Proof.Machine
end

