-- ==== Sys2Proof/Machine/Commit.lean ====
section
/-! DEFINITION. Commits, their edges and what each block does at one, cancels, draining and resynchronisation, and the
semaphores (spec/01, R15 to R30, R35, R45; spec/16, R380, R397). -/

namespace Sys2Proof.Machine

/-! ## Staged table regions at an edge (R15) -/

/-- A staged table entry was written since the region's last switch. -/
def Region.kept (r : Region) (a : Nat) : Bool :=
  match tableAt a with
  | some (.region _ _ e) => r.since.contains e
  | _ => false

/-- The region's spare copy takes the contents of the copy in use, but for the entries written since the switch. -/
def Region.resynced (r : Region) : Region :=
  { r with
    spare := (KMap.keep r.spare r.kept).foldl (fun m x => KMap.put m x.1 x.2) (KMap.keep r.active (fun a => !r.kept a))
    resync := false, since := [] }

/-- The copies of a dirty region change places. DEDUCED: notes/assumptions/32.md. -/
def Region.switch (r : Region) (lt : Nat) : Region :=
  let r := if r.resync then r.resynced else r
  { r with active := r.spare, spare := r.active, dirty := false, resync := true, since := [], switched := lt }

/-- Fabric cycles a region's resynchronisation takes, at 64 bytes a cycle. -/
def regionCycles (key : Nat) : Nat :=
  if key < 27 then 32 else if key < 48 then 64 else if key = 48 then 16384 else if key = 49 then 512
  else if key = 50 then 384 else 32

/-- The spare copy of a switched region is resynchronised. -/
def State.regionDone (s : State) (key : Nat) : State :=
  let r := s.region key
  if r.resync && r.switched + regionCycles key * s.cycleNs ≤ s.clk.lt then s.setRegion key r.resynced else s

def execRegionResyncComplete (t : Nat) (region : RegionId) (s : State) : Result :=
  eventAt t (fun s => s.regionDone (regionKey region)) s

/-! ## What a commit covers (R20, R22, R23) -/

def State.commitPages (s : State) (p : Nat) (all : Bool) : List Nat :=
  (List.range 118).filter (fun idx => all || s.pageOwner idx == p)

def State.commitSets (s : State) (p : Nat) (all : Bool) : List SetId :=
  setIds.filter (fun x => match (s.setOf x).holder with
    | some q => all || q == p
    | none => false)

/-- The drain refusal of R23. -/
def State.commitDrains (s : State) (p : Nat) (all : Bool) : Bool := (s.commitSets p all).any s.setBusy

/-! ## Pages and sets at an edge (R19) -/

/-- The staged registers of a page, with their staged values. -/
def State.stagedOf (s : State) (idx : Nat) : KMap Word := KMap.keep s.staged (fun a => pageAt a == some idx)

/-- A page takes its staged values and its regions their edits. -/
def State.takePage (s : State) (epoch idx : Nat) : State :=
  if !s.pageDirty idx then s
  else
    let mine := s.stagedOf idx
    let s := (regionList.filter (fun x => x.2 == idx && (s.region x.1).dirty)).foldl
      (fun s x => s.setRegion x.1 ((s.region x.1).switch s.clk.lt)) s
    let s := mine.foldl (fun s x => s.setReg x.1 x.2) (s.discardPage idx)
    s.updPage idx (fun g => { g with epochSeen := epoch })

/-- The staged queue configurations take effect (R230). -/
def State.takeQueues (s : State) : State :=
  let p := s.pool
  { s with pool := { p with
      cfgA := p.stagedA.foldl (fun m x => KMap.put m x.1 x.2) p.cfgA
      cfgB := p.stagedB.foldl (fun m x => KMap.put m x.1 x.2) p.cfgB } }

/-- A set's copies change places. -/
def State.switchSet (s : State) (x : SetId) : State :=
  s.putSet x { s.setOf x with colour := !(s.setOf x).colour, other := .draining, since := s.clk.lt, holder := none }

/-! ## Links and pairing at an edge (R356, R379, R380) -/

/-- ULF_CTRL has changed. -/
def State.ulfCommit (s : State) : State :=
  let on := s.regB R.ULF_CTRL 0
  if on && s.hw.paired && s.ulf.state == .disabled then s.setUlf { s.ulf with state := .down, since := s.clk.lt, holdoff := 0 }
  else if !on && s.ulf.state != .disabled then s.linkDown .disabled
  else s

/-- A partition begins or ceases to be served by the pair. DEDUCED: notes/assumptions/55.md. -/
def State.pairPartCommit (s old : State) (p : Nat) : State :=
  let was := old.hw.paired && old.regB R.PAIR_CFG 0 && old.isPaired p
  let is' := s.hw.paired && s.regB R.PAIR_CFG 0 && s.isPaired p
  if was == is' then s
  else if is' then (s.setPp p {}).takeRole p .joining .none
  else
    let n := s.takeRole p .none .none
    n.setPp p {}

/-- PAIR_CFG or a PAIR_PCFG has changed. -/
def State.pairCommit (s old : State) : State :=
  let was := old.regB R.PAIR_CFG 0
  let is' := s.regB R.PAIR_CFG 0
  let s := (List.range 32).foldl (fun s p => s.pairPartCommit old p) s
  if was && !is' then
    s.setPair' { s.pair with contact := false, leased := false, greeted := false, leaving := false, sync := none,
                              handover := none }
  else if !was && is' then
    let s := s.setPair' { s.pair with left := false }
    s.when (s.pairOn && s.ulf.state == .up) (fun s => s.sendHello)
  else s

/-- The TABLES phase of a resynchronisation: the active values of the partition's mirrored pages and the entries of its
route groups go to the partner as staged writes (R399). -/
def State.sendTables (s : State) (p : Nat) : State :=
  let pages := (List.range 118).filter (fun idx => pageMirrored idx && s.pageOwner idx == p)
  let s := pages.foldl (fun s idx =>
    ((List.range 512).map (· * 4)).foldl (fun s off =>
      match regRowAt idx off with
      | some r => if r.access = .st then s.postWrite p 10 (pageBase idx + off) (leBytes 4 (s.live 0 idx off).toNat) else s
      | none => s) s) s
  let mine (a : Nat) : Bool :=
    let w1 := tabWord s.gwSet.active (a / 16 * 16 + 4)
    !gwFree w1 && s.groupOwner (fld w1 24 17) == p
  (KMap.keep s.gwSet.active mine).foldl (fun s x => s.postWrite p 10 x.1 (leBytes 4 x.2.toNat)) s

/-- A commit of a partition during its TABLES phase restarts the phase. -/
def State.resendTables (s : State) (p : Nat) (all : Bool) : State :=
  match s.pair.sync with
  | some (q, .tables) => if all || q == p then s.sendTables q else s
  | _ => s

/-! ## The blocks at an edge -/

/-- What the registers that page `idx` took mean to its block; `old` is the state before the edge. -/
def State.pageCommitted (s old : State) (idx : Nat) : State :=
  let mine := old.stagedOf idx
  let took (a : Nat) : Bool := (KMap.get? mine a).isSome
  if idx = 5 then s.pwrCommit old
  else if idx = 7 then s.timeCommit old
  else if idx = 8 || idx = 9 then s.ptpCommit old (idx - 8)
  else if 11 ≤ idx && idx < 33 then
    let s := s.when (idx ≠ 16) (fun s => s.noteCfg old mine)
    mine.foldl (fun s x => s.loadCommit x.1 (old.reg x.1)) s
  else if 33 ≤ idx && idx < 37 then
    mine.foldl (fun s x => s.inpCommit (idx - 33) (x.1 % 0x1000) (old.reg x.1)) s
  else if 37 ≤ idx && idx < 49 then
    let c := idx - 37
    let timing := [R.CAN_CTRL c, R.CAN_NBT c, R.CAN_DBT c, R.CAN_XBT c, R.CAN_TDC c].any (fun a => s.reg a != old.reg a)
    let s := s.when timing (fun s => s.canCommit c)
    ((List.range 128).filter (fun m => s.mbDir c m != old.mbDir c m)).foldl (fun s m => s.dirCommit c m) s
  else if 49 ≤ idx && idx < 53 then
    let l := 2 * (idx - 49)
    [l, l + 1].foldl (fun s l => s.linCommit l old) s
  else if idx = 53 then s.when (old.region 50).dirty (fun s => s.frerCommit old)
  else if 57 ≤ idx && idx < 84 then s.swpCommit old (idx - 57)
  else if idx = 84 then s.bankCommit old
  else if 101 ≤ idx && idx < 109 then s.dmaCommit idx (old.reg (R.DMA_ENABLE (idx - 101)))
  else if idx = 109 then s.groupCommit old
  else if idx = 112 then s.ulfCommit
  else if idx = 113 then s.pairCommit old
  else if idx = 115 then s.when (took R.UPD_ACT_REC) (fun s => s.updCommit)
  else s

/-- A page that changes owner loses its EVT_ENABLE, before anything that the same edge raises (R45). -/
def State.ownersChanged (s old : State) : State :=
  ((List.range 118).filter (fun idx => s.pageOwner idx != old.pageOwner idx)).foldl
    (fun s idx => s.setReg (R.EVT_ENABLE idx) 0) s

/-- What a new generation of a set means. -/
def State.setCommitted (s old : State) (x : SetId) : State :=
  match x with
  | .sw => s.meterCommit old
  | .gw => s
  | .part => s.partCommit old

/-! ## A commit (R19 to R24) -/

def State.setResult (s : State) (p : Nat) (r : CommitResult) : State :=
  s.setBank p { s.bank p with pending := none, result := r }

/-- A commit is refused. -/
def State.commitRefused (s : State) (p : Nat) (r : CommitResult) : State :=
  (s.setBank p { s.bank p with result := r }).raiseCoh p 1

/-- A pending commit is refused. -/
def State.pendingRefused (s : State) (p : Nat) (r : CommitResult) : State := (s.setResult p r).raiseCoh p 1

/-- The LOCAL_TIME at which a commit takes its turn: this edge, or the cycle after the last commit (R21). -/
def State.commitTurn (s : State) : Nat :=
  if s.coh.lastLt = 0 then s.clk.lt else max s.clk.lt (s.coh.lastLt + s.cycleNs)

/-- Everything in the scope of a commit by `p` is applied at one edge. -/
def State.applyCommit (s : State) (p : Nat) (all : Bool) : State :=
  let old := s
  let scope := s.commitPages p all
  let skipped := scope.any (fun idx => (s.page idx).mode == .resetting && s.pageDirty idx)
  let pages := scope.filter (fun idx => (s.page idx).mode != .resetting && s.pageDirty idx)
  let sets := s.commitSets p all
  let epoch := (s.coh.epoch + 1) % 65536
  let s := (if pages.contains 84 then s.takeQueues else s)
  let s := pages.foldl (fun s idx => s.takePage epoch idx) s
  let s := sets.foldl (fun s x => s.switchSet x) s
  let s := s.ownersChanged old
  let s : State := { s with coh := { s.coh with epoch := epoch, lastLt := s.commitTurn } }
  let s := pages.foldl (fun s idx => s.pageCommitted old idx) s
  let s := sets.foldl (fun s x => s.setCommitted old x) s
  let s := ((s.regionConflict.clearMirrorCount p).resendTables p all).txsSweep
  let s := s.when (all && p = 0) (fun s => s.switchFirmware)
  let b := s.bank p
  (s.setBank p { b with pending := none, result := .applied, lastEpoch := epoch, skipped := b.skipped || skipped }).raiseCoh p 0

/-- A commit at its edge: refused for a drain, or applied. DESIGN CHOICE: notes/assumptions/11.md. -/
def State.commitEdge (s : State) (p : Nat) (all : Bool) : State :=
  if s.commitDrains p all then s.pendingRefused p .refusedDrain else s.applyCommit p all

/-- The commit time T of a partition. -/
def State.commitTime (s : State) (p : Nat) : Nat := pairVal (s.bank p).timeLo (s.bank p).timeHi

/-- T lies in the window of R24. -/
def State.timeOk (s : State) (t : Nat) : Bool := s.syncNs + 2000 ≤ t && t ≤ s.syncNs + 60000000000

/-- A pair-coherent or joint commit begins (R397). DEDUCED: notes/assumptions/56.md. -/
def State.pairCommitStart (s : State) (p : Nat) (all : Bool) : State :=
  let t := s.commitTime p
  let paired := s.isPaired p && s.pairOn
  let initiates := paired || s.hw.unitId = 0
  let c : PendingCommit := { time := t, all := all, pairMode := true, stage := if initiates then .prepared else .none }
  if paired && !(s.roleOf p == .active && s.partnerRole p == .standby) then s.commitRefused p .refusedPair
  else
    let s := s.setBank p { s.bank p with pending := some c }
    s.when initiates (fun s => s.sendPair { kind := 4, part := p, word0 := if paired then (s.pp p).sent else 0, time := t })

/-- A write of COH_COMMIT by partition `p` (R23, R24); of several refusals the first in the order of R23's table stands.
DEDUCED: notes/assumptions/68.md. -/
def State.cohCommit (s : State) (p : Nat) (w : Word) : State :=
  let mode := fld w 2 1
  let all := bit w 0
  let anyPending := (List.range 32).any (fun q => (s.bank q).pending.isSome)
  if fld w 31 24 ≠ 0xC3 then s.commitRefused p .refusedKey
  else if mode = 3 then s.commitRefused p .refusedMode
  else if all && (p ≠ 0 || !s.isRunning 0) then s.commitRefused p .refusedScope
  else if (s.bank p).pending.isSome || (all && anyPending) || s.allPending then s.commitRefused p .refusedPending
  else if mode = 0 then
    (if s.commitDrains p all then s.commitRefused p .refusedDrain else s.applyCommit p all)
  else if !s.timeOk (s.commitTime p) then s.commitRefused p .refusedTime
  else if mode = 1 then s.setBank p { s.bank p with pending := some { time := s.commitTime p, all := all } }
  else if !s.hw.paired then s.commitRefused p .refusedPair
  else s.pairCommitStart p all

def commitWord (key : Byte) (mode : Nat) (all : Bool) : Word := mkF 31 24 key.toNat ||| mkF 2 1 mode ||| mkF 0 0 all.toNat

/-- A write of COH_COMMIT. -/
def commitAt (a : Acc) (key : Byte) (mode : Nat) (all : Bool) (s : State) : Result :=
  writeTo a R.COH_COMMIT (fun s => s.cohCommit (State.accPart a) (commitWord key mode all)) s

def execCommitNow (a : Acc) (key : Byte) (s : State) : Result := commitAt a key 0 false s
def execCommitAll (a : Acc) (key : Byte) (s : State) : Result := commitAt a key 0 true s
def execCommitSchedule (a : Acc) (key : Byte) (all : Bool) (s : State) : Result := commitAt a key 1 all s
def execCommitPairCoherent (a : Acc) (key : Byte) (all : Bool) (s : State) : Result := commitAt a key 2 all s

/-- A due commit waits for its turn: one of a lower partition is due, or the last commit was applied in this cycle (R21).
DEDUCED: notes/assumptions/67.md. -/
def State.commitWaits (s : State) (p : Nat) : Bool :=
  (List.range p).any (fun q => (s.bank q).pending.any (fun c => c.time ≤ s.syncNs)) || s.clk.lt < s.commitTurn

/-- SYNC_TIME has reached T of a partition's pending commit and it is its turn; the drain verdict of a pair-coherent one stands, and the
partner that has no GO by T refuses (R24, R397). -/
def State.commitDue (s : State) (p : Nat) : State :=
  match (s.bank p).pending with
  | none => s
  | some c =>
    if s.syncNs < c.time || s.commitWaits p then s
    else if !c.pairMode then s.commitEdge p c.all
    else if c.stage == .go then s.applyCommit p c.all
    else s.pendingRefused p .refusedPair

def execCommitAtTimeApply (t : Nat) (part : Fin 32) (s : State) : Result := eventAt t (fun s => s.commitDue part) s

/-! ## COH_CANCEL (R26) -/

/-- A write of COH_CANCEL by partition `p`. -/
def State.cohCancel (s : State) (p : Nat) (w : Word) : State :=
  let other := bit w 8
  if other && p ≠ 0 then s
  else if bit w 9 && s.tableSealed p then s.sealedError p
  else
    let s := if other then s.cancelPending (fld w 4 0) else if bit w 0 then s.cancelPending p else s
    s.when (bit w 9) (fun s => s.discardTables p)

def execCancel (a : Acc) (s : State) : Result :=
  writeTo a R.COH_CANCEL (fun s => s.cohCancel (State.accPart a) 1) s

def execCancelOther (a : Acc) (target : Fin 32) (s : State) : Result :=
  writeTo a R.COH_CANCEL (fun s => s.cohCancel (State.accPart a) (mkF 8 8 1 ||| mkF 4 0 target)) s

/-! ## Draining, resynchronisation and the stage log (R13, R16, R29) -/

/-- Fabric cycles a set's resynchronisation takes, at 64 bytes a cycle. -/
def resyncCycles : SetId → Nat
  | .sw => 8704 | .gw => 32768 | .part => 1024

/-- A DRAINING copy that no stamped item consults is released. -/
def State.drainDone (s : State) (x : SetId) : State :=
  let g := s.setOf x
  if g.other == .draining && s.drainCount x = 0 then s.putSet x { g with other := .resync, since := s.clk.lt } else s

def execDrainComplete (t : Nat) (set : SetId) (s : State) : Result := eventAt t (fun s => s.drainDone set) s

/-- DRAIN_RELEASED goes to the partition that holds edits in the set. -/
def State.drainReleased (s : State) (x : SetId) : State :=
  match (s.setOf x).holder with
  | some p => s.raiseCoh p 2
  | none => s

/-- The released copy is equal to the ACTIVE one: it is SPARE. DEDUCED: notes/assumptions/20.md. -/
def State.resyncDone (s : State) (x : SetId) : State :=
  let g := s.setOf x
  if g.other == .resync && g.since + resyncCycles x * s.cycleNs ≤ s.clk.lt then
    let s := s.putSet x { g.setOther g.active with other := .spare, since := s.clk.lt }
    s.when (s.logOf x).isEmpty (fun s => s.drainReleased x)
  else s

def execResyncComplete (t : Nat) (set : SetId) (s : State) : Result := eventAt t (fun s => s.resyncDone set) s

/-- The stage log is replayed into the SPARE copy, in the order of writing, one entry a cycle.
DEDUCED: notes/assumptions/20.md. -/
def State.logReplayed (s : State) (x : SetId) : State :=
  let g := s.setOf x
  let l := s.logOf x
  if g.other != .spare || l.isEmpty || s.clk.lt < g.since + l.length * s.cycleNs then s
  else
    let m := l.foldl (fun m e => KMap.set m 0 e.addr e.val) g.otherMap
    let s := s.putSet x (g.setOther m)
    let s : State := { s with log := s.log.filter (fun e => e.set != x) }
    s.drainReleased x

def execStageLogReplayed (t : Nat) (set : SetId) (s : State) : Result := eventAt t (fun s => s.logReplayed set) s

/-! ## Semaphores (R35) -/

/-- A read of a semaphore by partition `p`: what it returns, and the state after it. -/
def State.semRead (s : State) (p k : Nat) : Word × State :=
  match KMap.get? s.coh.sems k with
  | some q => (mkF 8 8 1 ||| mkF 4 0 q, s)
  | none => (mkF 31 31 1 ||| mkF 8 8 1 ||| mkF 4 0 p, { s with coh := { s.coh with sems := KMap.put s.coh.sems k p } })

/-- A write of a semaphore by partition `p`. -/
def State.semWrite (s : State) (p k : Nat) (w : Word) : State :=
  if !bit w 8 && KMap.get? s.coh.sems k == some p then { s with coh := { s.coh with sems := KMap.del s.coh.sems k } } else s

def execSemFree (a : Acc) (sem : Fin 64) (s : State) : Result :=
  writeTo a (R.COH_SEM sem) (fun s => s.semWrite (State.accPart a) sem 0) s

end Sys2Proof.Machine
end

