-- ==== Sys2Proof/Machine/Resets.lean ====
section
/-! DEFINITION. Power-on reset, RESET_N, the exit from a low-power state, and the retained restart for activation (spec/17,
R411 to R421; spec/18, R440, R443; spec/04, R104, R105; spec/13, R455; spec/14, R331, R332). -/

namespace Sys2Proof.Machine

/-! ## RESET_N (R105, R440, R455) -/

/-- Leases of a partition are left as they are: the partner is ACTIVE for it over a link that is up. -/
def State.leaseSpared (s : State) (p : Nat) : Bool := s.hw.paired && s.ulf.state == .up && s.partnerRole p == .active

/-- The partitions that are not OFF, ascending. -/
def State.partsOn (s : State) : List Nat := (List.range 32).filter (fun p => (s.part p).state != .off)

/-- The falling edge of RESET_N has been recognised: the security unit is held in reset until the release.
DEDUCED: notes/assumptions/58.md. -/
def State.pinFalls (s : State) : State :=
  if s.parts.pinHeld then s
  else
    let s := s.truncateLeases (fun p => s.leaseSpared p)
    let s : State := { s with parts := { s.parts with pinHeld := true }, sec := { s.sec.restart with ready := false } }
    s.partsOn.foldl (fun s p => s.resetStart p .pin false s.pt.active) s

def execPinReset (t : Nat) (s : State) : Result := eventAt t State.pinFalls s

/-- RESET_N is released: the boot ROM begins, and commits nothing. DEDUCED: notes/assumptions/58.md. -/
def State.pinRises (s : State) : State :=
  if !s.parts.pinHeld then s
  else
    let s : State := { s with parts := { s.parts with pinHeld := false } }
    s.bootRecord false

def execPinResetRelease (t : Nat) (s : State) : Result := eventAt t State.pinRises s

/-! ## Power-on reset (R104, R411, R443) -/

/-- What OTP, NOR, UFS and the load stage's firmware banks hold through a loss of power: an OTP burn that was cut off leaves its slot revoked (R405, R413,
R422, R426). DESIGN CHOICE: notes/assumptions/9.md. DEDUCED: notes/assumptions/60.md. -/
def State.keepStored (s base : State) : State :=
  let x := s.sec
  { base with
    hw := s.hw, free := s.free, pending := s.pending
    sec := Security.restart { job := x.job, hashes := x.hashes, programmed := x.programmed, revoked := x.revoked,
                              counters := x.counters }
    upd := { copy0 := s.upd.copy0, copy1 := s.upd.copy1, manifests := s.upd.manifests, parts := s.upd.parts }
    stor := { ufs := s.stor.ufs, index := s.stor.index }
    load := { base.load with fw := s.load.fw, fwBank := s.load.fwBank } }

/-- Entry into power-on reset: every block has its reset values and holds them.
DEDUCED: notes/assumptions/61.md. DESIGN CHOICE: notes/assumptions/63.md. -/
def State.powerOnReset (s : State) : State :=
  s.keepStored { State.reset with clk := { State.reset.clk with held := true } }

def execPowerOnReset (t : Nat) (s : State) : Result :=
  .next { (s.advance t).powerOnReset with pending := s.pending, free := s.free }

/-- The release: the straps are read and the cold boot begins at LOCAL_TIME 0.
DESIGN CHOICE: notes/assumptions/6.md. DEDUCED: notes/assumptions/51.md. -/
def State.powerOnRelease (s : State) (paired : Bool) (unit : Nat) : State :=
  if !s.clk.held then s
  else
    let s : State := { s with
      hw := { s.hw with paired := paired, unitId := unit }, clk := { s.clk with held := false }
      dramc := { s.dramc with ready := true } }
    s.bootRecord true

def execPowerOnRelease (_t : Nat) (paired : Bool) (unit : Fin 2) (s : State) : Result :=
  .next { s.powerOnRelease paired unit with pending := s.pending }

/-! ## Exit from a low-power state (R331, R332) -/

/-- The registers that the always-on domain keeps: those of the PWR page, WIN_CFG, and the wake configuration of the CAN and
LIN channels. -/
def keptReg (a : Nat) : Bool :=
  pageAt a == some 5 || (List.range 4).any (fun k => a == R.WIN_CFG k)
    || (List.range 12).any (fun c => a == R.CAN_WAKE c || a == R.CAN_WUF_ID c || a == R.CAN_WUF_MASK c)

/-- LIN_CFG.WAKE_EN of every channel, in the reset value of the register. -/
def State.linWakes (s : State) (base : State) : State :=
  (List.range 8).foldl (fun n l =>
    n.setReg (R.LIN_CFG l) (setBit (n.reg (R.LIN_CFG l)) 3 (s.regB (R.LIN_CFG l) 3))) base

/-- Every block outside the always-on domain starts from its power-on reset values; LOCAL_TIME, each Δθ, the retention
SRAM and the PWR page stay. DEDUCED: notes/assumptions/52.md. -/
def State.coldValues (s : State) : State :=
  let rises : KMap Chan := (s.load.chans.filter (fun x => x.2.rise != 0)).map (fun x => (x.1, { rise := x.2.rise }))
  let base : State := { State.reset with
    clk := { State.reset.clk with lt := s.clk.lt, dom0 := { state := s.clk.dom0.state }, dom1 := { state := s.clk.dom1.state } }
    regs := KMap.keep s.regs keptReg
    mem := KMap.keep s.mem (fun a => rangeOf a == .retention)
    load := { State.reset.load with chans := rises, clockAt := s.load.clockAt }
    pwr := { s.pwr with needs := [] }
    pair := { suspend := s.pair.suspend }
    dramc := { ready := true } }
  (s.linWakes (s.keepStored base)).ptpRestart

/-- A cold start of the unit that keeps the always-on domain. -/
def State.coldStart (s : State) : State := s.coldValues.bootRecord true

/-- The straps PAIR_MODE and PAIR_ID are read (R439). -/
def State.readStraps (s : State) (paired : Bool) (unit : Nat) : State :=
  { s with hw := { s.hw with paired := paired, unitId := unit } }

/-- Clocks and PHYs run again, and cores resume; an exit from DORMANT reads the straps (R439).
DEDUCED: notes/assumptions/52.md. -/
def State.powerExited (s : State) (paired : Bool) (unit : Nat) : State :=
  if !s.pwr.exiting then s
  else
    let cold := s.pwr.state == .dormant
    let stood := s.clockStopped
    let s := s.countRes
    let s := s.setPwr { s.pwr with state := .run, exiting := false, target := none, exitAt := none, returned := true,
                                   slow := false, executing := true }
    let s := s.when cold (fun s => (s.readStraps paired unit).coldStart)
    s.when stood (fun s => s.inputsResume)

def execPowerStateExited (t : Nat) (s : State) (paired : Bool := false) (unit : Fin 2 := 0) : Result :=
  eventAt t (fun s => s.powerExited paired unit) s

/-! ## The retained restart (R418, R414) -/

/-- RETAIN regions of a partition in all, in bytes (R318). -/
def State.retainSize (s : State) (p : Nat) : Nat :=
  let m := s.pt.active
  ((List.range 32).filter (fun r => s.regionOn m p r && bit (ptRegion m p r 3) 5)).foldl (fun n r => n + regionSize m p r) 0

/-- RETAIN regions of the partition total more than 64 MiB: none of them is kept (R418). -/
def State.retainOver (s : State) (p : Nat) : Bool := decide (0x4000000 < s.retainSize p)

/-- An address lies in a RETAIN region of a partition. -/
def State.retains (s : State) (p a : Nat) : Bool :=
  let m := s.pt.active
  (List.range 32).any (fun r => s.regionOn m p r && bit (ptRegion m p r 3) 5
    && decide (regionBase m p r ≤ a) && decide (a < regionBase m p r + regionSize m p r))

/-- Bytes of RETAIN regions that are not kept read as bytes that nothing has written.
DEDUCED: notes/assumptions/58.md. -/
def State.dropRetain (s : State) : State :=
  let above := (ptValid s.pt.active).filter (fun p => s.retainOver p)
  let kept := (ptValid s.pt.active).filter (fun p => !s.retainOver p)
  if above.isEmpty then s
  else { s with mem := KMap.keep s.mem (fun a => !(above.any (fun p => s.retains p a)) || kept.any (fun p => s.retains p a)) }

/-- Partition 0 goes down with its lockstep pair and comes up again from the boot ROM.
DEDUCED: notes/assumptions/58.md. -/
def State.bounceZero (s : State) : State :=
  let x := s.part 0
  (s.setPart 0 { x with state := .resetting, phase := .clean, cause := .activation, start := s.clk.lt,
                        scope := s.pt.active }).settleCores.rewindCores 0

/-- Both lockstep pairs and the application cluster restart into the set of NEXT_SET; the load stage, the fabric and DRAM
run on. DEDUCED: notes/assumptions/58.md. -/
def State.retainedRestart (s : State) : State :=
  let above := (ptValid s.pt.active).any (fun p => s.retainOver p)
  let s := (s.setUpd { s.upd with retainOver := above }).dropRetain
  let s := ([1, 2, 3].filter (fun p => (s.part p).state != .off)).foldl
    (fun s p => s.resetStart p .activation false s.pt.active) s
  ((s.clusterRestart .activation).bounceZero).bootRecord false

/-- A check of the trial set fails: the unit restarts in the same way into the previous set. `bad` is an entry whose part
does not read on either device. DEDUCED: notes/assumptions/58.md. -/
def State.trialFailed (s : State) (bad : Option Nat) : State :=
  let r := s.rec'
  match s.setFault r.runSet bad with
  | none => s
  | some (k, why) =>
    if r.state != .trial then s
    else
      let cold := s.upd.cold
      let late := le (manEntry (KMap.get s.upd.manifests [] (setKey r.runSet)) k) 0 1 = 7
      let s := (if late then s else s.dropFirmware).noteFail k why
      let s := (s.setRec { r with state := .abandoned, nextSet := !r.runSet, tries := 0 }).raise updIdx 2
      if cold then s.coldStart else s.retainedRestart

def execTrialFailed (t : Nat) (bad : Option (Fin 64)) (s : State) : Result :=
  eventAt t (fun s => s.trialFailed (bad.map Fin.val)) s

/-! ## UPD_CMD (R414 to R421) -/

/-- A write of UPD_CMD. -/
def State.updWrite (s : State) (w : Word) : State := s.updCmd w State.retainedRestart

def updAt (a : Acc) (key : Byte) (action part : Nat) (s : State) : Result :=
  writeTo a R.UPD_CMD (fun s => s.updWrite (updWord key action part)) s

def execOpen (a : Acc) (key : Byte) (s : State) : Result := updAt a key 1 0 s
def execStage (a : Acc) (key : Byte) (part : Fin 64) (s : State) : Result := updAt a key 2 part s
def execActivate (a : Acc) (key : Byte) (s : State) : Result := updAt a key 3 0 s
def execUpdRestart (a : Acc) (key : Byte) (s : State) : Result := updAt a key 4 0 s
def execConfirm (a : Acc) (key : Byte) (s : State) : Result := updAt a key 5 0 s
def execUpdAbort (a : Acc) (key : Byte) (s : State) : Result := updAt a key 6 0 s

end Sys2Proof.Machine
end

