-- ==== Sys2Proof/Machine/PageWrite.lean ====
section
/-! DEFINITION. What a write to each register of a page does, by the register's access code and its block (R4, R5, R8, R9,
R46, R52, and the register tables of every chapter). -/

namespace Sys2Proof.Machine

/-! ## The common header (R40, R46, R52) -/

/-- EVT_STATUS bits are written with 1; those in `again` are raised in the same cycle (R52). -/
def State.clearEvents (s : State) (p idx : Nat) (mask again : Word) : State :=
  if idx = 0 then
    let b := s.bank p
    let s := s.setCohEvents p (b.evStatus &&& ~~~mask) b.evEnable
    s.setCohEvents p ((s.bank p).evStatus ||| (again &&& eventMask 0)) b.evEnable
  else
    let s := s.setEvents idx (s.reg (R.EVT_STATUS idx) &&& ~~~mask) (s.reg (R.EVT_ENABLE idx))
    s.setEvents idx (s.reg (R.EVT_STATUS idx) ||| (again &&& eventMask idx)) (s.reg (R.EVT_ENABLE idx))

/-- EVT_FORCE sets EVT_STATUS bits. -/
def State.forceEvents (s : State) (p idx : Nat) (w : Word) : State :=
  if idx = 0 then s.setCohEvents p ((s.bank p).evStatus ||| (w &&& eventMask 0)) (s.bank p).evEnable
  else s.setEvents idx (s.reg (R.EVT_STATUS idx) ||| (w &&& eventMask idx)) (s.reg (R.EVT_ENABLE idx))

/-- EVT_ENABLE of a page. -/
def State.enableEvents (s : State) (p idx : Nat) (w : Word) : State :=
  if idx = 0 then s.setCohEvents p (s.bank p).evStatus (w &&& eventMask 0)
  else s.setEvents idx (s.reg (R.EVT_STATUS idx)) (w &&& eventMask idx)

def State.headerWrite (s : State) (p idx off : Nat) (w : Word) : State :=
  match off with
  | 0x10 => s.clearEvents p idx w 0
  | 0x14 => s.enableEvents p idx w
  | 0x1C => s.forceEvents p idx w
  | 0x28 => s.pageCmd p idx w
  | _ => s

/-! ## The blocks -/

/-- The oldest record of the violation FIFO is discarded (R44). -/
def State.violPop (s : State) : State := { s with viol := s.viol.drop 1 }

def State.cohWrite (s : State) (p off : Nat) (w : Word) : State :=
  let b := s.bank p
  match off with
  | 0x44 => s.cohCommit p w
  | 0x48 => s.setBank p { b with timeLo := w }
  | 0x4C => s.setBank p { b with timeHi := w }
  | 0x50 => s.setBank p { b with skipped := b.skipped && !bit w 3, sealedWrite := b.sealedWrite && !bit w 2 }
  | 0x54 => s.cohCancel p w
  | 0x58 => s.when (bit w 0) (fun s => s.snapshotAll p)
  | 0x5C => s.snapRelease p w
  | _ => if 0x200 ≤ off && off < 0x300 then s.semWrite p ((off - 0x200) / 4) w else s

def State.lscWrite (s : State) (k p off : Nat) (w : Word) : State :=
  let n := (off - 0x100) / 0x80
  let c := 8 * k + n
  if off = 0x48 then s.renewMask k w
  else match (off - 0x100) % 0x80 with
    | 0x0C => s.renewMask k (mkF n n (bit w 0).toNat ||| mkF (n + 8) (n + 8) (bit w 1).toNat)
    | 0x3C => s.idCmd c w
    | 0x44 => s.tripAckWord c p w
    | _ => s

/-- Input edges are acknowledged; one set in the same fabric cycle stays (R134). -/
def State.dinClear (s : State) (k : Nat) (w : Word) : State :=
  (bitsOf w 24).foldl (fun s j =>
    let d := s.din (24 * k + j)
    if d.edgeAt = some s.clk.lt then s else s.setDin (24 * k + j) { d with edge := false }) s

def State.inpWrite (s : State) (k off : Nat) (w : Word) : State :=
  if off = 0x214 then s.dinClear k w
  else if (off = 0x308 || off = 0x318) && bit w 8 then s.ssupRestart (2 * k + (off - 0x308) / 16)
  else if off = 0x344 && bit w 8 then s.setWin k { s.win k with woke := false }
  else s

def State.canWrite (s : State) (c off : Nat) (w : Word) : State :=
  let x := s.can c
  if off = 0x60 then s.when (bit w 0) (fun s => s.canRecover c)
  else if off = 0x84 then s.when (bit w 0) (fun s => s.txsCancel c)
  else if off = 0x9C then s.salWrite c w
  else if off = 0x54 && bit w 5 then s.setCan c { x with woke := false }
  else if 0x190 ≤ off && off < 0x1A0 then
    let g := (off - 0x190) / 4
    s.setCan c { x with txDone := x.txDone.filter (fun m => !(m / 32 == g && bit w (m % 32))) }
  else s

def State.linBlockWrite (s : State) (k off : Nat) (w : Word) : State :=
  match off with
  | 0x114 => s.linCmd (2 * k) w
  | 0x414 => s.linCmd (2 * k + 1) w
  | 0x118 => s.when (bit w 7) (fun s => s.setLin (2 * k) { s.lin (2 * k) with wakeFail := false })
  | 0x418 => s.when (bit w 7) (fun s => s.setLin (2 * k + 1) { s.lin (2 * k + 1) with wakeFail := false })
  | _ => s

def State.dmaWrite (s : State) (k off : Nat) (w : Word) : State :=
  if off = 0x50 then s.dmaTrigger k w
  else
    let c := 8 * k + (off - 0x100) / 0x80
    match (off - 0x100) % 0x80 with
    | 0x04 => s.dmaCmd c w
    | 0x08 => s.when (bit w 7) (fun s => s.setDchan c { s.dchan c with refused := false })
    | _ => (s.dmaCursor k off w).getD (s.busError .refused)

def State.ptpWrite (s : State) (d off : Nat) (w : Word) : State :=
  match off with
  | 0x54 => s.ptpRate d w
  | 0x58 => s.setDom d { s.dom d with adjOfs := w }
  | 0x5C => s.ptpCmdWrite d w
  | _ => s

def State.pwrWrite (s : State) (p off : Nat) (w : Word) : State :=
  match off with
  | 0x48 => s.pwrCmd w
  | 0xA4 => s.when (bit w 31) (fun s => s.setZsp { s.pwr.zsp with valid := false })
  | 0xD8 => s.zspCtrl w
  | _ => s.needWrite p off w

/-- PART_CONFLICT: the flags written with 1 are cleared. -/
def State.conflictClear (s : State) (w : Word) : State :=
  s.setReg R.PART_CONFLICT (s.reg R.PART_CONFLICT &&& ~~~(w &&& 0x3F))

/-- A register that is simply held takes a value. -/
def State.plainWrite (s : State) (idx off : Nat) (mask w : Word) : State := s.setReg (pageBase idx + off) (w &&& mask)

/-- A write of a block register that is neither staged nor cleared by reading. -/
def State.blockWrite (s : State) (p req idx off : Nat) (mask w : Word) : State :=
  let plain := s.plainWrite idx off mask w
  if idx = 0 then s.cohWrite p off w
  else if idx < 5 then s.when (idx = 1 && off = 0x458 && bit w 0) (fun s => s.violPop)
  else if idx = 5 then s.pwrWrite p off (w &&& mask)
  else if idx = 8 || idx = 9 then s.ptpWrite (idx - 8) off w
  else if idx = 10 then (if off = 0x48 then s.partCmd w else s.conflictClear w)
  else if idx = 16 then s.ledgCmd w
  else if 17 ≤ idx && idx < 33 then s.lscWrite (idx - 17) p off w
  else if 33 ≤ idx && idx < 37 then s.inpWrite (idx - 33) off w
  else if 37 ≤ idx && idx < 49 then s.canWrite (idx - 37) off w
  else if 49 ≤ idx && idx < 53 then s.linBlockWrite (idx - 49) off w
  else if idx = 54 then s.polSel w
  else if idx = 55 then s.frerSel w
  else if idx = 84 then (if off = 0x150 then s.traceCmd w else plain)
  else if 101 ≤ idx && idx < 109 then s.dmaWrite (idx - 101) off w
  else if idx = 109 then s.slotClear w
  else if idx = 112 then (if off = 0x48 then s.ulfCmd w else plain)
  else if idx = 113 then
    (match off with
    | 0x64 => s.pairCmd w
    | 0x84 => s.pairHeart p
    | _ => s)
  else if idx = 114 then (if off = 0x54 then s.secCmd req w else plain)
  else if idx = 115 then (if off = 0x44 then s.updWrite w else plain)
  else if idx = 116 then s.dramcPop w
  else if idx = 117 then (if off = 0x44 then s.storCmd w else plain)
  else s

/-- Fields of access code W1C in registers that are otherwise read-only. -/
def mixedReg (idx off : Nat) : Bool :=
  (idx = 5 && off = 0xA4) || (33 ≤ idx && idx < 37 && (off = 0x308 || off = 0x318 || off = 0x344))
    || (37 ≤ idx && idx < 49 && off = 0x54) || (49 ≤ idx && idx < 53 && (off = 0x118 || off = 0x418))
    || (101 ≤ idx && idx < 109 && 0x100 ≤ off && (off - 0x100) % 0x80 = 8)

/-- A write to a register page that has passed the access checks. -/
def State.pageWrite (s : State) (a : Acc) (addr : Nat) (w : Word) : State :=
  let p := State.accPart a
  let off := addr % 0x1000
  match pageAt addr with
  | none => s
  | some idx => match regRowAt idx (off % 0x800) with
    | none => s
    | some r =>
      if r.access = .st then s.stageReg p a.req.val (lowerHalf addr) w r.mask
      else if 0x800 ≤ off then s
      else if off < 0x40 then s.headerWrite p idx off w
      else if idx = 113 && off = 0x44 then s.when (bit w 9) (fun s => s.setPair' { s.pair with authFault := false })
      else match r.access with
        | .ro => if mixedReg idx off then s.blockWrite p a.req.val idx off r.mask w else s
        | .rc => s
        | _ => s.blockWrite p a.req.val idx off r.mask w

/-! ## The commands of R5, R44 and R52 that name a header register -/

/-- DESIGN CHOICE: notes/assumptions/10.md. -/
def execEvtStatusClear (a : Acc) (page : Fin 118) (mask again : Word) (s : State) : Result :=
  writeTo a (R.EVT_STATUS page) (fun s => s.clearEvents (State.accPart a) page mask again) s

def execEvtForce (a : Acc) (page : Fin 118) (mask : Word) (s : State) : Result :=
  writeTo a (R.EVT_FORCE page) (fun s => s.forceEvents (State.accPart a) page mask) s

def execEvtViolPop (a : Acc) (s : State) : Result := writeTo a R.EVT_VIOL_POP (fun s => s.violPop) s

end Sys2Proof.Machine
end

