-- ==== Sys2Proof/Machine/Bus.lean ====
section
/-! DEFINITION. Accesses of every range of the address map: register pages, queue apertures, table and buffer windows, the
partner view and memory (R2, R4, R9, R32, R35, R37, R38, R43, R147, R169, R213, R318 to R320, R370, R393). -/

namespace Sys2Proof.Machine

/-! ## Reads of register pages (R9, R31, R32, R35) -/

/-- Registers that hold an extreme: true for a lowest value, false for a largest one (R32). -/
def extremeReg (addr : Nat) : Option Bool :=
  if addr = R.QMGR_FREE_MIN then some true
  else if addr = R.GW_LAT_MAX || (List.range 128).any (fun c => addr == R.LSC_IPEAK c) then some false
  else none

/-- What an extreme is compared by: the magnitude of LSC_IPEAK, whose bit 31 is its direction (R85). -/
def extremeOf (addr : Nat) (w : Word) : Nat :=
  if addr = R.GW_LAT_MAX || addr = R.QMGR_FREE_MIN then w.toNat else fld w 30 0

/-- RC registers that hold two counts of 16 bits: LIN_ERRCNT, SWC_ECC, QMGR_ECC, TUN_CNT, DRAMC_ECC and STOR_ERR. -/
def packedCount (addr : Nat) : Bool :=
  let off := addr % 0x1000
  match pageAt addr with
  | none => false
  | some idx => (49 ≤ idx && idx < 53) || (idx = 53 && off = 0x50) || (idx = 84 && off = 0x114) || idx = 110 || idx = 116 || idx = 117

/-- What a read of an RC register leaves behind it: 0, and the current free count in QMGR_FREE_MIN. -/
def State.clearRc (s : State) (addr : Nat) : State :=
  if addr = R.QMGR_FREE_MIN then s.setReg addr (word (s.poolFree false)) else s.setReg addr 0

/-- The side effect of a read of an RC register; of a held one, on the live value, once for each count (R32).
DEDUCED: notes/assumptions/66.md. -/
def State.readRc (s : State) (addr : Nat) (held : Option Word) : State :=
  match held with
  | none => s.clearRc addr
  | some h =>
    let live := s.reg addr
    match extremeReg addr with
    | some true => if live.toNat < h.toNat then s else s.clearRc addr
    | some false => if extremeOf addr h < extremeOf addr live then s else s.clearRc addr
    | none =>
      if s.heldRead.contains addr then s
      else
        let s := s.setReg addr (if packedCount addr then
            mkF 31 16 (fld live 31 16 - fld h 31 16) ||| mkF 15 0 (fld live 15 0 - fld h 15 0)
          else word (live.toNat - h.toNat))
        { s with heldRead := insertSorted s.heldRead addr }

/-- The held value of a register of a held page. In SWP_LINK the one count, DOWNS, is held and the rest is live.
DEDUCED: notes/assumptions/50.md. -/
def State.heldValue (s : State) (idx off : Nat) : Option Word :=
  if (s.page idx).held then
    (KMap.get? s.held (pageBase idx + off)).map (fun h =>
      if 57 ≤ idx && idx < 84 && off = 0x50 then setFld (s.live 0 idx off) 31 16 (fld h 31 16) else h)
  else none

/-- The value a reader sees, without a side effect. -/
def State.shown (s : State) (p idx off : Nat) : Word := (s.heldValue idx off).getD (s.live p idx off)

/-- A read of a register page that has passed the access checks. -/
def State.pageRead (s : State) (p addr : Nat) : State :=
  let off := addr % 0x1000
  let low := off % 0x800
  match pageAt addr with
  | none => s.done 0
  | some idx => match regRowAt idx low with
    | none => s.done 0
    | some r =>
      if 0x800 ≤ off then s.done (if r.access = .st then s.liveStaged idx low else s.shown p idx low).toNat
      else if idx = 0 && 0x200 ≤ off && off < 0x300 then
        let x := s.semRead p ((off - 0x200) / 4)
        x.2.done x.1.toNat
      else
        let n := s.done (s.shown p idx off).toNat
        if r.access = .rc then n.readRc (pageBase idx + off) (s.heldValue idx off) else n

/-! ## The buffer windows (R147 to R149, R169) -/

/-- Bits of a message buffer's words that software writes. -/
def mbMask (off : Nat) : Option Word :=
  if off = 0x8 then some 0x7FFFFFFF else if off = 0xC then some 0xFF7FFF7F
  else if off = 0x10 || off = 0x18 || off = 0x1C || (0x40 ≤ off && off < 0x80) then some 0xFFFFFFFF
  else none

/-- DEDUCED: notes/assumptions/36.md. -/
def State.mbWindowWrite (s : State) (c m off : Nat) (w : Word) : State :=
  let b := s.mb c m
  if off = 4 then s.mbCmdWrite c m w
  else match mbMask off with
    | none => s.done
    | some k =>
      if b.code == .txPending || b.code == .txActive then s.busError .refused
      else (s.setMb c m { b with words := KMap.set b.words 0 off (w &&& k) }).done

def State.mbWindowRead (s : State) (c m off : Nat) : State :=
  let b := s.mb c m
  s.done (if off = 0 then b.stateWord else if off = 4 then 0 else b.wordAt off).toNat

/-- An access to a buffer window: `f` is the access to the buffer at an offset, when one lies there and `p` may use it. -/
def State.windowAccess (s : State) (a : Acc) (addr size : Nat) (write : Bool) (owner : Option Bool) (f : State → State) :
    State :=
  if size ≠ 4 || addr % 4 ≠ 0 then s.refuse a addr write .size
  else if a.req.val = 19 && !s.sec.svcOpen then s.refuse a addr write .notOwner
  else match owner with
    | none => s.done 0
    | some true => f s
    | some false => s.refuse a addr write .notOwner

/-- Whether the requester may use the message buffer at an address of the window; none where there is no buffer. -/
def State.mbRight (s : State) (a : Acc) (addr : Nat) : Option Bool :=
  let x := addr - 0x31000000
  let p := State.accPart a
  if 0x4000 ≤ x % 0x100000 then none
  else some (p = 0 || s.mbOwner (x / 0x100000) (x % 0x100000 / 0x80) = p)

def State.mbWindow (s j : State) (a : Acc) (addr size : Nat) (val : Option Word) : State :=
  let x := addr - 0x31000000
  let c := x / 0x100000
  let m := x % 0x100000 / 0x80
  s.windowAccess a addr size val.isSome (j.mbRight a addr) (fun s =>
    match val with
    | some w => s.mbWindowWrite c m (x % 0x80) w
    | none => s.mbWindowRead c m (x % 0x80))

def State.linWindowWrite (s : State) (l i off : Nat) (w : Word) : State :=
  let s := s.linLatch l
  let b := s.lbuf l i
  match off with
  | 0x4 => (s.lfbCmd l i w).done
  | 0x8 => (s.setLbuf l i { b with dataLo := w }).done
  | 0xC => (s.setLbuf l i { b with dataHi := w }).done
  | _ => s.done

def State.linRight (s : State) (a : Acc) (addr : Nat) : Option Bool :=
  let x := addr - 0x32000000
  if 8 ≤ x / 0x10000 || 0x800 ≤ x % 0x10000 then none else some (s.mayOwn (State.accPart a) (linPage (x / 0x10000)))

/-- DEDUCED: notes/assumptions/38.md. -/
def State.linWindow (s j : State) (a : Acc) (addr size : Nat) (val : Option Word) : State :=
  let x := addr - 0x32000000
  let l := x / 0x10000
  let i := x % 0x10000 / 0x20
  s.windowAccess a addr size val.isSome (j.linRight a addr) (fun s =>
    match val with
    | some w => s.linWindowWrite l i (x % 0x20) w
    | none => s.done ((s.lbuf l i).wordAt (x % 0x20)).toNat)

/-! ## The table windows -/

def State.tableWindow (s j : State) (a : Acc) (addr size : Nat) (val : Option Word) : State :=
  match val with
  | some w => s.windowWrite j a addr w size
  | none => s.windowRead j a addr size

/-! ## The queue apertures (R213, R214) -/

def State.apertureAccess (s j : State) (a : Acc) (addr size : Nat) (val : Option Nat) (ecc : EccFound) : State :=
  let q := (addr - apertureBase) / 0x1000
  let off := addr % 0x1000
  match j.apCheck a q off size with
  | some c => s.violation a addr val.isSome c
  | none =>
    match val with
    | some v =>
      if off < 0x7E0 then s.wrData a q v size
      else if off = 0x7E0 then s.wrCommit a q v
      else if off = 0x7E4 then (s.rewindPacket q a.req).done
      else if off = 0x828 then s.rdSkip q (word v)
      else if off = 0xFE0 then s.qFlush q (word v)
      else s.done
    | none => if 0x800 ≤ off && off < 0x820 then s.rdWord a q off size ecc else s.apRead a q off

/-! ## The partner page view (R43, R370) -/

/-- A partner-view read leaves as an RD; it completes when its CPL arrives. -/
def State.sendView (s : State) (a : Acc) (addr : Nat) (chan : Option Nat) : State :=
  let u := s.ulf.closeComb
  let b := addr - 0x1000000
  let p := State.accPart a
  let tag := u.tag
  let s := s.when (u.credNp = 0) (fun s => s.addF R.ULF_NP_WAIT 31 0 1)
  let r : ViewRead := ⟨tag, p, a.req.val, b, s.clk.lt, chan⟩
  let u := { u with tag := (tag + 1) % 65536, reads := u.reads ++ [r] }
  let s := s.setUlf (u.enqueue .clsNp [{ type := 5, tag := tag, payload := reqWord b p 4, need := 1 }])
  ({ s with resp := .none } : State).pump

/-- DEDUCED: notes/assumptions/50.md. -/
def State.partnerRead (s : State) (a : Acc) (addr size : Nat) (chan : Option Nat) : State :=
  if size ≠ 4 || addr % 4 ≠ 0 then s.violation a addr false .size
  else if a.req.val = 19 && !s.sec.svcOpen then s.violation a addr false .notOwner
  else if !s.hw.paired || (s.ulf.state != .up && s.ulf.state != .retrain) then s.violation a addr false .partnerDown
  else s.sendView a addr chan

/-! ## Memory (R311, R318 to R320, R330, R393, R394) -/

/-- A write covers every 64-byte granule it touches, so that nothing is merged. DEDUCED: notes/assumptions/50.md. -/
def wholeGranules (addr n : Nat) : Bool := addr % 64 = 0 && n % 64 = 0

/-- A read or fetch of memory. -/
def State.memRead (s : State) (a : Acc) (m : KMap Word) (addr n : Nat) (k : MemKind) (ecc : EccFound) : State :=
  let p := State.accPart a
  match s.memCheck m p a.req.val addr n k with
  | some c => s.refuse a addr false c
  | none =>
    let r := s.eccSeen p a.req.val addr false ecc
    if r.2 then r.1.done (leVal (r.1.readBytes addr n)) else r.1.busError .ecc

/-- A write of memory, mirrored to the partner where R394 says so; the flag says whether it was sent. -/
def State.memWrite (s : State) (a : Acc) (m : KMap Word) (addr : Nat) (d : List Byte) (ecc : EccFound) : State × Bool :=
  let p := State.accPart a
  match s.memCheck m p a.req.val addr d.length .write with
  | some c => (s.refuse a addr true c, false)
  | none =>
    if s.mirrorClosed p addr d.length then (s.violation a addr true .notOwner, false)
    else
      let r := s.eccSeen p a.req.val addr true (if wholeGranules addr d.length then .clean else ecc)
      if !r.2 then (r.1.busError .ecc, false)
      else
        let x := (r.1.writeBytes addr d).mirrorWrite p a.req.val addr d
        (x.1.done, x.2)

/-! ## Any address -/

/-- The ranges that are memory. -/
def MemRange.isMem : MemRange → Bool
  | .window | .mbWindow | .linWindow | .pages | .partner | .pool => false
  | _ => true

/-- The state by whose rights an access is judged: with partition table `m` in force (R251). -/
def State.heldTable (s : State) (m : KMap Word) : State :=
  { s with pt := { s.pt with copy0 := m, copy1 := m } }

/-- A read at any address; `m` is the partition table it is checked against. DEDUCED: notes/assumptions/50.md. -/
def State.busRead (s : State) (a : Acc) (m : KMap Word) (addr n : Nat) (ecc : EccFound) (chan : Option Nat) : State :=
  let j := s.heldTable m
  match rangeOf addr with
  | .pages => match j.checkPage a addr false n with
    | some c => s.violation a addr false c
    | none => s.pageRead (State.accPart a) addr
  | .window => s.tableWindow j a addr n none
  | .mbWindow => s.mbWindow j a addr n none
  | .linWindow => s.linWindow j a addr n none
  | .pool => s.apertureAccess j a addr n none ecc
  | .partner => s.partnerRead a addr n chan
  | _ => s.memRead a m addr n .read ecc

/-- A write at any address; the flag says whether it was mirrored to the partner. DEDUCED: notes/assumptions/50.md. -/
def State.busWrite (s : State) (a : Acc) (m : KMap Word) (addr : Nat) (d : List Byte) (ecc : EccFound) : State × Bool :=
  let n := d.length
  let w := word (leVal d)
  let j := s.heldTable m
  match rangeOf addr with
  | .pages => match j.checkPage a addr true n with
    | some c => (s.violation a addr true c, false)
    | none => (s.done.pageWrite a addr w, false)
  | .window => (s.tableWindow j a addr n (some w), false)
  | .mbWindow => (s.mbWindow j a addr n (some w), false)
  | .linWindow => (s.linWindow j a addr n (some w), false)
  | .pool => (s.apertureAccess j a addr n (some (leVal d)) ecc, false)
  | .partner => (s.violation a addr true .partnerWrite, false)
  | _ => s.memWrite a m addr d ecc

/-- An instruction fetch; nothing but memory gives instructions. DEDUCED: notes/assumptions/50.md. -/
def State.busFetch (s : State) (a : Acc) (addr n : Nat) (ecc : EccFound) : State :=
  if (rangeOf addr).isMem then s.memRead a s.pt.active addr n .fetch ecc else s.violation a addr false .notOwner

/-- A software access that is not to one register named by its command. DESIGN CHOICE: notes/assumptions/17.md. -/
def accessAt (a : Acc) (f : State → State) (s : State) : Result := commandAt a.t f s

/-! ## The commands -/

def execRegisterWrite (a : Acc) (addr : Nat) (val : Word) (size : Nat) (s : State) : Result :=
  accessAt a (fun s => (s.busWrite a s.pt.active addr (leBytes size val.toNat) .clean).1) s

def execReadToClear (a : Acc) (addr size : Nat) (s : State) : Result :=
  accessAt a (fun s => s.busRead a s.pt.active addr size .clean none) s

def execMemoryAccess (a : Acc) (addr : Nat) (op : MemOp) (ecc : EccFound) (s : State) : Result :=
  accessAt a (fun s =>
    match op with
    | .read n => s.busRead a s.pt.active addr n ecc none
    | .fetch n => s.busFetch a addr n ecc
    | .write d => (s.busWrite a s.pt.active addr d ecc).1) s

def execSemClaim (a : Acc) (sem : Fin 64) (s : State) : Result :=
  accessAt a (fun s => s.busRead a s.pt.active (R.COH_SEM sem) 4 .clean none) s

def execPartnerViewRead (a : Acc) (addr size : Nat) (s : State) : Result :=
  accessAt a (fun s => if rangeOf addr = .partner then s.partnerRead a addr size none else s) s

end Sys2Proof.Machine
end

