-- ==== Sys2Proof/Machine/DmaExec.lean ====
section
/-! DEFINITION. The instructions of the DMA channels: moves and their bursts, loops, waits, signals, fences and rings
(spec/10, R233, R235 to R252). One command carries out one burst with all its transactions; only a burst that reads the
partner page view is spread over several, one read at a time. -/

namespace Sys2Proof.Machine

/-- An instruction of channel `c`, which only a RUNNING channel carries out; the completion of software accesses is left
as it was. -/
def dmaAt (t c : Nat) (op : Nat) (f : State → State) (s : State) : Result :=
  eventAt t (fun s =>
    if (s.dchan c).state == .running && fld (s.dmaWord c 0) 31 28 = op then { f s with resp := s.resp } else s) s

/-! ## Arbitration (R250) -/

/-- The head packet of a queue is not yet whole, or waits for its launch time. -/
def State.headHeld (s : State) (q : Nat) : Bool :=
  match (s.queue q).visible with
  | [] => false
  | p :: _ => (p.copy.map (fun m => m.arriving || !s.copyReady (q / 8) m)).getD false

/-- DMA_CFG.MAX_INFLIGHT of a channel (R255). -/
def State.dmaInflight (s : State) (c : Nat) : Nat :=
  let n := s.regF (R.DMA_CFG c) 12 8
  if n = 0 then 32 else n

/-- A RUNNING channel has a transaction to issue and may issue it. -/
def State.dmaIssues (s : State) (c : Nat) : Bool :=
  let x := s.dchan c
  let w0 := s.dmaWord c 0
  x.state == .running && !x.fencing && decide (s.chanReads c < s.dmaInflight c) && decide (s.ulf.reads.length < 512) &&
  match x.back, x.move with
  | some _, _ => true
  | none, some m => m.wait.isNone && !(fld m.w0 27 26 = 1 && s.headHeld (fld m.w1 11 0))
  | none, none =>
    match fld w0 31 28 with
    | 1 => !(fld w0 27 26 = 1 && s.headHeld (fld (s.dmaWord c 1) 11 0))
    | 4 => bit w0 26
    | 5 => true
    | _ => false

/-- The order in which ready channels are served: those within a burst first, then the higher PRIO, then the pointer of that
priority. DEDUCED: notes/assumptions/46.md. -/
def State.dmaRank (s : State) (c : Nat) : Nat :=
  let p := s.regF (R.DMA_CFG c) 1 0
  let begun := ((s.dchan c).move.bind (·.colour)).isSome
  (if begun then 0 else 256) + (3 - p) * 64 + (c + 64 - KMap.get s.dma.turns 0 p % 64) % 64

/-- It is the turn of channel `c`: no other ready channel goes before it. -/
def State.dmaTurn (s : State) (c : Nat) : Bool :=
  s.dmaIssues c && (List.range 64).all (fun k => k == c || !s.dmaIssues k || decide (s.dmaRank c < s.dmaRank k))

/-- An instruction that issues transactions, when it is the channel's turn; the pointer of its priority then stands behind
it (R250). DEDUCED: notes/assumptions/46.md. -/
def dmaIssueAt (t c : Nat) (op : Nat) (f : State → State) (s : State) : Result :=
  dmaAt t c op (fun s =>
    if s.dmaTurn c then
      f { s with dma := { s.dma with turns := KMap.put s.dma.turns (s.regF (R.DMA_CFG c) 1 0) (c + 1) } }
    else s) s

/-! ## The program counter (R244, R252) -/

/-- A fault whose address is that of the instruction. -/
def State.dmaFaultHere (s : State) (c : Nat) (cause : DmaCause) : State := s.dmaFault c cause (s.dmaPcAddr c)

/-- The instruction at PC has completed: the channel is at a boundary. -/
def State.dmaNext (s : State) (c : Nat) : State :=
  let x := s.dchan c
  if 63 ≤ x.pc then s.dmaFaultHere c .pcRange
  else (s.setDchan c { x with state := .running, pc := x.pc + 1, ringDone := 0, prefetch := 0 }).dmaSettle c

/-- The instruction at PC cannot proceed; `q` is the empty source queue it waits for, if that is why. -/
def State.dmaWaiting (s : State) (c : Nat) (q : Option Nat) : State :=
  (s.setDchan c { s.dchan c with state := .waiting, waitSince := s.clk.lt, waitQ := q }).dmaSettle c

/-! ## Transactions (R232, R239, R250, R251) -/

/-- The identity of a channel's transactions, by the owner that the burst's partition table gives. -/
def State.dmaAcc (s : State) (c : Nat) (tab : KMap Word) : Acc :=
  { t := s.clk.lt, part := Fin.ofNat 32 (ownerOfPage tab (dmaPage c)), req := 9 }

/-- Addresses that take one beat per transaction: everything but memory, and the program windows (R2, R233).
DESIGN CHOICE: notes/assumptions/45.md. -/
def beatOnly (addr : Nat) : Bool := !(rangeOf addr).isMem || rangeOf addr == .program

/-- An operand's `n` bytes cut into transactions of whole beats of `w` bytes, none crossing a 64-byte boundary. -/
def cutTx (w : Nat) (fixed : Bool) : Nat → Nat → Nat → List (Nat × Nat)
  | 0, _, _ => []
  | k + 1, a, n =>
    if n = 0 then []
    else
      let m := if fixed || beatOnly a then min w n else min n (64 - a % 64)
      (a, m) :: cutTx w fixed k (if fixed then a else a + m) (n - m)

/-- Reads one after another: their bytes, or the address of the one that failed. -/
def State.dmaReads (c : Nat) (tab : KMap Word) : List (Nat × Nat) → EccFound → State → State × List Byte × Option Nat
  | [], _, s => (s, [], none)
  | (a, n) :: t, ecc, s =>
    let s := s.busRead (s.dmaAcc c tab) tab a n ecc none
    match s.resp with
    | .ok d =>
      let r := State.dmaReads c tab t .clean s
      (r.1, leBytes n d ++ r.2.1, r.2.2)
    | _ => (s, [], some a)

/-- Writes one after another; they count in DMA_BYTES, and mirrored ones are remembered for the next fence. -/
def State.dmaWrites (c : Nat) (tab : KMap Word) : List (Nat × Nat) → List Byte → State → State × Option Nat
  | [], _, s => (s, none)
  | (a, n) :: t, d, s =>
    let r := s.busWrite (s.dmaAcc c tab) tab a (d.take n) .clean
    match r.1.resp with
    | .ok _ =>
      let x := r.1.dchan c
      let s := r.1.setDchan c { x with mirrored := x.mirrored || r.2, bytes := (x.bytes + n) % 2 ^ 64 }
      State.dmaWrites c tab t (d.drop n) s
    | _ => (r.1, some a)

/-! ## MOVE: its fields and its checks (R236, R238, R243) -/

def DmaMove.skind (m : DmaMove) : Nat := fld m.w0 27 26
def DmaMove.dkind (m : DmaMove) : Nat := fld m.w0 25 24
def DmaMove.sw (m : DmaMove) : Nat := 2 ^ fld m.w0 23 21
def DmaMove.dw (m : DmaMove) : Nat := 2 ^ fld m.w0 20 18
def DmaMove.sfix (m : DmaMove) : Bool := bit m.w0 15
def DmaMove.dfix (m : DmaMove) : Bool := bit m.w0 14
/-- A record with a header is written: a queue source into memory (R242). -/
def DmaMove.header (m : DmaMove) : Bool := bit m.w0 13 && m.skind = 1 && m.dkind = 0
def DmaMove.commit (m : DmaMove) : Bool := bit m.w0 12
def DmaMove.burst (m : DmaMove) : Nat := 64 * 2 ^ fld m.w0 11 9
def DmaMove.srcQ (m : DmaMove) : Nat := fld m.w1 11 0
def DmaMove.dstQ (m : DmaMove) : Nat := fld m.w2 11 0

/-- A move from its words, the operands at the cursors where they are not loaded (R237). -/
def DmaChan.moveOf (x : DmaChan) (w0 w1 w2 w3 : Word) (desc : Option Nat) : DmaMove :=
  let load (b k hi : Nat) (cur : Nat) (w : Word) : Nat :=
    if bit w0 b || desc.isSome then w.toNat + fld w0 hi k * 2 ^ 32 else cur
  { w0 := w0, w1 := w1, w2 := w2, w3 := w3, desc := desc
    src := load 17 4 7 x.curS w1, dst := load 16 0 3 x.curD w2, len := fld w3 23 0 }

/-- A queue operand that the channel may use (R243). -/
def State.dmaSrcOk (s : State) (c q : Nat) : Bool :=
  (isMsgQueue q || (176 ≤ q && q < 200)) && s.queueOwner q = s.dmaOwner c
def State.dmaDstOk (s : State) (c q : Nat) : Bool :=
  isMsgQueue q && (s.queueOwner q = s.dmaOwner c || bit (s.qcfgA q) 29)

/-- Lengths and alignments that R236 and R238 refuse. -/
def DmaMove.badLength (m : DmaMove) : Bool :=
  let srcMem := m.skind = 0
  let dstMem := m.dkind = 0
  m.len = 0 || 5 < fld m.w0 11 9
  || (srcMem && m.src % m.sw != 0) || (dstMem && m.dst % m.dw != 0)
  || (srcMem && m.len % m.sw != 0 && !(m.dkind = 1 && m.commit))
  || (dstMem && m.len % m.dw != 0 && m.skind != 1)
  || (m.dkind = 1 && !m.commit && m.len % 4 != 0)

/-- What a move is refused for before it issues anything. DEDUCED: notes/assumptions/46.md. -/
def State.moveRefused (s : State) (c : Nat) (m : DmaMove) : Option DmaCause :=
  if m.skind = 3 || 2 ≤ m.dkind then some .badOpcode
  else if (m.skind = 0 && 6 ≤ fld m.w0 23 21) || (m.dkind = 0 && 6 ≤ fld m.w0 20 18) then some .badWidth
  else if m.badLength then some .badLength
  else if (m.skind = 1 && !s.dmaSrcOk c m.srcQ) || (m.dkind = 1 && !s.dmaDstOk c m.dstQ) then some .queueRefused
  else none

/-- A fault of the checks of a move. -/
def State.moveFault (s : State) (c : Nat) (cause : DmaCause) : State :=
  if cause = .badOpcode || cause = .badWidth then s.dmaFaultHere c cause else s.dmaFaultFree c cause

/-! ## The source of a chunk -/

/-- `n` bytes of a fill pattern from offset `k` (R240). -/
def fillBytes (w : Word) (k n : Nat) : List Byte :=
  (List.range n).map (fun i => (leBytes 4 w.toNat).getD ((k + i) % 4) 0)

/-- Up to two read words of the head packet, of which the move takes `n` bytes; the flag says that one carries ERR. -/
def State.popChunk (q : Nat) : Nat → State → State × List Byte × Bool
  | 0, s => (s, [], false)
  | k + 1, s =>
    let r := s.readWord q .clean
    let x := State.popChunk q k r.2.2
    (x.1, r.1 ++ x.2.1, bit r.2.1 12 || x.2.2)

/-- The bytes of one chunk leave the source (R239 to R241): memory gives whole beats, also where the last is needed only in
part. -/
def State.takeChunk (s : State) (c : Nat) (m : DmaMove) (tab : KMap Word) (ecc : EccFound) (n : Nat) :
    State × List Byte × Option Nat :=
  match m.skind with
  | 0 =>
    let whole := ceilDiv n m.sw * m.sw
    let r := State.dmaReads c tab (cutTx m.sw m.sfix (whole + 1) (if m.sfix then m.src else m.src + m.done) whole) ecc s
    (r.1, r.2.1.take n, r.2.2)
  | 1 =>
    let r := State.popChunk m.srcQ (ceilDiv n 32) s
    let s := r.1.setDchan c { r.1.dchan c with move := some { m with err := m.err || r.2.2 } }
    (s, r.2.1.take n, none)
  | _ => (s, fillBytes m.w1 m.done n, none)

/-! ## The destination of a chunk -/

/-- Write words into the open packet of the channel; words after a drop are discarded (R216, R243). -/
def State.dmaAppend (s : State) (c q : Nat) (colour : Bool) (d : List Byte) : State :=
  (chunks 4 (d.length + 1) d).foldl (fun s x =>
    let s := s.appendWord q (dmaWriter c) (s.dmaOwner c) (some colour) (padTo 4 x)
    let y := s.dchan c
    if (KMap.get (s.queue q).opens {} (dmaWriter c)).dead then
      (s.setDchan c { y with move := y.move.map (fun m => { m with dropped := true }) }).addF (R.DMA_DISCARD c) 31 0 x.length
    else s.setDchan c { y with bytes := (y.bytes + x.length) % 2 ^ 64 }) s

/-- The bytes of one chunk enter the destination, at the place the bytes written before it leave off. -/
def State.putChunk (s : State) (c : Nat) (tab : KMap Word) (colour : Bool) (d : List Byte) : State × Option Nat :=
  match (s.dchan c).move with
  | none => (s, none)
  | some m =>
    if m.dkind = 1 then (s.dmaAppend c m.dstQ colour d, none)
    else
      let a := m.dst + (if m.header then 8 else 0) + m.written
      let r := State.dmaWrites c tab (cutTx m.dw m.dfix (d.length + 1) (if m.dfix then m.dst else a) d.length) d s
      let x := r.1.dchan c
      (r.1.setDchan c { x with move := x.move.map (fun m => { m with written := m.written + d.length }) }, r.2)

/-- Bytes that fill a record of `n` data bytes up to the destination width (R242). -/
def DmaMove.padding (m : DmaMove) (n : Nat) : Nat :=
  if m.skind = 1 && m.dkind = 0 then
    let k := n + (if m.header then 8 else 0)
    ceilDiv k m.dw * m.dw - k
  else 0

/-! ## The end of a move (R237, R241 to R243, R249) -/

/-- The header of a record (R242). -/
def DmaMove.headerBytes (m : DmaMove) (aged : Bool) : List Byte :=
  leBytes 4 (m.done % 2 ^ 17 + m.trunc.toNat * 2 ^ 17 + aged.toNat * 2 ^ 18 + m.err.toNat * 2 ^ 19)
    ++ leBytes 4 (m.gap + m.srcQ * 2 ^ 16)

/-- The result; where a dropped destination meets a truncated or aged source, the spec does not say which is shown.
DESIGN CHOICE: notes/assumptions/47.md. -/
def State.moveResult (s : State) (m : DmaMove) (aged : Bool) : MoveResult × State :=
  let other : MoveResult := if aged then .aged else if m.trunc then .trunc else .ok
  if !m.dropped then (other, s)
  else if other == .ok then (.destDropped, s)
  else
    let r := s.takeFree
    (if r.1 % 2 = 0 then .destDropped else other, r.2)

/-- The move has ended: the cursors, DMA_LAST, then the next instruction or the write-back.
DEDUCED: notes/assumptions/46.md. -/
def State.closeMove (s : State) (c : Nat) (m : DmaMove) (aged : Bool) : State :=
  let r := s.moveResult m aged
  let s := r.2
  let x := s.dchan c
  let adv (fixed : Bool) (a n : Nat) : Nat := (if fixed then a else a + n) % 2 ^ 36
  let s := s.setDchan c { x with
    curS := if m.skind = 0 then adv m.sfix m.src m.done else x.curS
    curD := if m.dkind = 0 then adv m.dfix m.dst (m.written + (if m.header then 8 else 0)) else x.curD
    lastGap := if m.skind = 1 then m.gap else x.lastGap
    lastResult := r.1, move := none }
  if m.err then s.dmaFaultFree c .ecc
  else match m.desc with
    | none => s.dmaNext c
    | some d => s.setDchan c { s.dchan c with back := some ⟨d, m.w0, m.done, r.1⟩ }

/-- The last burst has ended: the rest of a longer packet is discarded, the padding and the header are written, and the
packet of a queue destination is committed. -/
def State.finishMove (s : State) (c : Nat) (tab : KMap Word) (colour aged : Bool) : State :=
  match (s.dchan c).move with
  | none => s
  | some m =>
    let s := if m.trunc && !aged then s.dropSource m else s
    let pad := m.padding m.done - (m.written - m.done)
    let r := if pad = 0 then (s, none) else s.putChunk c tab colour (List.replicate pad 0)
    let r := if m.header && r.2.isNone then
        State.dmaWrites c tab (cutTx (min 8 m.dw) m.dfix 9 m.dst 8) (m.headerBytes aged) r.1
      else r
    match r.2 with
    | some a => r.1.dmaFault c .busError a
    | none =>
      let s := if m.dkind = 1 && m.commit then r.1.commitPacket m.dstQ (dmaWriter c) (lastValid m.done) else r.1
      match (s.dchan c).move with
      | none => s
      | some m => s.closeMove c m aged

/-! ## Bursts (R240, R241) -/

/-- The chunks of a burst, at most 64 bytes each, through the holding register; `n` bytes are left of it, and `total` is
where the move ends. -/
def State.moveChunks (c : Nat) (tab : KMap Word) (colour : Bool) (total : Nat) :
    Nat → Nat → EccFound → State → State × Option Nat
  | 0, _, _, s => (s, none)
  | k + 1, n, ecc, s =>
    match (s.dchan c).move with
    | none => (s, none)
    | some m =>
      if n = 0 then (s, none)
      else
        let w := min 64 n
        let r := s.takeChunk c m tab ecc w
        match r.2.2 with
        | some a => (r.1, some a)
        | none =>
          let pad := if m.done + w = total then m.padding total else 0
          let p := r.1.putChunk c tab colour (r.2.1 ++ List.replicate pad 0)
          match p.2 with
          | some a => (p.1, some a)
          | none =>
            let x := p.1.dchan c
            let s := p.1.setDchan c { x with move := x.move.map (fun m => { m with done := m.done + w }) }
            State.moveChunks c tab colour total k (n - w) .clean s

/-- A burst to the bytes `upto` of a move that ends at `total`. DEDUCED: notes/assumptions/46.md. -/
def State.runBurst (s : State) (c : Nat) (tab : KMap Word) (colour : Bool) (total upto : Nat) (ecc : EccFound) : State :=
  match (s.dchan c).move with
  | none => s
  | some m =>
    let r := State.moveChunks c tab colour total 33 (upto - m.done) ecc s
    match r.2 with
    | some a => r.1.dmaFault c .busError a
    | none =>
      match (r.1.dchan c).move with
      | none => r.1
      | some m =>
        if m.done = total then r.1.finishMove c tab colour false
        else if m.err then r.1.dmaFaultFree c .ecc
        else r.1

/-- The next read of a burst from the partner page view, or the write of the chunk it has filled (R43, R251).
DESIGN CHOICE: notes/assumptions/45.md. -/
def State.viewBurst (s : State) (c : Nat) (m : DmaMove) : State :=
  let colour := m.colour.getD s.pt.colour
  let tab := s.pt.copyOf colour
  let upto := if m.colour.isSome then m.upto else min m.len (m.done + m.burst)
  let m := { m with colour := some colour, upto := upto }
  let k := min 64 (upto - m.done)
  if m.wait.isSome then s
  else if m.hold.length < k then
    let tag := (s.ulf.closeComb).tag
    let a := if m.sfix then m.src else m.src + m.done + m.hold.length
    let s := s.setDchan c { s.dchan c with move := some { m with wait := some tag } }
    let s := s.partnerRead (s.dmaAcc c tab) a m.sw (some c)
    if s.resp = .none then s else s.dmaFault c .busError a
  else
    let d := m.hold.take k
    let s := s.setDchan c { s.dchan c with move := some { m with hold := [] } }
    let p := s.putChunk c tab colour d
    match p.2 with
    | some a => p.1.dmaFault c .busError a
    | none =>
      match (p.1.dchan c).move with
      | none => p.1
      | some m =>
        let m := { m with done := m.done + k, colour := if m.done + k = upto then none else m.colour }
        let s := p.1.setDchan c { p.1.dchan c with move := some m }
        if m.done = m.len then s.finishMove c tab colour false else s

/-- The next burst of the move in progress, of the words of the packet that are not popped yet. A packet whose tail is still
arriving is left until it is whole. DESIGN CHOICE: notes/assumptions/45.md. -/
def State.moveBurst (s : State) (c : Nat) (m : DmaMove) (ecc : EccFound) : State :=
  let tab := s.pt.active
  let colour := s.pt.colour
  if m.skind = 0 && rangeOf m.src == .partner then s.viewBurst c m
  else if m.skind = 1 then
    match (s.queue m.srcQ).visible with
    | [] => s.finishMove c tab colour true
    | p :: _ =>
      if m.done ≠ 0 && p.popped = 0 then s.finishMove c tab colour true
      else if s.headHeld m.srcQ then s
      else
        let s := s.cellEcc m.srcQ ecc
        let rest := p.data.length - 32 * p.popped
        let total := min m.len (m.done + rest)
        let m := if m.done = 0 then { m with gap := p.gap, trunc := decide (m.len < rest) } else m
        let s := s.setDchan c { s.dchan c with move := some m }
        s.runBurst c tab colour total (min total (m.done + m.burst)) ecc
  else s.runBurst c tab colour m.len (min m.len (m.done + m.burst)) ecc

/-- A move begins: its checks, then its first burst; with nothing in its source queue the channel waits. -/
def State.beginMove (s : State) (c : Nat) (m : DmaMove) (ecc : EccFound) : State :=
  match s.moveRefused c m with
  | some cause => s.moveFault c cause
  | none =>
    if m.skind = 1 && (s.queue m.srcQ).visible.isEmpty then s.dmaWaiting c (some m.srcQ)
    else
      let x := s.dchan c
      let s := s.setDchan c { x with
        move := some m
        curS := if m.skind = 0 then m.src % 2 ^ 36 else x.curS
        curD := if m.dkind = 0 then m.dst % 2 ^ 36 else x.curD }
      s.moveBurst c m ecc

/-- The MOVE at PC: it begins, or its next burst. -/
def State.moveStep (s : State) (c : Nat) (ecc : EccFound) : State :=
  let x := s.dchan c
  match x.move with
  | some m => s.moveBurst c m ecc
  | none => s.beginMove c (x.moveOf (s.dmaWord c 0) (s.dmaWord c 1) (s.dmaWord c 2) (s.dmaWord c 3) none) ecc

def execMove (t : Nat) (ch : Fin 64) (ecc : EccFound) (s : State) : Result := dmaIssueAt t ch 1 (fun s => s.moveStep ch ecc) s

/-! ## LOOP (R244) -/

def State.loopStep (s : State) (c : Nat) : State :=
  let x := s.dchan c
  let w := s.dmaWord c 0
  let ctr := bit w 27
  let count := fld w 15 0
  let old := if ctr then x.lc1 else x.lc0
  let n := (if old = 0 then count else old) - (if count = 0 then 0 else 1)
  let s := s.setDchan c (if ctr then { x with lc1 := n } else { x with lc0 := n })
  if n ≠ 0 || count = 0 then (s.setDchan c { s.dchan c with pc := fld w 21 16 }).dmaSettle c else s.dmaNext c

def execLoop (t : Nat) (ch : Fin 64) (s : State) : Result := dmaAt t ch 2 (fun s => s.loopStep ch) s

/-! ## WAIT (R245) -/

/-- QCNT.WORDS of a queue (R222). -/
def State.queueWords (s : State) (q : Nat) : Nat := fld (s.queue q).count 27 0

/-- The WAIT at PC is met, with PACE as it leaves it, given when the WAIT began; PACE also where it is not. -/
def State.waitMet (s : State) (c since : Nat) : Bool × Bool :=
  let x := s.dchan c
  let w := s.dmaWord c 0
  let w1 := (s.dmaWord c 1).toNat
  let w2 := (s.dmaWord c 2).toNat
  let n := s.queueWords (fld w 11 0)
  match fld w 27 24 with
  | 0 =>
    if x.pace && w2 < n then (true, true) else if w1 ≤ n then (true, true) else (false, false)
  | 1 =>
    if x.pace && n < w1 then (true, true) else if n ≤ w2 then (true, true) else (false, false)
  | 2 => (s.baseReached (w1 + w2 * 2 ^ 32) (bit w 23), x.pace)
  | 3 => (decide (since + w1 ≤ s.clk.lt) && (!bit w 23 || s.syncValid), x.pace)
  | _ => (x.trig, x.pace)

/-- A WAIT passes: PACE and the trigger flag as it leaves them, and the next instruction. -/
def State.waitPass (s : State) (c : Nat) (pace : Bool) : State :=
  let x := s.dchan c
  let trig := if fld (s.dmaWord c 0) 27 24 = 4 then false else x.trig
  (s.setDchan c { x with pace := pace, trig := trig }).dmaNext c

def State.waitStep (s : State) (c : Nat) : State :=
  if 5 ≤ fld (s.dmaWord c 0) 27 24 then s.dmaFaultHere c .badOpcode
  else
    let r := s.waitMet c s.clk.lt
    if r.1 then s.waitPass c r.2 else (s.setDchan c { s.dchan c with pace := r.2 }).dmaWaiting c none

def execWait (t : Nat) (ch : Fin 64) (s : State) : Result := dmaAt t ch 3 (fun s => s.waitStep ch) s

/-! ## RING (R248, R249) -/

/-- The fields of the RING at PC. -/
def State.dmaRingSize (s : State) (c : Nat) : Nat := 2 ^ fld (s.dmaWord c 0) 27 24
def State.dmaRingBase (s : State) (c : Nat) : Nat := (s.dmaWord c 1).toNat + fld (s.dmaWord c 0) 3 0 * 2 ^ 32
def State.ringEmpty (s : State) (c : Nat) : Nat := fld (s.dmaWord c 0) 21 20
/-- DEDUCED: notes/assumptions/46.md. -/
def State.ringPoll (s : State) (c : Nat) : Nat := max 1 (fld (s.dmaWord c 2) 15 0) * 1000
def State.ringCount (s : State) (c : Nat) : Nat := fld (s.dmaWord c 3) 15 0

/-- A descriptor that can be read and has OWN = 1. -/
def State.ownedDesc (s : State) (c addr : Nat) : Bool :=
  (rangeOf addr).isMem && (s.memCheck s.pt.active (s.dmaOwner c) 9 addr 32 .read).isNone
    && bit (word (s.readNum addr 4)) 31

/-- Consecutive descriptors after `idx` that are prefetched, `k` at the most. DEDUCED: notes/assumptions/46.md. -/
def State.prefetchFrom (s : State) (c base size : Nat) : Nat → Nat → Nat
  | 0, _ => 0
  | k + 1, idx =>
    let i := (idx + 1) % size
    if s.ownedDesc c (base + 32 * i) then 1 + s.prefetchFrom c base size k i else 0

/-- How many descriptors are held after this one has begun: no more are prefetched while the page stops, nor beyond
COUNT. -/
def State.prefetchNow (s : State) (c : Nat) : Nat :=
  let x := s.dchan c
  if s.pageActive (dmaPage c) then
    let n := s.prefetchFrom c (s.dmaRingBase c) (s.dmaRingSize c) (min 4 (s.dmaRingSize c - 1)) x.ringIdx
    if s.ringCount c = 0 then n else min n (s.ringCount c - x.ringDone - 1)
  else x.prefetch - 1

/-- A descriptor with OWN = 0: none is held, and EMPTY applies. -/
def State.ringIdle (s : State) (c : Nat) : State :=
  let s := s.setDchan c { s.dchan c with prefetch := 0 }
  match s.ringEmpty c with
  | 1 => s.dmaWaiting c none
  | 2 => s.dmaWaiting c none
  | _ => s.dmaNext c

/-- A ring step: the descriptor is read, and carried out as a move that loads both cursors. -/
def State.ringBegin (s : State) (c : Nat) (ecc : EccFound) : State :=
  let x := s.dchan c
  if fld (s.dmaWord c 0) 27 24 = 0 || fld (s.dmaWord c 1) 4 0 ≠ 0 then s.dmaFaultHere c .ringInvalid
  else
    let addr := s.dmaRingBase c + 32 * x.ringIdx
    let r := State.dmaReads c s.pt.active [(addr, 32)] ecc s
    match r.2.2 with
    | some a => r.1.dmaFault c .busError a
    | none =>
      let w (k : Nat) : Word := word (leVal ((r.2.1.drop (4 * k)).take 4))
      let s := r.1
      if !bit (w 0) 31 then s.ringIdle c
      else
        let s := s.setDchan c { s.dchan c with prefetch := s.prefetchNow c }
        s.beginMove c (x.moveOf (w 0) (w 1) (w 2) (w 3) (some addr)) .clean

/-- DESIGN CHOICE: notes/assumptions/45.md. -/
def State.ringStep (s : State) (c : Nat) (ecc : EccFound) : State :=
  let x := s.dchan c
  match x.back, x.move with
  | some _, _ => s
  | none, some m => s.moveBurst c m ecc
  | none, none => s.ringBegin c ecc

def execRing (t : Nat) (ch : Fin 64) (ecc : EccFound) (s : State) : Result := dmaIssueAt t ch 5 (fun s => s.ringStep ch ecc) s

/-- The write-back of a completed step: its result and time, then OWN = 0, then SIG (R249). -/
def State.ringWriteback (s : State) (c : Nat) : State :=
  match (s.dchan c).back with
  | none => s
  | some b =>
    let words := leBytes 4 (b.bytes % 2 ^ 24 + b.result.code * 2 ^ 24) ++ leBytes 4 s.clk.lt
    let r := State.dmaWrites c s.pt.active [(b.desc + 0x18, 8)] words s
    let r := match r.2 with
      | some _ => r
      | none => State.dmaWrites c s.pt.active [(b.desc, 4)] (leBytes 4 (setBit b.word0 31 false).toNat) r.1
    match r.2 with
    | some a => r.1.dmaFault c .busError a
    | none =>
      let s := r.1.addF (R.DMA_DESC_COUNT c) 31 0 1
      let s := s.raiseIf (bit b.word0 30) (dmaPage c) (c % 8)
      let x := s.dchan c
      let n := x.ringDone + 1
      let s := s.setDchan c { x with back := none, ringIdx := (x.ringIdx + 1) % s.dmaRingSize c, ringDone := n }
      if s.ringCount c ≠ 0 && s.ringCount c ≤ n then s.dmaNext c else s.dmaSettle c

def execRingWriteback (t : Nat) (ch : Fin 64) (s : State) : Result := dmaIssueAt t ch 5 (fun s => s.ringWriteback ch) s

/-! ## What a WAITING channel waits for (R234, R241, R245, R248) -/

def State.waitOver (s : State) (c : Nat) : State :=
  let x := s.dchan c
  if x.state != .waiting then s
  else
    let run := s.setDchan c { x with state := .running }
    match x.waitQ, fld (s.dmaWord c 0) 31 28 with
    | some q, _ => if (s.queue q).visible.isEmpty then s else run.dmaSettle c
    | none, 3 =>
      let r := s.waitMet c x.waitSince
      if r.1 then s.waitPass c r.2 else s
    | none, 5 =>
      if s.ringEmpty c = 2 then (if x.trig then (s.setDchan c { x with state := .running, trig := false }).dmaSettle c else s)
      else if x.waitSince + s.ringPoll c ≤ s.clk.lt then run.dmaSettle c else s
    | none, _ => s

def execDmaWaitMet (t : Nat) (ch : Fin 64) (s : State) : Result := eventAt t (fun s => s.waitOver ch) s

/-! ## SIGNAL (R246) -/

/-- The address and the word a SIGNAL writes. -/
def State.signalAddr (s : State) (c : Nat) : Nat := (s.dmaWord c 1).toNat + fld (s.dmaWord c 2) 3 0 * 2 ^ 32

/-- DEDUCED: notes/assumptions/46.md. -/
def State.signalStep (s : State) (c : Nat) : State :=
  let w := s.dmaWord c 0
  let target := fld w 21 16
  if bit w 22 && s.dmaOwner target ≠ s.dmaOwner c then s.dmaFaultFree c .trigRefused
  else
    let s := s.setDchan c { s.dchan c with signalling := true }
    let r := if bit w 26 then
        State.dmaWrites c s.pt.active [(s.signalAddr c, 4)] (leBytes 4 (s.dmaWord c 3).toNat) s
      else (s, none)
    match r.2 with
    | some a => r.1.dmaFault c .busError a
    | none =>
      let s := r.1.raiseIf (bit w 27) (dmaPage c) (c % 8)
      let s := s.when (bit w 22) (fun s => s.dmaSetTrig target)
      let s := s.setDchan c { s.dchan c with signalling := false }
      if (s.dchan c).state == .running then s.dmaNext c else s

/-- A SIGNAL that writes a word waits for its turn; one that does not issues nothing. -/
def execSignal (t : Nat) (ch : Fin 64) (s : State) : Result :=
  dmaAt t ch 4 (fun s =>
    if !bit (s.dmaWord ch 0) 26 then s.signalStep ch
    else if s.dmaTurn ch then
      ({ s with dma := { s.dma with turns := KMap.put s.dma.turns (s.regF (R.DMA_CFG ch) 1 0) (ch + 1) } } : State).signalStep ch
    else s) s

/-! ## FENCE and HALT (R247, R374) -/

/-- Mirrored writes of the channel are still to be acknowledged; with the link down nothing is (R357).
DEDUCED: notes/assumptions/46.md. -/
def State.needsFence (s : State) (c : Nat) : Bool :=
  (s.dchan c).mirrored && (s.ulf.state == .up || s.ulf.state == .retrain)

/-- The fence at PC is over: FENCE goes on, HALT halts and may raise SIGNAL. -/
def State.fenceOver (s : State) (c : Nat) : State :=
  let w := s.dmaWord c 0
  let x := s.dchan c
  let s := s.setDchan c { x with fencing := false, acked := false, mirrored := false }
  if fld w 31 28 = 6 then s.dmaNext c
  else (s.setDchan c { s.dchan c with state := .halted, stop := false, prefetch := 0 }).raiseIf (bit w 27) (dmaPage c) (c % 8)

/-- FENCE, or HALT that waits as one. -/
def State.fenceStep (s : State) (c : Nat) : State :=
  let x := s.dchan c
  if x.fencing then s
  else if s.needsFence c then (s.setDchan c { x with fencing := true, acked := false }).sendFence (s.dmaOwner c) c
  else s.fenceOver c

def execFence (t : Nat) (ch : Fin 64) (s : State) : Result := dmaAt t ch 6 (fun s => s.fenceStep ch) s
def execHalt (t : Nat) (ch : Fin 64) (s : State) : Result := dmaAt t ch 0 (fun s => s.fenceStep ch) s

/-- The FENCE_ACK of the channel's fence has arrived. -/
def State.fenceComplete (s : State) (c : Nat) : State :=
  let x := s.dchan c
  if x.fencing && x.acked then s.fenceOver c else s

def execFenceComplete (t : Nat) (ch : Fin 64) (s : State) : Result := eventAt t (fun s => s.fenceComplete ch) s

/-! ## Faults that no other command takes (R235, R252) -/

/-- An opcode that is no instruction; or a transaction of the channel that the ECC of DRAM fails at an address.
DEDUCED: notes/assumptions/46.md. -/
def State.dmaFaulted (s : State) (c : Nat) (bus : Option Nat) : State :=
  let x := s.dchan c
  let op := fld (s.dmaWord c 0) 31 28
  if x.state != .running then s
  else match bus with
    | none => if 7 ≤ op then s.dmaFaultHere c .badOpcode else s
    | some a =>
      if inDram a 1 && (x.move.isSome || op = 1 || op = 5 || (op = 4 && bit (s.dmaWord c 0) 26)) then
        (s.dramUncorrectable (s.dmaOwner c) 9 a false).dmaFault c .busError a
      else s

def execDmaFault (t : Nat) (ch : Fin 64) (bus : Option Nat) (s : State) : Result := eventAt t (fun s => s.dmaFaulted ch bus) s

end Sys2Proof.Machine
end

