-- ==== Sys2Proof/Machine/PairExec.lean ====
section
/-! DEFINITION. The pair controller at work: contact, leases, claims and splits, the pair-coherent commit, resynchronisation,
handover and leaving (spec/16, R381 to R402). -/

namespace Sys2Proof.Machine

/-- The message at the front that a command takes, if it is of its kind and for its partition. -/
def State.msgFor (s : State) (kind p : Nat) : Option (PairMsg × State) :=
  match s.takeMsg kind with
  | some (m, s) => if m.part % 32 = p then some (m, s) else none
  | none => none

/-! ## Contact (R382, R383, R395) -/

/-- The HELLO of the partner finds equal masks: the units are in contact. `theirs` are the partitions for which the partner
has DIVERGED; no field of the HELLO carries them. -/
def State.makeContact (s : State) (m : PairMsg) (theirs : Word) : State :=
  let fresh := !s.pair.contact
  let s := s.setPair' { s.pair with
    contact := true, mismatch := false, pClaimed := word m.word2, suspend := none, leased := s.pair.leased && !fresh }
  if !fresh then s
  else s.pairedParts.foldl (fun s p =>
    if s.roleOf p == .solo then s.takeRole p .active .none
    else if s.roleOf p == .standby && ((s.pp p).diverged || bit theirs p) then s.takeRole p .joining .none
    else s) s

/-- A HELLO: it is answered unless this unit's own is under way. DEDUCED: notes/assumptions/55.md. -/
def State.helloRx (s : State) (theirs : Word) : State :=
  match s.takeMsg 2 with
  | none => s
  | some (m, s) =>
    if !s.pairOn || s.pair.left then s
    else
      let s := s.when (s.pair.contact || !s.pair.greeted) (fun s => s.sendHello)
      if word m.word0 = s.pairedMask && word m.word1 = s.prefMask then s.makeContact m theirs
      else (s.setPair' { s.pair with contact := false, leased := false, mismatch := true }).raise pairPage 5

def execHelloRx (t : Nat) (diverged : Word) (s : State) : Result := eventAt t (fun s => s.helloRx diverged) s

/-! ## Leases (R384, R385, R387, R389, R390) -/

/-- A LEASE is due at every multiple of 100,000 ns. -/
def State.leaseDue (s : State) : State := if s.pair.contact && s.clk.lt % 100000 = 0 then s.sendLease else s

def execLeaseSend (t : Nat) (s : State) : Result := eventAt t State.leaseDue s

/-- The masks of an accepted lease. A partition the partner begins to show ACTIVE while this unit holds it unoffered is
one the partner has claimed (R391). -/
def State.takeLease (s : State) (m : PairMsg) : State :=
  let x := s.pair
  let act := word m.word0
  let new := (List.range 32).filter (fun p => bit act p && !bit x.pActive p && x.leased && s.holds p && !(s.pp p).offered)
  let claimed := new.foldl (fun w p => setBit w p true) (x.pClaimed &&& act)
  let kept := if x.leased then claimed else x.pClaimed
  s.setPair' { x with
    leaseAt := some s.clk.lt, leased := true, pActive := act, pHealthy := word m.word1, pSynced := word m.word2
    pSleep := m.flags.testBit 0, authFault := x.authFault || !x.authIn, pClaimed := kept }

/-- What an accepted lease means for one paired partition. DEDUCED: notes/assumptions/55.md. -/
def State.leasePart (s : State) (p : Nat) : State :=
  let theirs := bit s.pair.pActive p
  let x := s.pp p
  let s := s.setPp p { x with sick := if theirs && !bit s.pair.pHealthy p then x.sick + 1 else 0
                              split := x.split && theirs }
  let x := s.pp p
  if theirs && s.holds p then
    if x.offered then s.yieldPart p else if x.split then s else s.splitPart p
  else if 2 ≤ x.sick && s.mayClaim p then s.claim p .release
  else s.electPart p

/-- The copier's partition is no longer one to bring up to date. -/
def State.checkSync (s : State) : State :=
  match s.pair.sync with
  | some (p, _) => if s.roleOf p == .active then s else s.setPair' { s.pair with sync := none }
  | none => s

def State.leaseRx (s : State) : State :=
  match s.takeMsg 1 with
  | none => s
  | some (m, s) =>
    if !s.pair.contact then s
    else
      let s := s.takeLease m
      let s := (bitsOf s.pair.pActive 32).foldl (fun s p => s.pairRenew p) s
      let s := s.pairedParts.foldl (fun s p => s.leasePart p) s
      s.checkSync.startSync.leaveStep

def execLeaseRx (t : Nat) (s : State) : Result := eventAt t State.leaseRx s

/-! ## Claims (R387, R388, R402) -/

/-- FAST and SLOW claims are not made in sleep, nor for a while after it (R402). -/
def State.claimsSuspended (s : State) : Bool :=
  ((s.pwr.zsp.state == .committed || s.pwr.zsp.state == .asleep) && s.pair.pSleep)
  || (match s.pair.suspend with
    | some t => decide (s.clk.lt < t)
    | none => false)

/-- DEDUCED: notes/assumptions/55.md. -/
def State.fastClaim (s : State) : Bool := decide (320 ≤ s.ageUs s.pair.leaseAt) && !s.pair.authIn
def State.slowClaim (s : State) : Bool :=
  s.reg R.PAIR_BB_PORTS != 0 && decide (10000 ≤ s.ageUs s.pair.leaseAt) && decide (10000 ≤ s.ageUs s.pair.bbAt)

/-- A claim of partition `p`: for a RELEASE that has come, or for the silence of the partner. -/
def State.takeover (s : State) (p : Nat) : State :=
  match s.msgFor 3 p with
  | some (_, s) => if s.mayClaim p then s.claim p .release else s
  | none =>
    if !s.mayClaim p || s.claimsSuspended then s
    else if s.fastClaim then s.claim p .fast
    else if s.slowClaim then s.claim p .slow
    else s

def execTakeover (t : Nat) (part : Fin 32) (s : State) : Result := eventAt t (fun s => s.takeover part) s

/-- The partner's AUTH line after its filter (R385). -/
def State.authChange (s : State) (level : Bool) : State := s.setPair' { s.pair with authIn := level }

def execAuthInChange (t : Nat) (level : Bool) (s : State) : Result := eventAt t (fun s => s.authChange level) s

/-- HB_MS has passed without a heartbeat: health is a function of the time, so that nothing else changes (R381). -/
def execHeartbeatExpired (t : Nat) (_part : Fin 32) (s : State) : Result := eventAt t id s

/-- The suspension of R402 ends. -/
def State.suspendEnd (s : State) : State :=
  match s.pair.suspend with
  | some t => if t ≤ s.clk.lt then s.setPair' { s.pair with suspend := none } else s
  | none => s

def execSleepSuspendEnd (t : Nat) (s : State) : Result := eventAt t State.suspendEnd s

/-! ## The pair-coherent and the joint commit (R397, R398) -/

/-- A message about a commit of partition `p`. -/
def State.sayCommit (s : State) (kind p reason : Nat) : State := s.sendPair { kind := kind, part := p, reason := reason }

/-- A pending commit of `p` that this unit exchanges with its partner. -/
def State.exchange (s : State) (p : Nat) : Option PendingCommit :=
  match (s.bank p).pending with
  | some c => if c.pairMode then some c else none
  | none => none

def State.putPending (s : State) (p : Nat) (c : PendingCommit) : State := s.setBank p { s.bank p with pending := some c }

/-- Why a PREPARE is rejected; 0 where it is accepted. -/
def State.prepareReason (s : State) (p : Nat) (m : PairMsg) : Nat :=
  let joint := !(s.isPaired p && s.pairOn)
  if !s.pair.contact then 1
  else if joint then
    match s.exchange p with
    | none => 3
    | some c => if s.hw.unitId = 0 || c.stage != .none then 3 else if c.time ≠ m.time || !s.timeOk m.time then 4 else 0
  else if s.hw.unitId = 0 && (s.exchange p).any (fun c => c.stage == .prepared) then 3
  else if s.roleOf p != .standby || s.partnerRole p != .active then 2
  else if s.hasPending p then 3
  else if !s.timeOk m.time then 4
  else 0

/-- PREPAREs have crossed: unit 1 gives up its own commit, and then answers (R398). -/
def State.crossed (s : State) (p : Nat) : State :=
  match s.exchange p with
  | some c => if s.hw.unitId = 1 && c.stage == .prepared then s.pendingRefused p .refusedPair else s
  | none => s

/-- DEDUCED: notes/assumptions/56.md. -/
def State.prepareRx (s : State) (p : Nat) : State :=
  match s.msgFor 4 p with
  | none => s
  | some (m, s) =>
    let s := s.crossed p
    let r := s.prepareReason p m
    if r ≠ 0 then s.sayCommit 6 p r
    else
      let all := ((s.exchange p).map (·.all)).getD false
      (s.putPending p { time := m.time, all := all, pairMode := true, stage := .accepted, fromPartner := true
                        count := m.word0 }).sayCommit 5 p 0

def execPrepareRx (t : Nat) (part : Fin 32) (s : State) : Result := eventAt t (fun s => s.prepareRx part) s

/-- The initiator's commit at a stage takes a change. -/
def State.initiator (s : State) (p : Nat) (f : PendingCommit → PendingCommit) : State :=
  match s.exchange p with
  | some c => if c.fromPartner then s else s.putPending p (f c)
  | none => s

def State.acceptRx (s : State) (p : Nat) : State :=
  match s.msgFor 5 p with
  | none => s
  | some (_, s) => s.initiator p (fun c => if c.stage == .prepared then { c with stage := .accepted } else c)

def execAcceptRx (t : Nat) (part : Fin 32) (s : State) : Result := eventAt t (fun s => s.acceptRx part) s

/-- A REJECT: of a PREPARE, or LATE for a GO. -/
def State.rejectRx (s : State) (p : Nat) : State :=
  match s.msgFor 6 p with
  | none => s
  | some (m, s) =>
    if m.reason = 7 then s.addF R.PAIR_PC_SPLIT 31 0 1
    else match s.exchange p with
      | some c => if c.fromPartner then s else s.pendingRefused p .refusedPair
      | none => s

def execRejectRx (t : Nat) (part : Fin 32) (s : State) : Result := eventAt t (fun s => s.rejectRx part) s

/-- The partner's verdict: 0 OK, 5 STAGE, 6 DRAIN. -/
def State.ownVerdict (s : State) (p : Nat) (c : PendingCommit) : Nat :=
  let x := s.pp p
  let joint := !(s.isPaired p && s.pairOn)
  if s.commitDrains p c.all then 6 else if !joint && (x.accepted ≠ c.count || x.refused ≠ 0) then 5 else 0

/-- T − 250 µs. DEDUCED: notes/assumptions/56.md. -/
def State.verdictCheck (s : State) (p : Nat) : State :=
  match s.exchange p with
  | none => s
  | some c =>
    if s.syncNs + 250000 < c.time || c.ownDrain.isSome then s
    else if c.fromPartner then
      let r := s.ownVerdict p c
      (s.putPending p { c with ownDrain := some (r = 6), stage := .verdictGiven }).sayCommit 7 p r
    else if c.stage == .accepted then s.putPending p { c with ownDrain := some (s.commitDrains p c.all) }
    else if c.stage == .prepared then s.pendingRefused p .refusedPair
    else s

def execVerdictCheck (t : Nat) (part : Fin 32) (s : State) : Result := eventAt t (fun s => s.verdictCheck part) s

def State.verdictRx (s : State) (p : Nat) : State :=
  match s.msgFor 7 p with
  | none => s
  | some (m, s) => s.initiator p (fun c => { c with verdict := some m.reason })

def execVerdictRx (t : Nat) (part : Fin 32) (s : State) : Result := eventAt t (fun s => s.verdictRx part) s

/-- T − 100 µs: GO, or ABORT with the reason that stands in the way. -/
def State.goDecision (s : State) (p : Nat) : State :=
  match s.exchange p with
  | none => s
  | some c =>
    if c.fromPartner || (c.stage != .accepted && c.stage != .prepared) || s.syncNs + 100000 < c.time then s
    else
      let ready := c.stage == .accepted && c.verdict == some 0 && c.ownDrain == some false
      let drain := c.ownDrain == some true || c.verdict == some 6
      if ready then (s.putPending p { c with stage := .go }).sayCommit 8 p 0
      else if drain then (s.sayCommit 9 p 6).pendingRefused p .refusedDrain
      else (s.sayCommit 9 p (match c.verdict with | some 5 => 5 | _ => 1)).pendingRefused p .refusedPair

def execGoDecision (t : Nat) (part : Fin 32) (s : State) : Result := eventAt t (fun s => s.goDecision part) s

/-- A GO at or after T: the commit is refused, and the unit falls back to JOINING.
DEDUCED: notes/assumptions/56.md. -/
def State.goLate (s : State) (p : Nat) : State :=
  let s := match s.exchange p with
    | some c => if c.fromPartner then s.pendingRefused p .refusedPair else s
    | none => s
  let s := s.sayCommit 6 p 7
  let s := s.when (s.roleOf p == .standby) (fun s => s.takeRole p .joining .none)
  s.addF R.PAIR_PC_SPLIT 31 0 1

/-- DEDUCED: notes/assumptions/56.md. -/
def State.goRx (s : State) (p : Nat) : State :=
  match s.msgFor 8 p with
  | none => s
  | some (_, s) =>
    match s.exchange p with
    | some c => if c.fromPartner && s.syncNs < c.time then s.putPending p { c with stage := .go } else s.goLate p
    | none => s.goLate p

def execGoRx (t : Nat) (part : Fin 32) (s : State) : Result := eventAt t (fun s => s.goRx part) s

/-- An ABORT for a cancel carries REASON OK, one of the exchange its reason. DEDUCED: notes/assumptions/56.md. -/
def State.abortRx (s : State) (p : Nat) : State :=
  match s.msgFor 9 p with
  | none => s
  | some (m, s) =>
    match s.exchange p with
    | none => s
    | some _ => if m.reason = 0 then s.setResult p .cancelled else s.pendingRefused p .refusedPair

def execPairAbortRx (t : Nat) (part : Fin 32) (s : State) : Result := eventAt t (fun s => s.abortRx part) s

/-! ## Resynchronisation (R399) -/

/-- Every byte of the MEMORY phase has been sent: TABLES begins. -/
def State.memoryDone (s : State) : State :=
  match s.pair.sync with
  | some (p, .memory []) => (s.setPair' { s.pair with sync := some (p, .tables) }).sendTables p
  | _ => s.copyOn 4

def execMemoryPhaseDone (t : Nat) (s : State) : Result := eventAt t State.memoryDone s

/-- The partner's side: what was staged is committed, and the copy is STANDBY. -/
def State.joinDone (s : State) (p : Nat) : State :=
  if s.commitDrains p false then s
  else
    let s := s.applyCommit p false
    let s := s.setPp p { s.pp p with diverged := false }
    (s.takeRole p .standby .synced).raise pairPage 4

/-- The end of the TABLES phase, on the unit that is brought up to date or on the one that is ACTIVE.
DEDUCED: notes/assumptions/57.md. -/
def State.syncDone (s : State) (p : Nat) : State :=
  if s.roleOf p == .joining && s.partnerRole p == .active && !s.hasPending p then s.joinDone p
  else match s.pair.sync with
    | some (q, .tables) =>
      if p = q then
        let s := (s.setPair' { s.pair with sync := none }).setPp p { s.pp p with diverged := false }
        (s.announceRole p).startSync
      else s
    | _ => s

def execSyncDone (t : Nat) (part : Fin 32) (s : State) : Result := eventAt t (fun s => s.syncDone part) s

/-! ## Handover and leaving (R400, R401) -/

/-- No posted write waits or is unacknowledged. -/
def Ulf.postedDone (u : Ulf) : Bool :=
  u.comb.isNone && u.waitP.isEmpty && u.replay.all (fun x => !(2 ≤ x.flit.type && x.flit.type ≤ 4))

/-- RELEASE follows the last mirrored write. DEDUCED: notes/assumptions/57.md. -/
def State.releaseSend (s : State) : State :=
  match s.pair.handover with
  | none => s
  | some h =>
    if h.released || !s.ulf.postedDone then s
    else
      let s := s.setPair' { s.pair with handover := some { h with released := true } }
      (s.setPp h.part { s.pp h.part with offered := true }).sayCommit 3 h.part 0

def execPairReleaseSend (t : Nat) (s : State) : Result := eventAt t State.releaseSend s

/-- BYE: the partner leaves. DEDUCED: notes/assumptions/55.md. -/
def State.byeRx (s : State) : State :=
  match s.takeMsg 10 with
  | none => s
  | some (_, s) => (s.setPair' { s.pair with byeSeen := true }).loseContact

def execByeRx (t : Nat) (s : State) : Result := eventAt t State.byeRx s

end Sys2Proof.Machine
end

