-- ==== Sys2Proof/Machine/UlfExec.lean ====
section
/-! DEFINITION. The Uloft link at work: training, flits and their sequence, what arriving flits do, completions, fences
and the tunnel of P26 (spec/15, R356 to R377). -/

namespace Sys2Proof.Machine

/-! ## Training (R356 to R358) -/

/-- Every 1 ms a link that is DOWN begins to train. DEDUCED: notes/assumptions/54.md. -/
def State.trainStart (s : State) : State :=
  let u := s.ulf
  if u.state == .down && u.holdoff ≤ s.clk.lt && u.since + 1000000 ≤ s.clk.lt then
    s.setUlf { u with state := .train, since := s.clk.lt }
  else s

/-- Both lanes are in block lock and deskewed within 1 ms. -/
def State.lanesLocked (s : State) : State :=
  let u := s.ulf
  if u.state == .train && s.clk.lt ≤ u.since + 1000000 then s.setUlf { u with state := .param, since := s.clk.lt, lock := 3 }
  else s

def State.trainTimeout (s : State) : State :=
  if s.ulf.state == .train && s.ulf.since + 1000000 ≤ s.clk.lt then s.linkDown .down else s

/-- The partner's PARAM flit: its straps, the major revision of its ULF page and its credits; every page of this
release has major revision 1 (R456). DEDUCED: notes/assumptions/54.md. -/
def State.paramRx (s : State) (unit : Nat) (paired : Bool) (major : Nat) (cr : UlfClass → Nat) : State :=
  if s.ulf.state != .param then s
  else if unit ≠ s.hw.unitId && paired && s.hw.paired && major = 1 then
    ((s.setUlf { s.ulf with
      credP := min 160 (cr .clsP), credNp := min 32 (cr .clsNp), credC := min 96 (cr .clsC), credT := min 160 (cr .clsT),
      credPr := min 16 (cr .clsPr), seq := 0, ack := 0, nak := false, replay := [] }).linkUpNow).peerLinkUp
  else
    let same := unit == s.hw.unitId
    (s.setUlf { s.ulf with
      idConflict := s.ulf.idConflict || same, modeMismatch := s.ulf.modeMismatch || !same,
      holdoff := s.clk.lt + 1000000000 }).linkDown .down

/-- A lane loses block lock, or no flit has passed its CRC for 1 µs; `lock` is the lanes still in lock. -/
def State.linkFailure (s : State) (lock : Nat) : State :=
  if s.ulf.state == .up && (lock ≠ 3 || s.ulf.lastGood + 1000 ≤ s.clk.lt) then
    (s.setUlf { s.ulf with lock := lock }).enterRetrain
  else if s.ulf.state == .retrain then s.setUlf { s.ulf with lock := lock }
  else s

/-- Every unacknowledged flit is sent again (R362); the flag says that one was sent for the eighth time. -/
def State.replayCount (s : State) : State × Bool :=
  let u := s.ulf
  if u.replay.isEmpty then (s, false)
  else
    let l := u.replay.map (fun x => { x with sends := x.sends + 1 })
    ((s.setUlf { u with replay := l }).addF R.ULF_REPLAYS 31 0 1, l.any (fun x => x.sends == 8))

/-- A replay; an eighth send starts a retrain (R363). DEDUCED: notes/assumptions/54.md. -/
def State.replayAll (s : State) : State :=
  let r := s.replayCount
  if r.2 then r.1.enterRetrain else r.1

/-- UP after a retrain: the unacknowledged flits are sent before any other. -/
def State.retrainUp (s : State) : State :=
  let r := s.replayCount
  let s := r.1.linkUpNow.peerLinkUp.pump
  if r.2 then s.enterRetrain else s

/-- The lanes are locked and deskewed again. -/
def State.retrainDone (s : State) : State :=
  if s.ulf.state == .retrain && s.clk.lt ≤ s.ulf.since + 200000 then s.retrainUp else s

def State.retrainTimeout (s : State) : State :=
  if s.ulf.state == .retrain && s.ulf.since + 200000 ≤ s.clk.lt then s.linkDown .down else s

/-! ## Posted writes that arrive (R368, R373, R377, R396) -/

/-- A WRITE_FAULT is sent, or counted when its 16 response entries are full. -/
def State.sendFault (s : State) (tag part addr cause : Nat) : State :=
  let u := s.ulf
  if 16 ≤ (u.waitC.filter (fun f => f.type == 7)).length then
    (s.setUlf { u with wfLost := KMap.upd u.wfLost 0 part (fun n => satAdd 16 n 1) }).addF R.ULF_WF_DROP 31 0 1
  else
    s.setUlf (u.enqueue .clsC [{ type := 7, tag := tag, need := 1
                                 payload := leBytes 8 (addr % 2 ^ 36 + part * 2 ^ 36 + cause * 2 ^ 44) }])

/-- The partner's identity on this unit's fabric. -/
def State.inbound (s : State) (part : Nat) : Acc := { t := s.clk.lt, part := Fin.ofNat 32 part, req := 10 }

/-- A word that stages, as against a discard, which is not counted (R396). -/
def stagingWord (addr : Nat) : Bool :=
  rangeOf addr == .window || ((regRowOf addr).map (fun r => r.access == .st)).getD false

/-- One word written to a register or a table window by the partner. -/
def State.inWord (s : State) (part addr : Nat) (w : Word) : State :=
  if addr = R.UPD_PEER && part = 0 then s.peerReport (fld w 31 16) (fld w 3 0)
  else
    let s := (s.busWrite (s.inbound part) s.pt.active addr (leBytes 4 w.toNat) .clean).1
    if !stagingWord addr then s
    else
      let x := s.pp part
      match s.resp with
      | .ok _ => s.setPp part { x with accepted := x.accepted + 1 }
      | _ => s.setPp part { x with refused := x.refused + 1 }

/-- The words of a request from an address up. DEDUCED: notes/assumptions/54.md. -/
def State.inWords (part : Nat) : Nat → List (List Byte) → State → State
  | _, [], s => s
  | addr, d :: t, s => State.inWords part (addr + 4) t (s.inWord part addr (word (leVal d)))

/-- The pieces of a request by 64-byte granule, with the address of each piece. -/
def granules : Nat → Nat → List Byte → List (Nat × List Byte)
  | 0, _, _ => []
  | k + 1, a, d =>
    if d.isEmpty then [] else
      let n := 64 - a % 64
      (a, d.take n) :: granules k (a + n) (d.drop n)

/-- A mirrored write: every granule is written but those of `bad` that are merged; the first of these is the fault. -/
def State.inMemory (s : State) (tag part addr : Nat) (d : List Byte) (bad : List Nat) : State :=
  let g := granules (d.length + 1) addr d
  let fails (x : Nat × List Byte) : Bool := x.2.length != 64 && bad.contains (x.1 / 64 * 64)
  let s := (g.filter (fun x => !fails x)).foldl (fun s x => s.writeBytes x.1 x.2) s
  let s := (g.filter fails).foldl (fun s x => s.dramUncorrectable part 10 x.1 true) s
  match g.find? fails with
  | some x => s.sendFault tag part (x.1 / 64 * 64) 1
  | none => s

/-- A PW whose last flit has been received; `bad` are the granules whose ECC fails when they are merged.
DEDUCED: notes/assumptions/54.md. -/
def State.applyPw (s : State) (x : PartRx) (bad : List Nat) : State :=
  let addr := x.word % 2 ^ 36
  let part := x.word / 2 ^ 36 % 32
  if inDram addr x.data.length then
    if s.mirroredAt s.pt.active part addr x.data.length then s.inMemory x.tag part addr x.data bad
    else s.sendFault x.tag part (addr / 64 * 64) 2
  else if rangeOf addr == .pages || rangeOf addr == .window then
    State.inWords part addr (chunks 4 (x.data.length + 1) x.data) s
  else s.sendFault x.tag part (addr / 64 * 64) 3

/-- The open PW, complete or not yet. DEDUCED: notes/assumptions/54.md. -/
def State.growPw (s : State) (x : PartRx) (bad : List Nat) : State :=
  if x.data.length < x.want then s.setUlf { s.ulf with rxP := some x }
  else (s.setUlf { s.ulf with rxP := none }).applyPw { x with data := x.data.take x.want } bad

/-! ## Reads of this unit's pages by the partner (R43, R370) -/

/-- The value of a register as the partner view gives it: no side effect, held values as held. -/
def State.viewValue (s : State) (p addr idx : Nat) : Word :=
  let off := addr % 0x1000
  let low := off % 0x800
  match regRowAt idx low with
  | none => 0
  | some r => if 0x800 ≤ off then (if r.access = .st then s.liveStaged idx low else s.shown p idx low) else s.shown p idx off

/-- STATUS and data of the CPL that answers an RD. -/
def State.answerRd (s : State) (p addr : Nat) : Nat × Word :=
  match pageAt addr with
  | none => (2, 0)
  | some idx => if p = 0 || s.pageOwner idx = p then (0, s.viewValue p addr idx) else (1, 0)

def State.serveRd (s : State) (tag w : Nat) : State :=
  let r := s.answerRd (w / 2 ^ 36 % 32) (w % 2 ^ 36)
  s.setUlf (s.ulf.enqueue .clsC [{ type := 6, tag := tag, payload := leBytes 8 r.1 ++ leBytes 4 r.2.toNat, need := 1 }])

/-! ## Frames from the tunnel (R372) -/

/-- The open frame, complete or not yet; a complete one arrives on P26. -/
def State.growTun (s : State) (x : PartRx) : State :=
  if x.data.length < x.want then s.setUlf { s.ulf with rxT := some x }
  else
    let s := s.setUlf { s.ulf with rxT := none }
    if x.word.testBit 19 then s.rxErr 26 else s.rxWhole 26 x.stamp (x.data.take x.want) true none none none

/-! ## Fences and faults that come back (R374, R375, R377) -/

/-- DEDUCED: notes/assumptions/54.md. -/
def State.faultRx (s : State) (tag w : Nat) : State :=
  s.addLer (w / 2 ^ 36 % 32) ⟨w % 2 ^ 36, tag, s.clk.lt, w / 2 ^ 44 % 16⟩

/-- A fence that waits because 16 were outstanding goes out. -/
def State.nextFence (s : State) : State :=
  match s.ulf.fenceWait with
  | [] => s
  | f :: t => (s.setUlf { s.ulf with fenceWait := t }).sendFence f.part f.chan

/-- A FENCE_ACK: WF_LOST is added before the fence completes; the writes it covers are no longer pending.
DEDUCED: notes/assumptions/54.md. -/
def State.fenceAckRx (s : State) (tag w : Nat) : State :=
  match s.ulf.fences.find? (fun f => f.tag == tag) with
  | none => s
  | some f =>
    let u := s.ulf
    let s := s.setUlf { u with fences := u.fences.erase f
                               posted := (u.posted.dropWhile (fun x => !(x.fence && x.tag == tag))).drop 1 }
    ((s.addLerLost (w / 2 ^ 36 % 32) (w % 2 ^ 16)).fenceAcked f.chan).nextFence

/-- The oldest received FENCE is answered: every P-class request before it has been applied. -/
def State.answerFence (s : State) : State :=
  match s.ulf.fencesIn with
  | [] => s
  | (tag, part) :: t =>
    let u := s.ulf
    let u := { u with fencesIn := t, wfLost := KMap.del u.wfLost part }
    (s.setUlf (u.enqueue .clsC [{ type := 8, tag := tag, need := 1
                                  payload := leBytes 8 (KMap.get s.ulf.wfLost 0 part % 2 ^ 16 + part * 2 ^ 36) }])).pump

/-! ## Flits (R359 to R363) -/

/-- CRC-32 of R359: polynomial 0x1EDC_6F41, reflected. -/
def crcCBit (c : Nat) : Nat := if c % 2 = 1 then (c >>> 1) ^^^ 0x82F63B78 else c >>> 1
def crcCByte (c : Nat) (b : Byte) : Nat :=
  crcCBit (crcCBit (crcCBit (crcCBit (crcCBit (crcCBit (crcCBit (crcCBit (c ^^^ b.toNat))))))))
def crc32c (l : List Byte) : Nat := (l.foldl crcCByte 0xFFFFFFFF) ^^^ 0xFFFFFFFF

/-- The 72 bytes of a flit as it is sent: its header with the ACK and NAK of the moment and the credits returned, and its
payload filled up with zeros (R359). -/
def SentFlit.bytes (x : SentFlit) (ack : Nat) (nak : Bool) (credClass credCount : Nat) : List Byte :=
  leBytes 8 (x.flit.type + x.flit.payload.length * 2 ^ 4 + x.seq * 2 ^ 12 + ack * 2 ^ 24 + nak.toNat * 2 ^ 36
    + credClass * 2 ^ 37 + credCount * 2 ^ 40 + x.flit.tag * 2 ^ 48) ++ padTo 64 x.flit.payload

/-- What an accepted flit does; `bad` are granules whose ECC fails. DEDUCED: notes/assumptions/54.md. -/
def State.takeFlit (s : State) (type tag : Nat) (pay : List Byte) (bad : List Nat) : State :=
  let w := leVal (pay.take 8)
  let u := s.ulf
  match type with
  | 2 => s.growPw ⟨tag, w, s.clk.lt, w / 2 ^ 41 % 4096 + 1, (pay.drop 8).take 56⟩ bad
  | 3 => match u.rxP with
    | some x => s.growPw { x with data := x.data ++ pay.take 64 } bad
    | none => s
  | 4 => s.setUlf { u with fencesIn := u.fencesIn ++ [(tag, w / 2 ^ 36 % 32)] }
  | 5 => s.serveRd tag w
  | 6 => s.setUlf { u with cplIn := u.cplIn ++ [CplRx.mk tag (w % 4) (leVal ((pay.drop 8).take 4))] }
  | 7 => s.faultRx tag w
  | 8 => s.fenceAckRx tag w
  | 9 => s.growTun ⟨tag, w, s.clk.lt, w % 2 ^ 14, (pay.drop 8).take 56⟩
  | 10 => match u.rxT with
    | some x => s.growTun { x with data := x.data ++ pay.take 64 }
    | none => s
  | 11 =>
    let m := parsePairMsg (pay.take 24)
    if 1 ≤ m.kind && m.kind ≤ 10 then s.setUlf { u with msgs := u.msgs ++ [m] } else s
  | _ => s

/-- Flits up to ACK leave the replay buffer. -/
def Ulf.acked (u : Ulf) (ack : Nat) : Ulf :=
  if u.replay.any (fun x => x.seq == ack) then
    { u with replay := (u.replay.dropWhile (fun x => x.seq != ack)).drop 1 }
  else u

/-- The header of a flit that has passed its CRC: ACK, credits and NAK. -/
def State.flitHeader (s : State) (h : Nat) : State :=
  let u := s.ulf.acked (h / 2 ^ 24 % 4096)
  let u := match classOf (h / 2 ^ 37 % 8) with
    | some c => u.credit c (h / 2 ^ 40 % 32)
    | none => u
  let s := s.setUlf { u with lastGood := s.clk.lt }
  s.when (h.testBit 36) (fun s => s.replayAll)

/-- A flit arrives: discarded for its CRC or its type, out of sequence, or accepted. -/
def State.flitRx (s : State) (flit : List Byte) (crc : Nat) (bad : List Nat) : State :=
  let h := leVal (flit.take 8)
  let type := h % 16
  let seq := h / 2 ^ 12 % 4096
  if s.ulf.state != .up then s
  else if flit.length ≠ 72 || crc32c flit ≠ crc || 12 ≤ type then
    (s.setUlf { s.ulf with nak := true, nakSince := s.clk.lt }).addF R.ULF_CRC_ERR 31 0 1
  else
    let s := s.flitHeader h
    if type < 2 then s.pump.copyOn 4
    else if seq ≠ (s.ulf.ack + 1) % 4096 then s.pump
    else
      let u := s.ulf
      let s := s.setUlf { u with ack := seq, nak := false, rxFlits := (u.rxFlits + 1) % 2 ^ 64 }
      let r := s.resp
      ({ s.takeFlit type (h / 2 ^ 48) (flit.drop 8) bad with resp := r } : State).pump.copyOn 4

/-- The expected flit has not arrived within 2 µs: NAK is set again. -/
def State.nakTimeout (s : State) : State :=
  if s.ulf.nak && s.ulf.nakSince + 2000 ≤ s.clk.lt then s.setUlf { s.ulf with nakSince := s.clk.lt } else s

/-! ## Completions of partner-view reads (R43, R370) -/

/-- READ_TO_US, clamped. -/
def State.readTimeUs (s : State) : Nat := clamp 10 65535 (s.regF R.ULF_CTRL 31 16)

/-- The oldest waiting read has waited for READ_TO_US. -/
def State.readTimeout (s : State) : State :=
  match s.ulf.reads.find? (fun r => decide (r.since + s.readTimeUs * 1000 ≤ s.clk.lt)) with
  | none => s
  | some r => (s.dropRead r).viewFail r .partnerDown

/-! ## Frames that P26 has transmitted (R372) -/

/-- The frame on the wire ends; `ecc` is what the ECC of its cells found (R212). -/
def State.ethTxEnd (s : State) (n : Nat) (ecc : EccFound) : State :=
  match s.endingFrame n with
  | none => s
  | some (q, p, m) =>
    let bad := m.stomped || !p.errs.isEmpty || ecc = .uncorrectable
    ((s.cellFound ecc).endFrame n q p m).when (n = 26) (fun s => s.sendTunnel p.data m.tc bad)

/-! ## The commands -/

def execUlfTrainStart (t : Nat) (s : State) : Result := eventAt t (fun s => s.trainStart) s
def execUlfLanesLocked (t : Nat) (s : State) : Result := eventAt t (fun s => s.lanesLocked) s
def execUlfTrainTimeout (t : Nat) (s : State) : Result := eventAt t (fun s => s.trainTimeout) s
def execUlfParamRx (t : Nat) (unit : Fin 2) (paired : Bool) (major : Byte) (p np c tun pr : Byte) (s : State) : Result :=
  eventAt t (fun s => s.paramRx unit paired major.toNat (fun
    | .clsP => p.toNat | .clsNp => np.toNat | .clsC => c.toNat | .clsT => tun.toNat | .clsPr => pr.toNat)) s
def execUlfLinkFailure (t : Nat) (lock : Fin 4) (s : State) : Result := eventAt t (fun s => s.linkFailure lock) s
def execUlfRetrainDone (t : Nat) (s : State) : Result := eventAt t (fun s => s.retrainDone) s
def execUlfRetrainTimeout (t : Nat) (s : State) : Result := eventAt t (fun s => s.retrainTimeout) s
def execUlfFlitRx (t : Nat) (flit : List Byte) (crc : Word) (bad : List Nat) (s : State) : Result :=
  eventAt t (fun s => s.flitRx flit crc.toNat bad) s
def execUlfNakTimeout (t : Nat) (s : State) : Result := eventAt t (fun s => s.nakTimeout) s
def execFenceAck (t : Nat) (s : State) : Result := eventAt t (fun s => s.answerFence) s
def execCombinerTimeout (t : Nat) (s : State) : Result := eventAt t (fun s => s.combTimeout) s
def execPartnerReadComplete (t : Nat) (s : State) : Result := eventAt t (fun s => s.readComplete) s
def execPartnerReadTimeout (t : Nat) (s : State) : Result := eventAt t (fun s => s.readTimeout) s
def execEthTxComplete (t : Nat) (port : Fin 27) (ecc : EccFound) (s : State) : Result :=
  eventAt t (fun s => s.ethTxEnd port ecc) s

end Sys2Proof.Machine
end

