-- ==== Sys2Proof/Machine/Dispatch.lean ====
section
/-! DEFINITION. One arm per command: its meaning. -/

namespace Sys2Proof.Machine

def exec (i : Instr) (s : State) : Host.Outcome State Fault Refusal :=
  match i with
  -- coherent state (spec/01, R5 to R35)
  | .registerWrite a addr val size => Sys2Proof.Machine.execRegisterWrite a addr val size s
  | .readToClear a addr size => Sys2Proof.Machine.execReadToClear a addr size s
  | .memoryAccess a addr op ecc => Sys2Proof.Machine.execMemoryAccess a addr op ecc s
  | .stagedWrite a addr val => Sys2Proof.Machine.execStagedWrite a addr val s
  | .tableWindowWrite a addr val => Sys2Proof.Machine.execTableWindowWrite a addr val s
  | .discardStage a page => Sys2Proof.Machine.execDiscardStage a page s
  | .commitNow a key => Sys2Proof.Machine.execCommitNow a key s
  | .commitAll a key => Sys2Proof.Machine.execCommitAll a key s
  | .commitSchedule a key all => Sys2Proof.Machine.execCommitSchedule a key all s
  | .commitAtTimeApply t part => Sys2Proof.Machine.execCommitAtTimeApply t part s
  | .commitPairCoherent a key all => Sys2Proof.Machine.execCommitPairCoherent a key all s
  | .cancel a => Sys2Proof.Machine.execCancel a s
  | .cancelOther a target => Sys2Proof.Machine.execCancelOther a target s
  | .discardTables a => Sys2Proof.Machine.execDiscardTables a s
  | .drainComplete t set => Sys2Proof.Machine.execDrainComplete t set s
  | .resyncComplete t set => Sys2Proof.Machine.execResyncComplete t set s
  | .stageLogReplayed t set => Sys2Proof.Machine.execStageLogReplayed t set s
  | .regionResyncComplete t region => Sys2Proof.Machine.execRegionResyncComplete t region s
  | .snapshot a page => Sys2Proof.Machine.execSnapshot a page s
  | .cohSnapshot a => Sys2Proof.Machine.execCohSnapshot a s
  | .snapRelease a all page => Sys2Proof.Machine.execSnapRelease a all page s
  | .semClaim a sem => Sys2Proof.Machine.execSemClaim a sem s
  | .semFree a sem => Sys2Proof.Machine.execSemFree a sem s
  -- page states and events (spec/02, R40 to R54)
  | .quiesce a page => Sys2Proof.Machine.execQuiesce a page s
  | .drain a page => Sys2Proof.Machine.execDrain a page s
  | .squash a page => Sys2Proof.Machine.execSquash a page s
  | .resume a page => Sys2Proof.Machine.execResume a page s
  | .reset a page => Sys2Proof.Machine.execReset a page s
  | .pageInflightZero t page => Sys2Proof.Machine.execPageInflightZero t page s
  | .drainTimeout t page => Sys2Proof.Machine.execDrainTimeout t page s
  | .squashComplete t page => Sys2Proof.Machine.execSquashComplete t page s
  | .pageResetComplete t page => Sys2Proof.Machine.execPageResetComplete t page s
  | .evtStatusClear a page mask again => Sys2Proof.Machine.execEvtStatusClear a page mask again s
  | .evtForce a page mask => Sys2Proof.Machine.execEvtForce a page mask s
  | .evtViolPop a => Sys2Proof.Machine.execEvtViolPop a s
  | .partnerViewRead a addr size => Sys2Proof.Machine.execPartnerViewRead a addr size s
  -- output channels and their protection (spec/03)
  | .modelStep t chans banks => Sys2Proof.Machine.execModelStep t chans banks s
  | .shortCircuitTrip t ch currentMa => Sys2Proof.Machine.execShortCircuitTrip t ch currentMa s
  | .scWindowEnd t bank => Sys2Proof.Machine.execScWindowEnd t bank s
  | .thermalTrip t ch tj => Sys2Proof.Machine.execThermalTrip t ch tj s
  | .currentLimitTrip t ch currentMa => Sys2Proof.Machine.execCurrentLimitTrip t ch s currentMa
  | .retryWaitEnd t ch => Sys2Proof.Machine.execRetryWaitEnd t ch s
  | .inrushEnd t ch currentMa => Sys2Proof.Machine.execInrushEnd t ch s currentMa
  | .uvOff t bank mv => Sys2Proof.Machine.execUvOff t bank mv s
  | .uvSettleEnd t bank => Sys2Proof.Machine.execUvSettleEnd t bank s
  | .uvRestartStep t bank => Sys2Proof.Machine.execUvRestartStep t bank s
  | .olOffCheckStart t => Sys2Proof.Machine.execOlOffCheckStart t s
  | .olOffCheckEnd t => Sys2Proof.Machine.execOlOffCheckEnd t s
  | .reverseCurrentTrip t ch currentMa => Sys2Proof.Machine.execReverseCurrentTrip t ch currentMa s
  | .backfedEntry t ch vout => Sys2Proof.Machine.execBackfedEntry t ch vout s
  | .backfedExit t ch vout => Sys2Proof.Machine.execBackfedExit t ch vout s
  | .closePermitted t ch vout mv => Sys2Proof.Machine.execClosePermitted t ch vout mv s
  | .feedRestoreStep t feed => Sys2Proof.Machine.execFeedRestoreStep t feed s
  | .tripAck a ch => Sys2Proof.Machine.execTripAck a ch s
  | .unlock a ch key => Sys2Proof.Machine.execUnlock a ch key s
  | .bankVoltageRecovered t bank mv => Sys2Proof.Machine.execBankVoltageRecovered t bank mv s
  | .scTripAged t ch => Sys2Proof.Machine.execScTripAged t ch s
  | .tjWarn t ch tj => Sys2Proof.Machine.execTjWarn t ch tj s
  -- driving outputs (spec/04)
  | .outputSwitch t ch => Sys2Proof.Machine.execOutputSwitch t ch s
  | .pgenPeriodBoundary t gen => Sys2Proof.Machine.execPgenPeriodBoundary t gen s
  | .pwmPulseEdge t ch => Sys2Proof.Machine.execPwmPulseEdge t ch s
  | .leaseTick t => Sys2Proof.Machine.execLeaseTick t s
  | .leaseExpiry t ch => Sys2Proof.Machine.execLeaseExpiry t ch s
  | .renew a page mask => Sys2Proof.Machine.execRenew a page mask s
  | .rearm a page mask => Sys2Proof.Machine.execRearm a page mask s
  | .lsClockStart t => Sys2Proof.Machine.execLsClockStart t s
  | .lsClockStop t => Sys2Proof.Machine.execLsClockStop t s
  -- load identity and ledger (spec/05)
  | .interrogate a ch => Sys2Proof.Machine.execInterrogate a ch s
  | .tagPeriodExpiry t ch => Sys2Proof.Machine.execTagPeriodExpiry t ch s
  | .tagInterrogationStart t ch => Sys2Proof.Machine.execTagInterrogationStart t ch s
  | .tagResponse t ch frame => Sys2Proof.Machine.execTagResponse t ch frame s
  | .tagNoResponse t ch => Sys2Proof.Machine.execTagNoResponse t ch s
  | .tagLowImpedance t ch => Sys2Proof.Machine.execTagLowImpedance t ch s
  | .tagRetry t ch => Sys2Proof.Machine.execTagRetry t ch s
  | .accept a ch => Sys2Proof.Machine.execAccept a ch s
  | .ledgerUpdate t => Sys2Proof.Machine.execLedgerUpdate t s
  | .journalPeriod t => Sys2Proof.Machine.execJournalPeriod t s
  | .flush a => Sys2Proof.Machine.execFlush a s
  | .start a => Sys2Proof.Machine.execStart a s
  | .ledgerPeerSend t keeperNo => Sys2Proof.Machine.execLedgerPeerSend t s keeperNo
  | .ledgerPeerReceive t ch fed energyMj trips outage from_ samples closings loadNo replaced => Sys2Proof.Machine.execLedgerPeerReceive t ch fed energyMj trips outage s from_ samples closings loadNo replaced
  | .inductiveDecayEnd t ch decayUs currentMa => Sys2Proof.Machine.execInductiveDecayEnd t ch decayUs s currentMa
  -- sensing inputs (spec/06)
  | .ainSample t n raw supplies => Sys2Proof.Machine.execAinSample t n raw supplies s
  | .ainOverload t n => Sys2Proof.Machine.execAinOverload t n s
  | .ainBurdenReconnect t n => Sys2Proof.Machine.execAinBurdenReconnect t n s
  | .dinPoll t n mv => Sys2Proof.Machine.execDinPoll t n mv s
  | .finEdge t n high low pulse => Sys2Proof.Machine.execFinEdge t n high s low pulse
  | .finGateEnd t n => Sys2Proof.Machine.execFinGateEnd t n s
  | .finStall t n => Sys2Proof.Machine.execFinStall t n s
  | .ssupOverload t n => Sys2Proof.Machine.execSsupOverload t n s
  | .ssupBackfed t n => Sys2Proof.Machine.execSsupBackfed t n s
  | .ssupUndervolt t n below => Sys2Proof.Machine.execSsupUndervolt t n below s
  | .ssupRetry t n => Sys2Proof.Machine.execSsupRetry t n s
  | .ssupFaultRestart a n => Sys2Proof.Machine.execSsupFaultRestart a n s
  | .wakeInputEdge t k level => Sys2Proof.Machine.execWakeInputEdge t k level s
  -- CAN (spec/07)
  | .canConfigApply t ch => Sys2Proof.Machine.execCanConfigApply t ch s
  | .req a ch mb => Sys2Proof.Machine.execReq a ch mb s
  | .mbCancel a ch mb => Sys2Proof.Machine.execMbCancel a ch mb s
  | .release a ch mb => Sys2Proof.Machine.execRelease a ch mb s
  | .txsCancel a ch => Sys2Proof.Machine.execTxsCancel a ch s
  | .canSof t ch ecc => Sys2Proof.Machine.execCanSof t ch s ecc
  | .canTxDone t ch delay => Sys2Proof.Machine.execCanTxDone t ch delay s
  | .canArbitrationLost t ch => Sys2Proof.Machine.execCanArbitrationLost t ch s
  | .canTxError t ch lec dataPhase exempt delay => Sys2Proof.Machine.execCanTxError t ch lec dataPhase exempt s delay
  | .canRxFrame t ch frame stamp => Sys2Proof.Machine.execCanRxFrame t ch frame stamp s
  | .canRxError t ch kind lec dataPhase exempt => Sys2Proof.Machine.execCanRxError t ch kind lec dataPhase exempt s
  | .recover a ch => Sys2Proof.Machine.execRecover a ch s
  | .busOffEnd t ch => Sys2Proof.Machine.execBusOffEnd t ch s
  | .canLaunchEligible t ch mb => Sys2Proof.Machine.execCanLaunchEligible t ch mb s
  | .launchLate t ch mb => Sys2Proof.Machine.execLaunchLate t ch mb s
  | .canWakePattern t ch => Sys2Proof.Machine.execCanWakePattern t ch s
  | .canWakeFrame t ch frame => Sys2Proof.Machine.execCanWakeFrame t ch frame s
  | .salArm a ch saOnly => Sys2Proof.Machine.execSalArm a ch saOnly s
  -- LIN (spec/07)
  | .sched a l table => Sys2Proof.Machine.execSched a l table s
  | .sleep a l => Sys2Proof.Machine.execSleep a l s
  | .wake a l => Sys2Proof.Machine.execWake a l s
  | .linSlotStart t l => Sys2Proof.Machine.execLinSlotStart t l s
  | .linHeaderRx t l rate pid stamp breakBits => Sys2Proof.Machine.execLinHeaderRx t l rate pid stamp s breakBits
  | .linResponseRx t l resp => Sys2Proof.Machine.execLinResponseRx t l resp s
  | .linFrameTimeout t l someByte => Sys2Proof.Machine.execLinFrameTimeout t l someByte s
  | .linBusWake t l => Sys2Proof.Machine.execLinBusWake t l s
  | .linIdleSleep t l => Sys2Proof.Machine.execLinIdleSleep t l s
  | .linWakeRetry t l => Sys2Proof.Machine.execLinWakeRetry t l s
  | .linScheduleResume t l => Sys2Proof.Machine.execLinScheduleResume t l s
  | .update a l i0 => Sys2Proof.Machine.execUpdate a l i0 s
  | .lfbRelease a l i0 => Sys2Proof.Machine.execLfbRelease a l i0 s
  -- the switch (spec/08, R176 to R206)
  | .ethFrameRx t port rx ecc => Sys2Proof.Machine.execEthFrameRx t port rx ecc s
  | .hostFrameIn t src ecc cells => Sys2Proof.Machine.execHostFrameIn t src ecc s cells
  | .ethTxSelect t port da => Sys2Proof.Machine.execEthTxSelect t port da s
  | .ethTxComplete t port ecc => Sys2Proof.Machine.execEthTxComplete t port ecc s
  | .streamAgeOut t q => Sys2Proof.Machine.execStreamAgeOut t q s
  | .gateEntryChange t port => Sys2Proof.Machine.execGateEntryChange t port s
  | .preemptVerifyDone t port ok => Sys2Proof.Machine.execPreemptVerifyDone t port ok s
  | .recoveryReset t f => Sys2Proof.Machine.execRecoveryReset t f s
  | .ethLinkChange t port up rate role sqi plca => Sys2Proof.Machine.execEthLinkChange t port up rate role sqi plca s
  | .polSelect a index => Sys2Proof.Machine.execPolSelect a index s
  | .polZero a index => Sys2Proof.Machine.execPolZero a index s
  | .clearRed a index => Sys2Proof.Machine.execClearRed a index s
  | .frerSelect a gen index => Sys2Proof.Machine.execFrerSelect a gen index s
  | .frerZero a gen index => Sys2Proof.Machine.execFrerZero a gen index s
  | .frerReset a gen index => Sys2Proof.Machine.execFrerReset a gen index s
  | .ethLaunchEligible t q => Sys2Proof.Machine.execEthLaunchEligible t q s
  -- cell pool and queues (spec/09)
  | .wrData a q off val size => Sys2Proof.Machine.execWrData a q off val size s
  | .wrCommit a q val => Sys2Proof.Machine.execWrCommit a q val s
  | .wrRewind a q => Sys2Proof.Machine.execWrRewind a q s
  | .rdWord a q off size ecc => Sys2Proof.Machine.execRdWord a q off size ecc s
  | .rdSkip a q val => Sys2Proof.Machine.execRdSkip a q val s
  | .qFlush a q val => Sys2Proof.Machine.execQFlush a q val s
  | .msgAgeOut t q => Sys2Proof.Machine.execMsgAgeOut t q s
  | .bankPaused t bank => Sys2Proof.Machine.execBankPaused t bank s
  | .bankUnpaused t bank => Sys2Proof.Machine.execBankUnpaused t bank s
  | .bankDone t bank => Sys2Proof.Machine.execBankDone t bank s
  | .traceRecord t ecc => Sys2Proof.Machine.execTraceRecord t s ecc
  | .freeze a => Sys2Proof.Machine.execFreeze a s
  | .traceFrozen t => Sys2Proof.Machine.execTraceFrozen t s
  | .unfreeze a => Sys2Proof.Machine.execUnfreeze a s
  | .clear a => Sys2Proof.Machine.execClear a s
  -- the DMA engine (spec/10, R234 to R252)
  | .dmaStart a ch pc => Sys2Proof.Machine.execDmaStart a ch pc s
  | .stop a ch => Sys2Proof.Machine.execStop a ch s
  | .dmaClear a ch => Sys2Proof.Machine.execDmaClear a ch s
  | .dmaTrig a page mask => Sys2Proof.Machine.execDmaTrig a page mask s
  | .halt t ch => Sys2Proof.Machine.execHalt t ch s
  | .move t ch ecc => Sys2Proof.Machine.execMove t ch ecc s
  | .loop t ch => Sys2Proof.Machine.execLoop t ch s
  | .wait t ch => Sys2Proof.Machine.execWait t ch s
  | .dmaWaitMet t ch => Sys2Proof.Machine.execDmaWaitMet t ch s
  | .signal t ch => Sys2Proof.Machine.execSignal t ch s
  | .ring t ch ecc => Sys2Proof.Machine.execRing t ch ecc s
  | .ringWriteback t ch => Sys2Proof.Machine.execRingWriteback t ch s
  | .fence t ch => Sys2Proof.Machine.execFence t ch s
  | .dmaFault t ch bus => Sys2Proof.Machine.execDmaFault t ch bus s
  | .chOff t ch => Sys2Proof.Machine.execChOff t ch s
  -- the signal gateway and the transport engine (spec/11, R256 to R289)
  | .gwEventAdmit t ecc => Sys2Proof.Machine.execGwEventAdmit t ecc s
  | .gwRouteJob t ecc => Sys2Proof.Machine.execGwRouteJob t ecc s
  | .containerClose t c => Sys2Proof.Machine.execContainerClose t c s
  | .gwP25FrameIn t ecc => Sys2Proof.Machine.execGwP25FrameIn t s ecc
  | .groupDone t g => Sys2Proof.Machine.execGroupDone t g s
  | .gwSlotClr a all slot => Sys2Proof.Machine.execGwSlotClr a all slot s
  | .tpeTxRequest t ch ecc => Sys2Proof.Machine.execTpeTxRequest t ch s ecc
  | .tpeFrameRx t ch frame stamp => Sys2Proof.Machine.execTpeFrameRx t ch frame stamp s
  | .tpeTxFrameDone t ch => Sys2Proof.Machine.execTpeTxFrameDone t ch s
  | .tpeTimerExpiry t sess => Sys2Proof.Machine.execTpeTimerExpiry t sess s
  | .tpeGapExpiry t sess => Sys2Proof.Machine.execTpeGapExpiry t sess s
  -- time (spec/12, R291 to R310)
  | .slew a dom => Sys2Proof.Machine.execSlew a dom s
  | .step a dom => Sys2Proof.Machine.execStep a dom s
  | .locked a dom => Sys2Proof.Machine.execLocked a dom s
  | .holdover a dom => Sys2Proof.Machine.execHoldover a dom s
  | .txPop a dom => Sys2Proof.Machine.execTxPop a dom s
  | .ptpRateWrite a dom rate => Sys2Proof.Machine.execPtpRateWrite a dom rate s
  | .watchdog t dom => Sys2Proof.Machine.execWatchdog t dom s
  | .holdoverExpiry t dom => Sys2Proof.Machine.execHoldoverExpiry t dom s
  | .switchDone t => Sys2Proof.Machine.execSwitchDone t s
  | .followUpTimeout t dom seqId => Sys2Proof.Machine.execFollowUpTimeout t dom seqId s
  | .slewComplete t dom => Sys2Proof.Machine.execSlewComplete t dom s
  -- processors and partitions (spec/13, R311 to R330)
  | .lockstep t pair => Sys2Proof.Machine.execLockstep t pair s
  | .partReset a key target => Sys2Proof.Machine.execPartReset a key target s
  | .partStart a key target => Sys2Proof.Machine.execPartStart a key target s
  | .restart a key target => Sys2Proof.Machine.execRestart a key target s
  | .cluster t cmd => Sys2Proof.Machine.execCluster t cmd s
  | .partDrainEnd t part => Sys2Proof.Machine.execPartDrainEnd t part s
  | .partSquashDone t part => Sys2Proof.Machine.execPartSquashDone t part s
  | .resetDone t part => Sys2Proof.Machine.execResetDone t part s
  | .clusterReload t => Sys2Proof.Machine.execClusterReload t s
  | .sliceEnd t core => Sys2Proof.Machine.execSliceEnd t core s
  | .scrubStep t found => Sys2Proof.Machine.execScrubStep t found s
  | .dramcErrPop a => Sys2Proof.Machine.execDramcErrPop a s
  -- power states and network sleep (spec/14, R331 to R352)
  | .enckeChoose t executing timers => Sys2Proof.Machine.execEnckeChoose t executing timers s
  | .powerStateEntered t => Sys2Proof.Machine.execPowerStateEntered t s
  | .enckeExitTimer t => Sys2Proof.Machine.execEnckeExitTimer t s
  | .fabricLoadHigh t => Sys2Proof.Machine.execFabricLoadHigh t s
  | .needDeclare a val => Sys2Proof.Machine.execNeedDeclare a val s
  | .zspQuery t eth ecc => Sys2Proof.Machine.execZspQuery t eth s ecc
  | .zspCommit t eth ecc => Sys2Proof.Machine.execZspCommit t eth s ecc
  | .zspAbort t eth ecc => Sys2Proof.Machine.execZspAbort t eth s ecc
  | .zspAnswer t eth ecc => Sys2Proof.Machine.execZspAnswer t eth s ecc
  | .wakeRequest t cause index => Sys2Proof.Machine.execWakeRequest t cause index s
  | .zspTc t => Sys2Proof.Machine.execZspTc t s
  | .wakeLine t lines => Sys2Proof.Machine.execWakeLine t lines s
  | .wakeDriveStart t => Sys2Proof.Machine.execWakeDriveStart t s
  | .wakeDriveEnd t => Sys2Proof.Machine.execWakeDriveEnd t s
  | .wakeReasonSend t eth => Sys2Proof.Machine.execWakeReasonSend t eth s
  | .pwrWake a => Sys2Proof.Machine.execPwrWake a s
  | .localSleep a delay => Sys2Proof.Machine.execLocalSleep a delay s
  | .stayAwake t => Sys2Proof.Machine.execStayAwake t s
  | .maxAwake t => Sys2Proof.Machine.execMaxAwake t s
  | .powerStateExited t paired unit => Sys2Proof.Machine.execPowerStateExited t s paired unit
  | .needDue t part => Sys2Proof.Machine.execNeedDue t part s
  -- the Uloft link (spec/15, R356 to R375)
  | .partnerReadComplete t => Sys2Proof.Machine.execPartnerReadComplete t s
  | .partnerReadTimeout t => Sys2Proof.Machine.execPartnerReadTimeout t s
  | .fenceComplete t ch => Sys2Proof.Machine.execFenceComplete t ch s
  | .ulfTrainStart t => Sys2Proof.Machine.execUlfTrainStart t s
  | .ulfLanesLocked t => Sys2Proof.Machine.execUlfLanesLocked t s
  | .ulfTrainTimeout t => Sys2Proof.Machine.execUlfTrainTimeout t s
  | .ulfParamRx t unit paired major p np c tun pr => Sys2Proof.Machine.execUlfParamRx t unit paired major p np c tun pr s
  | .ulfLinkFailure t lock => Sys2Proof.Machine.execUlfLinkFailure t lock s
  | .ulfRetrain a => Sys2Proof.Machine.execUlfRetrain a s
  | .ulfRetrainDone t => Sys2Proof.Machine.execUlfRetrainDone t s
  | .ulfRetrainTimeout t => Sys2Proof.Machine.execUlfRetrainTimeout t s
  | .ulfFlitRx t flit crc bad => Sys2Proof.Machine.execUlfFlitRx t flit crc bad s
  | .ulfNakTimeout t => Sys2Proof.Machine.execUlfNakTimeout t s
  | .fenceAck t => Sys2Proof.Machine.execFenceAck t s
  | .combinerTimeout t => Sys2Proof.Machine.execCombinerTimeout t s
  | .lerPop a => Sys2Proof.Machine.execLerPop a s
  -- the redundant pair (spec/16, R381 to R402)
  | .leaseSend t => Sys2Proof.Machine.execLeaseSend t s
  | .leaseRx t => Sys2Proof.Machine.execLeaseRx t s
  | .helloRx t diverged => Sys2Proof.Machine.execHelloRx t diverged s
  | .takeover t part => Sys2Proof.Machine.execTakeover t part s
  | .authInChange t level => Sys2Proof.Machine.execAuthInChange t level s
  | .pairHeart a => Sys2Proof.Machine.execPairHeart a s
  | .heartbeatExpired t part => Sys2Proof.Machine.execHeartbeatExpired t part s
  | .prepareRx t part => Sys2Proof.Machine.execPrepareRx t part s
  | .acceptRx t part => Sys2Proof.Machine.execAcceptRx t part s
  | .rejectRx t part => Sys2Proof.Machine.execRejectRx t part s
  | .verdictCheck t part => Sys2Proof.Machine.execVerdictCheck t part s
  | .verdictRx t part => Sys2Proof.Machine.execVerdictRx t part s
  | .goDecision t part => Sys2Proof.Machine.execGoDecision t part s
  | .goRx t part => Sys2Proof.Machine.execGoRx t part s
  | .pairAbortRx t part => Sys2Proof.Machine.execPairAbortRx t part s
  | .memoryPhaseDone t => Sys2Proof.Machine.execMemoryPhaseDone t s
  | .syncDone t part => Sys2Proof.Machine.execSyncDone t part s
  | .handover a key target => Sys2Proof.Machine.execHandover a key target s
  | .pairReleaseSend t => Sys2Proof.Machine.execPairReleaseSend t s
  | .leave a key => Sys2Proof.Machine.execLeave a key s
  | .cancelLeave a key => Sys2Proof.Machine.execCancelLeave a key s
  | .byeRx t => Sys2Proof.Machine.execByeRx t s
  | .sleepSuspendEnd t => Sys2Proof.Machine.execSleepSuspendEnd t s
  -- update and security (spec/17, R410 to R434)
  | .powerOnRelease t paired unit => Sys2Proof.Machine.execPowerOnRelease t paired unit s
  | .updOpen a key => Sys2Proof.Machine.execOpen a key s
  | .stage a key part => Sys2Proof.Machine.execStage a key part s
  | .stageDone t => Sys2Proof.Machine.execStageDone t s
  | .activate a key => Sys2Proof.Machine.execActivate a key s
  | .updRestart a key => Sys2Proof.Machine.execUpdRestart a key s
  | .confirm a key => Sys2Proof.Machine.execConfirm a key s
  | .updAbort a key => Sys2Proof.Machine.execUpdAbort a key s
  | .trialPassed t => Sys2Proof.Machine.execTrialPassed t s
  | .trialFailed t bad => Sys2Proof.Machine.execTrialFailed t bad s
  | .peerReport t actId st => Sys2Proof.Machine.execPeerReport t actId st s
  | .attest a key => Sys2Proof.Machine.execAttest a key s
  | .attestDone t => Sys2Proof.Machine.execAttestDone t s
  | .keyLoad a key slot => Sys2Proof.Machine.execKeyLoad a key slot s
  | .keyErase a key slot => Sys2Proof.Machine.execKeyErase a key slot s
  | .svcClose a key => Sys2Proof.Machine.execSvcClose a key s
  | .otpKey a key slot => Sys2Proof.Machine.execOtpKey a key slot s
  | .keyDone t ok => Sys2Proof.Machine.execKeyDone t ok s
  | .svcChallenge t => Sys2Proof.Machine.execSvcChallenge t s
  | .svcAnswer t block sigEc sigMl => Sys2Proof.Machine.execSvcAnswer t block sigEc sigMl s
  | .svcLockEnd t => Sys2Proof.Machine.execSvcLockEnd t s
  | .storRead a count => Sys2Proof.Machine.execStorRead a count s
  | .storWrite a count => Sys2Proof.Machine.execStorWrite a count s
  | .cmdDone t second failed => Sys2Proof.Machine.execCmdDone t second failed s
  | .journalAppend t ecc => Sys2Proof.Machine.execJournalAppend t s ecc
  -- resets and supply (spec/18)
  | .pinReset t => Sys2Proof.Machine.execPinReset t s
  | .pinResetRelease t => Sys2Proof.Machine.execPinResetRelease t s
  | .powerOnReset t => Sys2Proof.Machine.execPowerOnReset t s

end Sys2Proof.Machine
end

