-- ==== Sys2Proof/Machine/Step.lean ====
section
/-! DEFINITION. One step: the command at the front of the queue. -/

namespace Sys2Proof.Machine

/-- The command at the front is carried out with the queue's rest; on an empty queue the block idles. DESIGN CHOICE
(notes/assumptions/4.md).
DESIGN CHOICE: notes/assumptions/1.md. DESIGN CHOICE: notes/assumptions/4.md. DESIGN CHOICE: notes/assumptions/10.md. -/
def step (s : State) : Host.Outcome State Fault Refusal :=
  match s.pending with
  | [] => .next s
  | c :: t => exec c { s with pending := t }

/-- The command that a word spells, at the front of the queue. DESIGN CHOICE: notes/assumptions/1.md. -/
def State.withFetchWord (s : State) (nbits w : Nat) : State :=
  match decodeTableWord nbits w with
  | some c => { s with pending := c :: s.pending }
  | none => s

end Sys2Proof.Machine
end

