-- ==== Sys2Proof/Classes.lean ====
section
/-! DEFINITION. The classes of commands that the frames of spec-wide claims speak of: a class is named after its first command,
and gives the instant of each of its commands. -/

namespace Sys2Proof.Machine

/-- The instant and the load channel of a command that concerns one load channel. -/
def loadChannelOf : Instr → Option (Nat × Nat)
  | .shortCircuitTrip t k _ => some (t, k.val)
  | .scTripAged t k => some (t, k.val)
  | .thermalTrip t k _ => some (t, k.val)
  | .currentLimitTrip t k _ => some (t, k.val)
  | .retryWaitEnd t k => some (t, k.val)
  | .inrushEnd t k _ => some (t, k.val)
  | .reverseCurrentTrip t k _ => some (t, k.val)
  | .backfedEntry t k _ => some (t, k.val)
  | .backfedExit t k _ => some (t, k.val)
  | .closePermitted t k _ _ => some (t, k.val)
  | .tjWarn t k _ => some (t, k.val)
  | .outputSwitch t k => some (t, k.val)
  | .pwmPulseEdge t k => some (t, k.val)
  | .leaseExpiry t k => some (t, k.val)
  | .tripAck a k => some (a.t, k.val)
  | .unlock a k _ => some (a.t, k.val)
  | .interrogate a k => some (a.t, k.val)
  | .accept a k => some (a.t, k.val)
  | .tagPeriodExpiry t k => some (t, k.val)
  | .tagInterrogationStart t k => some (t, k.val)
  | .tagResponse t k _ => some (t, k.val)
  | .tagNoResponse t k => some (t, k.val)
  | .tagLowImpedance t k => some (t, k.val)
  | .tagRetry t k => some (t, k.val)
  | .inductiveDecayEnd t k _ _ => some (t, k.val)
  | _ => none

/-- The instant and the bank of a command that concerns one bank of the load stage. -/
def loadBankOf : Instr → Option (Nat × Nat)
  | .scWindowEnd t k => some (t, k.val)
  | .uvOff t k _ => some (t, k.val)
  | .bankVoltageRecovered t k _ => some (t, k.val)
  | .uvSettleEnd t k => some (t, k.val)
  | .uvRestartStep t k => some (t, k.val)
  | _ => none

/-- The instant and the CAN channel of a command that concerns one CAN channel. -/
def canChannelOf : Instr → Option (Nat × Nat)
  | .req a k _ => some (a.t, k.val)
  | .mbCancel a k _ => some (a.t, k.val)
  | .release a k _ => some (a.t, k.val)
  | .canLaunchEligible t k _ => some (t, k.val)
  | .launchLate t k _ => some (t, k.val)
  | .txsCancel a k => some (a.t, k.val)
  | .canConfigApply t k => some (t, k.val)
  | .canSof t k _ => some (t, k.val)
  | .canTxDone t k _ => some (t, k.val)
  | .canArbitrationLost t k => some (t, k.val)
  | .canTxError t k _ _ _ _ => some (t, k.val)
  | .canRxFrame t k _ _ => some (t, k.val)
  | .canRxError t k _ _ _ _ => some (t, k.val)
  | .recover a k => some (a.t, k.val)
  | .busOffEnd t k => some (t, k.val)
  | .salArm a k _ => some (a.t, k.val)
  | _ => none

/-- The instant and the LIN channel of a command that concerns one LIN channel. -/
def linChannelOf : Instr → Option (Nat × Nat)
  | .sched a k _ => some (a.t, k.val)
  | .sleep a k => some (a.t, k.val)
  | .wake a k => some (a.t, k.val)
  | .linSlotStart t k => some (t, k.val)
  | .linHeaderRx t k _ _ _ _ => some (t, k.val)
  | .linResponseRx t k _ => some (t, k.val)
  | .linFrameTimeout t k _ => some (t, k.val)
  | .linIdleSleep t k => some (t, k.val)
  | .linWakeRetry t k => some (t, k.val)
  | .linScheduleResume t k => some (t, k.val)
  | .update a k _ => some (a.t, k.val)
  | .lfbRelease a k _ => some (a.t, k.val)
  | _ => none

/-- The instant and the DMA channel of a command that concerns one DMA channel. -/
def dmaChannelOf : Instr → Option (Nat × Nat)
  | .dmaStart a k _ => some (a.t, k.val)
  | .stop a k => some (a.t, k.val)
  | .dmaClear a k => some (a.t, k.val)
  | .chOff t k => some (t, k.val)
  | .fence t k => some (t, k.val)
  | .halt t k => some (t, k.val)
  | .fenceComplete t k => some (t, k.val)
  | .loop t k => some (t, k.val)
  | .wait t k => some (t, k.val)
  | .dmaWaitMet t k => some (t, k.val)
  | .dmaFault t k _ => some (t, k.val)
  | _ => none

/-- The instant and the port of a command that concerns one port of the switch. -/
def portOf : Instr → Option (Nat × Nat)
  | .gateEntryChange t k => some (t, k.val)
  | .preemptVerifyDone t k _ => some (t, k.val)
  | .ethTxSelect t k _ => some (t, k.val)
  | .ethLinkChange t k _ _ _ _ _ => some (t, k.val)
  | _ => none

/-- The instant and the page of a command that concerns one register page. -/
def pageOf : Instr → Option (Nat × Nat)
  | .quiesce a k => some (a.t, k.val)
  | .drain a k => some (a.t, k.val)
  | .squash a k => some (a.t, k.val)
  | .resume a k => some (a.t, k.val)
  | .reset a k => some (a.t, k.val)
  | .snapshot a k => some (a.t, k.val)
  | .discardStage a k => some (a.t, k.val)
  | .pageInflightZero t k => some (t, k.val)
  | .squashComplete t k => some (t, k.val)
  | .drainTimeout t k => some (t, k.val)
  | .pageResetComplete t k => some (t, k.val)
  | _ => none

/-- The instant and the partition of a command that concerns one partition. -/
def partitionOf : Instr → Option (Nat × Nat)
  | .partReset a _ k => some (a.t, k.val)
  | .partStart a _ k => some (a.t, k.val)
  | .restart a _ k => some (a.t, k.val)
  | .partDrainEnd t k => some (t, k.val)
  | .partSquashDone t k => some (t, k.val)
  | .resetDone t k => some (t, k.val)
  | _ => none

/-- The commands that change the same parts of the state as `shortCircuitTrip`. -/
def likeShortCircuitTrip : Instr → Option Nat
  | .shortCircuitTrip t _ _ => some t
  | .scWindowEnd t _ => some t
  | .thermalTrip t _ _ => some t
  | .currentLimitTrip t _ _ => some t
  | .retryWaitEnd t _ => some t
  | .inrushEnd t _ _ => some t
  | .uvOff t _ _ => some t
  | .uvSettleEnd t _ => some t
  | .uvRestartStep t _ => some t
  | .olOffCheckStart t => some t
  | .olOffCheckEnd t => some t
  | .reverseCurrentTrip t _ _ => some t
  | .backfedEntry t _ _ => some t
  | .backfedExit t _ _ => some t
  | .closePermitted t _ _ _ => some t
  | .feedRestoreStep t _ => some t
  | .bankVoltageRecovered t _ _ => some t
  | .scTripAged t _ => some t
  | .tjWarn t _ _ => some t
  | .outputSwitch t _ => some t
  | .pgenPeriodBoundary t _ => some t
  | .pwmPulseEdge t _ => some t
  | .leaseTick t => some t
  | .leaseExpiry t _ => some t
  | .lsClockStart t => some t
  | .lsClockStop t => some t
  | .tagPeriodExpiry t _ => some t
  | .tagInterrogationStart t _ => some t
  | .tagLowImpedance t _ => some t
  | .tagRetry t _ => some t
  | _ => none

/-- The commands that change the same parts of the state as `tripAck`. -/
def likeTripAck : Instr → Option Nat
  | .tripAck a _ => some a.t
  | .unlock a _ _ => some a.t
  | .renew a _ _ => some a.t
  | .rearm a _ _ => some a.t
  | _ => none

/-- The commands that change the same parts of the state as `ledgerUpdate`. -/
def likeLedgerUpdate : Instr → Option Nat
  | .ledgerUpdate t => some t
  | .ledgerPeerSend t _ => some t
  | _ => none

/-- The commands that change the same parts of the state as `ledgerPeerReceive`. -/
def likeLedgerPeerReceive : Instr → Option Nat
  | .ledgerPeerReceive t _ _ _ _ _ _ _ _ _ _ => some t
  | _ => none

/-- The commands that change the same parts of the state as `modelStep`. -/
def likeModelStep : Instr → Option Nat
  | .modelStep t _ _ => some t
  | .tagResponse t _ _ => some t
  | .tagNoResponse t _ => some t
  | .journalPeriod t => some t
  | .inductiveDecayEnd t _ _ _ => some t
  | _ => none

/-- The commands that change the same parts of the state as `interrogate`. -/
def likeInterrogate : Instr → Option Nat
  | .interrogate a _ => some a.t
  | .accept a _ => some a.t
  | .flush a => some a.t
  | .start a => some a.t
  | _ => none

/-- The commands that change the same parts of the state as `ainBurdenReconnect`. -/
def likeAinBurdenReconnect : Instr → Option Nat
  | .ainBurdenReconnect t _ => some t
  | .finEdge t _ _ _ _ => some t
  | .ssupUndervolt t _ _ => some t
  | .ssupRetry t _ => some t
  | .ainOverload t _ => some t
  | .finStall t _ => some t
  | .ssupOverload t _ => some t
  | .ssupBackfed t _ => some t
  | .ainSample t _ _ _ => some t
  | .finGateEnd t _ => some t
  | _ => none

/-- The commands that change the same parts of the state as `ssupFaultRestart`. -/
def likeSsupFaultRestart : Instr → Option Nat
  | .ssupFaultRestart a _ => some a.t
  | _ => none

/-- The commands that change the same parts of the state as `dinPoll`. -/
def likeDinPoll : Instr → Option Nat
  | .dinPoll t _ _ => some t
  | .wakeInputEdge t _ _ => some t
  | _ => none

/-- The commands that change the same parts of the state as `canConfigApply`. -/
def likeCanConfigApply : Instr → Option Nat
  | .canConfigApply t _ => some t
  | _ => none

/-- The commands that change the same parts of the state as `canLaunchEligible`. -/
def likeCanLaunchEligible : Instr → Option Nat
  | .canLaunchEligible t _ _ => some t
  | .linScheduleResume t _ => some t
  | .canRxError t _ _ _ _ _ => some t
  | .busOffEnd t _ => some t
  | .launchLate t _ _ => some t
  | .linSlotStart t _ => some t
  | .linHeaderRx t _ _ _ _ _ => some t
  | .linFrameTimeout t _ _ => some t
  | .linIdleSleep t _ => some t
  | .linWakeRetry t _ => some t
  | _ => none

/-- The commands that change the same parts of the state as `canSof`. -/
def likeCanSof : Instr → Option Nat
  | .canSof t _ _ => some t
  | .canArbitrationLost t _ => some t
  | _ => none

/-- The commands that change the same parts of the state as `canTxError`. -/
def likeCanTxError : Instr → Option Nat
  | .canTxError t _ _ _ _ _ => some t
  | .canTxDone t _ _ => some t
  | .canRxFrame t _ _ _ => some t
  | _ => none

/-- The commands that change the same parts of the state as `linResponseRx`. -/
def likeLinResponseRx : Instr → Option Nat
  | .linResponseRx t _ _ => some t
  | _ => none

/-- The commands that change the same parts of the state as `req`. -/
def likeReq : Instr → Option Nat
  | .req a _ _ => some a.t
  | .mbCancel a _ _ => some a.t
  | .release a _ _ => some a.t
  | .recover a _ => some a.t
  | .salArm a _ _ => some a.t
  | .sched a _ _ => some a.t
  | .sleep a _ => some a.t
  | .wake a _ => some a.t
  | .update a _ _ => some a.t
  | .lfbRelease a _ _ => some a.t
  | _ => none

/-- The commands that change the same parts of the state as `txsCancel`. -/
def likeTxsCancel : Instr → Option Nat
  | .txsCancel a _ => some a.t
  | _ => none

/-- The commands that change the same parts of the state as `canWakePattern`. -/
def likeCanWakePattern : Instr → Option Nat
  | .canWakePattern t _ => some t
  | .canWakeFrame t _ _ => some t
  | .linBusWake t _ => some t
  | _ => none

/-- The commands that change the same parts of the state as `tpeTxFrameDone`. -/
def likeTpeTxFrameDone : Instr → Option Nat
  | .tpeTxFrameDone t _ => some t
  | .tpeTimerExpiry t _ => some t
  | .tpeGapExpiry t _ => some t
  | _ => none

/-- The commands that change the same parts of the state as `tpeTxRequest`. -/
def likeTpeTxRequest : Instr → Option Nat
  | .tpeTxRequest t _ _ => some t
  | .tpeFrameRx t _ _ _ => some t
  | _ => none

/-- The commands that change the same parts of the state as `gwEventAdmit`. -/
def likeGwEventAdmit : Instr → Option Nat
  | .gwEventAdmit t _ => some t
  | .groupDone t _ => some t
  | _ => none

/-- The commands that change the same parts of the state as `gwSlotClr`. -/
def likeGwSlotClr : Instr → Option Nat
  | .gwSlotClr a _ _ => some a.t
  | _ => none

/-- The commands that change the same parts of the state as `gwRouteJob`. -/
def likeGwRouteJob : Instr → Option Nat
  | .gwRouteJob t _ => some t
  | _ => none

/-- The commands that change the same parts of the state as `containerClose`. -/
def likeContainerClose : Instr → Option Nat
  | .containerClose t _ => some t
  | _ => none

/-- The commands that change the same parts of the state as `gwP25FrameIn`. -/
def likeGwP25FrameIn : Instr → Option Nat
  | .gwP25FrameIn t _ => some t
  | _ => none

/-- The commands that change the same parts of the state as `gateEntryChange`. -/
def likeGateEntryChange : Instr → Option Nat
  | .gateEntryChange t _ => some t
  | .preemptVerifyDone t _ _ => some t
  | .recoveryReset t _ => some t
  | .ethLinkChange t _ _ _ _ _ _ => some t
  | _ => none

/-- The commands that change the same parts of the state as `polSelect`. -/
def likePolSelect : Instr → Option Nat
  | .polSelect a _ => some a.t
  | .polZero a _ => some a.t
  | .clearRed a _ => some a.t
  | .frerSelect a _ _ => some a.t
  | .frerZero a _ _ => some a.t
  | .frerReset a _ _ => some a.t
  | _ => none

/-- The commands that change the same parts of the state as `streamAgeOut`. -/
def likeStreamAgeOut : Instr → Option Nat
  | .streamAgeOut t _ => some t
  | _ => none

/-- The commands that change the same parts of the state as `ethTxSelect`. -/
def likeEthTxSelect : Instr → Option Nat
  | .ethTxSelect t _ _ => some t
  | _ => none

/-- The commands that change the same parts of the state as `ethFrameRx`. -/
def likeEthFrameRx : Instr → Option Nat
  | .ethFrameRx t _ _ _ => some t
  | .hostFrameIn t _ _ _ => some t
  | _ => none

/-- The commands that change the same parts of the state as `ethTxComplete`. -/
def likeEthTxComplete : Instr → Option Nat
  | .ethTxComplete t _ _ => some t
  | _ => none

/-- The commands that change the same parts of the state as `ethLaunchEligible`. -/
def likeEthLaunchEligible : Instr → Option Nat
  | .ethLaunchEligible t _ => some t
  | .bankUnpaused t _ => some t
  | .bankPaused t _ => some t
  | .bankDone t _ => some t
  | .traceFrozen t => some t
  | _ => none

/-- The commands that change the same parts of the state as `msgAgeOut`. -/
def likeMsgAgeOut : Instr → Option Nat
  | .msgAgeOut t _ => some t
  | _ => none

/-- The commands that change the same parts of the state as `traceRecord`. -/
def likeTraceRecord : Instr → Option Nat
  | .traceRecord t _ => some t
  | _ => none

/-- The commands that change the same parts of the state as `wrData`. -/
def likeWrData : Instr → Option Nat
  | .wrData a _ _ _ _ => some a.t
  | _ => none

/-- The commands that change the same parts of the state as `wrCommit`. -/
def likeWrCommit : Instr → Option Nat
  | .wrCommit a _ _ => some a.t
  | .rdSkip a _ _ => some a.t
  | .qFlush a _ _ => some a.t
  | _ => none

/-- The commands that change the same parts of the state as `wrRewind`. -/
def likeWrRewind : Instr → Option Nat
  | .wrRewind a _ => some a.t
  | .freeze a => some a.t
  | .unfreeze a => some a.t
  | .clear a => some a.t
  | _ => none

/-- The commands that change the same parts of the state as `rdWord`. -/
def likeRdWord : Instr → Option Nat
  | .rdWord a _ _ _ _ => some a.t
  | _ => none

/-- The commands that change the same parts of the state as `chOff`. -/
def likeChOff : Instr → Option Nat
  | .chOff t _ => some t
  | _ => none

/-- The commands that change the same parts of the state as `dmaStart`. -/
def likeDmaStart : Instr → Option Nat
  | .dmaStart a _ _ => some a.t
  | .stop a _ => some a.t
  | .dmaClear a _ => some a.t
  | .dmaTrig a _ _ => some a.t
  | _ => none

/-- The commands that change the same parts of the state as `dmaWaitMet`. -/
def likeDmaWaitMet : Instr → Option Nat
  | .dmaWaitMet t _ => some t
  | .fenceComplete t _ => some t
  | .loop t _ => some t
  | .wait t _ => some t
  | _ => none

/-- The commands that change the same parts of the state as `dmaFault`. -/
def likeDmaFault : Instr → Option Nat
  | .dmaFault t _ _ => some t
  | _ => none

/-- The commands that change the same parts of the state as `halt`. -/
def likeHalt : Instr → Option Nat
  | .halt t _ => some t
  | .fence t _ => some t
  | _ => none

/-- The commands that change the same parts of the state as `followUpTimeout`. -/
def likeFollowUpTimeout : Instr → Option Nat
  | .followUpTimeout t _ _ => some t
  | .watchdog t _ => some t
  | .holdoverExpiry t _ => some t
  | .switchDone t => some t
  | _ => none

/-- The commands that change the same parts of the state as `slewComplete`. -/
def likeSlewComplete : Instr → Option Nat
  | .slewComplete t _ => some t
  | _ => none

/-- The commands that change the same parts of the state as `ptpRateWrite`. -/
def likePtpRateWrite : Instr → Option Nat
  | .ptpRateWrite a _ _ => some a.t
  | _ => none

/-- The commands that change the same parts of the state as `slew`. -/
def likeSlew : Instr → Option Nat
  | .slew a _ => some a.t
  | .step a _ => some a.t
  | .locked a _ => some a.t
  | .holdover a _ => some a.t
  | .txPop a _ => some a.t
  | _ => none

/-- The commands that change the same parts of the state as `fabricLoadHigh`. -/
def likeFabricLoadHigh : Instr → Option Nat
  | .fabricLoadHigh t => some t
  | .wakeDriveEnd t => some t
  | .maxAwake t => some t
  | _ => none

/-- The commands that change the same parts of the state as `zspTc`. -/
def likeZspTc : Instr → Option Nat
  | .zspTc t => some t
  | .stayAwake t => some t
  | _ => none

/-- The commands that change the same parts of the state as `enckeChoose`. -/
def likeEnckeChoose : Instr → Option Nat
  | .enckeChoose t _ _ => some t
  | .enckeExitTimer t => some t
  | .wakeLine t _ => some t
  | .wakeDriveStart t => some t
  | _ => none

/-- The commands that change the same parts of the state as `zspAnswer`. -/
def likeZspAnswer : Instr → Option Nat
  | .zspAnswer t _ _ => some t
  | .zspQuery t _ _ => some t
  | .zspCommit t _ _ => some t
  | .zspAbort t _ _ => some t
  | _ => none

/-- The commands that change the same parts of the state as `wakeReasonSend`. -/
def likeWakeReasonSend : Instr → Option Nat
  | .wakeReasonSend t _ => some t
  | _ => none

/-- The commands that change the same parts of the state as `powerStateEntered`. -/
def likePowerStateEntered : Instr → Option Nat
  | .powerStateEntered t => some t
  | _ => none

/-- The commands that change the same parts of the state as `wakeRequest`. -/
def likeWakeRequest : Instr → Option Nat
  | .wakeRequest t _ _ => some t
  | .needDue t _ => some t
  | _ => none

/-- The commands that change the same parts of the state as `needDeclare`. -/
def likeNeedDeclare : Instr → Option Nat
  | .needDeclare a _ => some a.t
  | _ => none

/-- The commands that change the same parts of the state as `pwrWake`. -/
def likePwrWake : Instr → Option Nat
  | .pwrWake a => some a.t
  | .localSleep a _ => some a.t
  | _ => none

/-- The commands that change the same parts of the state as `partSquashDone`. -/
def likePartSquashDone : Instr → Option Nat
  | .partSquashDone t _ => some t
  | .sliceEnd t _ => some t
  | .resetDone t _ => some t
  | .clusterReload t => some t
  | _ => none

/-- The commands that change the same parts of the state as `partDrainEnd`. -/
def likePartDrainEnd : Instr → Option Nat
  | .partDrainEnd t _ => some t
  | _ => none

/-- The commands that change the same parts of the state as `partReset`. -/
def likePartReset : Instr → Option Nat
  | .partReset a _ _ => some a.t
  | .partStart a _ _ => some a.t
  | .restart a _ _ => some a.t
  | .cluster t _ => some t
  | .lockstep t _ => some t
  | _ => none

/-- The commands that change the same parts of the state as `pinReset`. -/
def likePinReset : Instr → Option Nat
  | .pinReset t => some t
  | _ => none

/-- The commands that change the same parts of the state as `readToClear`. -/
def likeReadToClear : Instr → Option Nat
  | .readToClear a _ _ => some a.t
  | .semClaim a _ => some a.t
  | _ => none

/-- The commands that change the same parts of the state as `pageInflightZero`. -/
def likePageInflightZero : Instr → Option Nat
  | .pageInflightZero t _ => some t
  | .squashComplete t _ => some t
  | _ => none

/-- The commands that change the same parts of the state as `drainTimeout`. -/
def likeDrainTimeout : Instr → Option Nat
  | .drainTimeout t _ => some t
  | _ => none

/-- The commands that change the same parts of the state as `pageResetComplete`. -/
def likePageResetComplete : Instr → Option Nat
  | .pageResetComplete t _ => some t
  | _ => none

/-- The commands that change the same parts of the state as `snapshot`. -/
def likeSnapshot : Instr → Option Nat
  | .snapshot a _ => some a.t
  | .quiesce a _ => some a.t
  | .drain a _ => some a.t
  | .squash a _ => some a.t
  | .resume a _ => some a.t
  | .reset a _ => some a.t
  | _ => none

/-- The commands that change the same parts of the state as `cohSnapshot`. -/
def likeCohSnapshot : Instr → Option Nat
  | .cohSnapshot a => some a.t
  | _ => none

/-- The commands that change the same parts of the state as `snapRelease`. -/
def likeSnapRelease : Instr → Option Nat
  | .snapRelease a _ _ => some a.t
  | _ => none

/-- The commands that change the same parts of the state as `semFree`. -/
def likeSemFree : Instr → Option Nat
  | .semFree a _ => some a.t
  | .evtStatusClear a _ _ _ => some a.t
  | .evtForce a _ _ => some a.t
  | _ => none

/-- The commands that change the same parts of the state as `evtViolPop`. -/
def likeEvtViolPop : Instr → Option Nat
  | .evtViolPop a => some a.t
  | _ => none

/-- The commands that change the same parts of the state as `stagedWrite`. -/
def likeStagedWrite : Instr → Option Nat
  | .stagedWrite a _ _ => some a.t
  | _ => none

/-- The commands that change the same parts of the state as `discardStage`. -/
def likeDiscardStage : Instr → Option Nat
  | .discardStage a _ => some a.t
  | _ => none

/-- The commands that change the same parts of the state as `tableWindowWrite`. -/
def likeTableWindowWrite : Instr → Option Nat
  | .tableWindowWrite a _ _ => some a.t
  | .cancel a => some a.t
  | .cancelOther a _ => some a.t
  | .discardTables a => some a.t
  | _ => none

/-- The commands that change the same parts of the state as `drainComplete`. -/
def likeDrainComplete : Instr → Option Nat
  | .drainComplete t _ => some t
  | _ => none

/-- The commands that change the same parts of the state as `resyncComplete`. -/
def likeResyncComplete : Instr → Option Nat
  | .resyncComplete t _ => some t
  | _ => none

/-- The commands that change the same parts of the state as `stageLogReplayed`. -/
def likeStageLogReplayed : Instr → Option Nat
  | .stageLogReplayed t _ => some t
  | _ => none

/-- The commands that change the same parts of the state as `regionResyncComplete`. -/
def likeRegionResyncComplete : Instr → Option Nat
  | .regionResyncComplete t _ => some t
  | _ => none

/-- The commands that change the same parts of the state as `commitNow`. -/
def likeCommitNow : Instr → Option Nat
  | .commitNow a _ => some a.t
  | .commitAll a _ => some a.t
  | .commitSchedule a _ _ => some a.t
  | .commitAtTimeApply t _ => some t
  | .commitPairCoherent a _ _ => some a.t
  | .syncDone t _ => some t
  | _ => none

/-- The commands that change the same parts of the state as `ulfTrainStart`. -/
def likeUlfTrainStart : Instr → Option Nat
  | .ulfTrainStart t => some t
  | .ulfLanesLocked t => some t
  | .ulfNakTimeout t => some t
  | .fenceAck t => some t
  | .combinerTimeout t => some t
  | _ => none

/-- The commands that change the same parts of the state as `ulfLinkFailure`. -/
def likeUlfLinkFailure : Instr → Option Nat
  | .ulfLinkFailure t _ => some t
  | _ => none

/-- The commands that change the same parts of the state as `partnerViewRead`. -/
def likePartnerViewRead : Instr → Option Nat
  | .partnerViewRead a _ _ => some a.t
  | .ulfRetrain a => some a.t
  | .lerPop a => some a.t
  | _ => none

/-- The commands that change the same parts of the state as `ulfRetrainDone`. -/
def likeUlfRetrainDone : Instr → Option Nat
  | .ulfRetrainDone t => some t
  | _ => none

/-- The commands that change the same parts of the state as `ulfParamRx`. -/
def likeUlfParamRx : Instr → Option Nat
  | .ulfParamRx t _ _ _ _ _ _ _ _ => some t
  | _ => none

/-- The commands that change the same parts of the state as `ulfTrainTimeout`. -/
def likeUlfTrainTimeout : Instr → Option Nat
  | .ulfTrainTimeout t => some t
  | .ulfRetrainTimeout t => some t
  | _ => none

/-- The commands that change the same parts of the state as `partnerReadComplete`. -/
def likePartnerReadComplete : Instr → Option Nat
  | .partnerReadComplete t => some t
  | .partnerReadTimeout t => some t
  | _ => none

/-- The commands that change the same parts of the state as `heartbeatExpired`. -/
def likeHeartbeatExpired : Instr → Option Nat
  | .heartbeatExpired t _ => some t
  | _ => none

/-- The commands that change the same parts of the state as `authInChange`. -/
def likeAuthInChange : Instr → Option Nat
  | .authInChange t _ => some t
  | .sleepSuspendEnd t => some t
  | _ => none

/-- The commands that change the same parts of the state as `pairHeart`. -/
def likePairHeart : Instr → Option Nat
  | .pairHeart a => some a.t
  | _ => none

/-- The commands that change the same parts of the state as `leaseSend`. -/
def likeLeaseSend : Instr → Option Nat
  | .leaseSend t => some t
  | .pairReleaseSend t => some t
  | .helloRx t _ => some t
  | .takeover t _ => some t
  | .byeRx t => some t
  | _ => none

/-- The commands that change the same parts of the state as `leaseRx`. -/
def likeLeaseRx : Instr → Option Nat
  | .leaseRx t => some t
  | .memoryPhaseDone t => some t
  | _ => none

/-- The commands that change the same parts of the state as `handover`. -/
def likeHandover : Instr → Option Nat
  | .handover a _ _ => some a.t
  | .leave a _ => some a.t
  | .cancelLeave a _ => some a.t
  | _ => none

/-- The commands that change the same parts of the state as `acceptRx`. -/
def likeAcceptRx : Instr → Option Nat
  | .acceptRx t _ => some t
  | .verdictRx t _ => some t
  | .prepareRx t _ => some t
  | .verdictCheck t _ => some t
  | .goDecision t _ => some t
  | .pairAbortRx t _ => some t
  | .rejectRx t _ => some t
  | _ => none

/-- The commands that change the same parts of the state as `goRx`. -/
def likeGoRx : Instr → Option Nat
  | .goRx t _ => some t
  | _ => none

/-- The commands that change the same parts of the state as `svcChallenge`. -/
def likeSvcChallenge : Instr → Option Nat
  | .svcChallenge t => some t
  | .svcLockEnd t => some t
  | .keyDone t _ => some t
  | .svcAnswer t _ _ _ => some t
  | _ => none

/-- The commands that change the same parts of the state as `attest`. -/
def likeAttest : Instr → Option Nat
  | .attest a _ => some a.t
  | .keyLoad a _ _ => some a.t
  | .keyErase a _ _ => some a.t
  | .svcClose a _ => some a.t
  | .otpKey a _ _ => some a.t
  | _ => none

/-- The commands that change the same parts of the state as `attestDone`. -/
def likeAttestDone : Instr → Option Nat
  | .attestDone t => some t
  | _ => none

/-- The commands that change the same parts of the state as `stageDone`. -/
def likeStageDone : Instr → Option Nat
  | .stageDone t => some t
  | _ => none

/-- The commands that change the same parts of the state as `trialPassed`. -/
def likeTrialPassed : Instr → Option Nat
  | .trialPassed t => some t
  | .peerReport t _ _ => some t
  | _ => none

/-- The commands that change the same parts of the state as `pinResetRelease`. -/
def likePinResetRelease : Instr → Option Nat
  | .pinResetRelease t => some t
  | _ => none

/-- The commands that change the same parts of the state as `updOpen`. -/
def likeUpdOpen : Instr → Option Nat
  | .updOpen a _ => some a.t
  | .stage a _ _ => some a.t
  | .activate a _ => some a.t
  | .updRestart a _ => some a.t
  | .confirm a _ => some a.t
  | .updAbort a _ => some a.t
  | _ => none

/-- The commands that change the same parts of the state as `cmdDone`. -/
def likeCmdDone : Instr → Option Nat
  | .cmdDone t _ _ => some t
  | _ => none

/-- The commands that change the same parts of the state as `journalAppend`. -/
def likeJournalAppend : Instr → Option Nat
  | .journalAppend t _ => some t
  | _ => none

/-- The commands that change the same parts of the state as `storRead`. -/
def likeStorRead : Instr → Option Nat
  | .storRead a _ => some a.t
  | .storWrite a _ => some a.t
  | _ => none

/-- The commands that change the same parts of the state as `scrubStep`. -/
def likeScrubStep : Instr → Option Nat
  | .scrubStep t _ => some t
  | _ => none

/-- The commands that change the same parts of the state as `dramcErrPop`. -/
def likeDramcErrPop : Instr → Option Nat
  | .dramcErrPop a => some a.t
  | _ => none

/-- The commands that may write memory. -/
def writesMemory : Instr → Bool
  | .registerWrite _ _ _ _ | .memoryAccess _ _ _ _ | .modelStep _ _ _ | .interrogate _ _ | .tagResponse _ _ _
  | .tagNoResponse _ _ | .accept _ _ | .ledgerUpdate _ | .journalPeriod _ | .flush _ | .start _
  | .ledgerPeerSend _ _ | .ledgerPeerReceive _ _ _ _ _ _ _ _ _ _ _ | .inductiveDecayEnd _ _ _ _
  | .traceRecord _ _ | .move _ _ _ | .signal _ _ | .ring _ _ _ | .ringWriteback _ _ | .tpeTxRequest _ _ _
  | .tpeFrameRx _ _ _ _ | .powerStateExited _ _ _ | .ulfFlitRx _ _ _ _ | .updOpen _ _ | .stage _ _ _
  | .activate _ _ | .updRestart _ _ | .confirm _ _ | .updAbort _ _ | .trialFailed _ _ | .attestDone _
  | .cmdDone _ _ _ | .powerOnReset _ => true
  | _ => false

/-- The commands that may write the DRAM: those, and the writers of cells of the extension banks. -/
def writesDram : Instr → Bool
  | .registerWrite _ _ _ _ | .readToClear _ _ _ | .memoryAccess _ _ _ _ | .commitNow _ _ | .commitAll _ _
  | .commitSchedule _ _ _ | .commitAtTimeApply _ _ | .commitPairCoherent _ _ _ | .snapshot _ _ | .semClaim _ _
  | .quiesce _ _ | .drain _ _ | .squash _ _ | .resume _ _ | .reset _ _ | .pageResetComplete _ _
  | .modelStep _ _ _ | .interrogate _ _ | .tagResponse _ _ _ | .tagNoResponse _ _ | .accept _ _
  | .ledgerUpdate _ | .journalPeriod _ | .flush _ | .start _ | .ledgerPeerSend _ _
  | .ledgerPeerReceive _ _ _ _ _ _ _ _ _ _ _ | .inductiveDecayEnd _ _ _ _ | .dinPoll _ _ _
  | .wakeInputEdge _ _ _ | .canTxDone _ _ _ | .canTxError _ _ _ _ _ _ | .canRxFrame _ _ _ _
  | .canWakePattern _ _ | .canWakeFrame _ _ _ | .linBusWake _ _ | .ethFrameRx _ _ _ _ | .hostFrameIn _ _ _ _
  | .ethTxComplete _ _ _ | .wrData _ _ _ _ _ | .rdWord _ _ _ _ _ | .traceRecord _ _ | .move _ _ _ | .signal _ _
  | .ring _ _ _ | .ringWriteback _ _ | .gwRouteJob _ _ | .containerClose _ _ | .gwP25FrameIn _ _
  | .tpeTxRequest _ _ _ | .tpeFrameRx _ _ _ _ | .needDeclare _ _ | .zspQuery _ _ _ | .zspCommit _ _ _
  | .zspAbort _ _ _ | .zspAnswer _ _ _ | .wakeRequest _ _ _ | .wakeReasonSend _ _ | .pwrWake _
  | .localSleep _ _ | .powerStateExited _ _ _ | .needDue _ _ | .ulfTrainTimeout _
  | .ulfParamRx _ _ _ _ _ _ _ _ _ | .ulfRetrainTimeout _ | .ulfFlitRx _ _ _ _ | .syncDone _ _ | .updOpen _ _
  | .stage _ _ _ | .activate _ _ | .updRestart _ _ | .confirm _ _ | .updAbort _ _ | .trialFailed _ _
  | .attestDone _ | .cmdDone _ _ _ | .powerOnReset _ => true
  | _ => false

/-- The commands that may change staged values, table sets, the stage log or table regions. -/
def stages : Instr → Bool
  | .registerWrite _ _ _ _ | .readToClear _ _ _ | .memoryAccess _ _ _ _ | .stagedWrite _ _ _
  | .tableWindowWrite _ _ _ | .discardStage _ _ | .commitNow _ _ | .commitAll _ _ | .commitSchedule _ _ _
  | .commitAtTimeApply _ _ | .commitPairCoherent _ _ _ | .cancel _ | .cancelOther _ _ | .discardTables _
  | .drainComplete _ _ | .resyncComplete _ _ | .stageLogReplayed _ _ | .regionResyncComplete _ _
  | .snapshot _ _ | .semClaim _ _ | .quiesce _ _ | .drain _ _ | .squash _ _ | .resume _ _ | .reset _ _
  | .move _ _ _ | .signal _ _ | .ring _ _ _ | .ringWriteback _ _ | .lockstep _ _ | .partReset _ _ _
  | .partStart _ _ _ | .restart _ _ _ | .cluster _ _ | .powerStateExited _ _ _ | .ulfFlitRx _ _ _ _
  | .syncDone _ _ | .updOpen _ _ | .stage _ _ _ | .activate _ _ | .updRestart _ _ | .confirm _ _
  | .updAbort _ _ | .trialFailed _ _ | .pinReset _ | .powerOnReset _ => true
  | _ => false

end Sys2Proof.Machine
end

