-- ==== Sys2Proof/WellFormed.lean ====
section
/-! DEFINITION. Well-formed commands: the bounds that the types of their operands do not carry (R2, R37, R119, R147, R176,
R198, R354, R359). Every other operand is bounded by its type. -/

namespace Sys2Proof

open Sys2Proof.Machine

/-- Addresses have 36 bits (R2, R37). -/
def wfAddr (a : Nat) : Bool := decide (a < 2 ^ 36)

/-- Sizes a bus transaction may have, in bytes (R2, R213, R311). -/
def wfSize (n : Nat) : Bool := decide (1 ≤ n) && decide (n ≤ 64)

def MemOp.wf : MemOp → Bool
  | .read n => wfSize n
  | .fetch n => wfSize n
  | .write d => wfSize d.length

/-- A CAN frame: its identifier and its data (R147, R150). -/
def wfCan (f : CanFrame) : Bool :=
  decide (f.id < 2 ^ 29) && decide (f.len ≤ 2048) && (f.rtr || f.data.length == f.len)

/-- What arrives at an Ethernet port: 60 bytes without FCS at least for a whole frame; 128 bytes for a head (R176, R177). -/
def EthRx.wf : EthRx → Bool
  | .whole _ b _ _ => decide (60 ≤ b.length)
  | .head _ b => b.length == 128
  | .tail b _ => !b.isEmpty

/-- A command is well formed. -/
def Instr.wf : Instr → Bool
  | .registerWrite _ addr _ size => wfAddr addr && wfSize size
  | .readToClear _ addr size => wfAddr addr && wfSize size
  | .memoryAccess _ addr op _ => wfAddr addr && op.wf
  | .stagedWrite _ addr _ => wfAddr addr
  | .tableWindowWrite _ addr _ => wfAddr addr
  | .partnerViewRead _ addr size => wfAddr addr && wfSize size
  | .tagResponse _ _ frame => frame.length == 32
  | .canRxFrame _ _ frame _ => wfCan frame
  | .canWakeFrame _ _ frame => wfCan frame
  | .tpeFrameRx _ _ frame _ => wfCan frame
  | .ethFrameRx _ _ rx _ => EthRx.wf rx
  | .wrData _ _ _ val size => (size == 4 || size == 8) && decide (val < 2 ^ (8 * size))
  | .rdWord _ _ _ size _ => size == 4 || size == 8 || size == 32
  | .dmaFault _ _ (some a) => wfAddr a
  | .ulfFlitRx _ flit _ bad => flit.length == 72 && bad.all wfAddr
  | _ => true

end Sys2Proof
end

