-- ==== Sys2Proof/Safety.lean ====
section
/-! DEFINITION. The terms in which claims about the block are stated: how a command ends, the canonical form of a state's
lists, and what holds while power-on reset holds the module. -/

namespace Sys2Proof.Machine

/-- Command `c` of instant `t` completes with an effect: in every state that is not held by power-on reset, and whose
state at that instant (time having passed) meets `pre`, it ends in a next state; `post` relates the two. -/
def Effect (t : Nat) (c : Instr) (pre : State → Prop) (post : State → State → Prop) : Prop :=
  ∀ s : State, s.clk.held = false → pre (s.advance t) → ∃ n, exec c s = .next n ∧ post (s.advance t) n

/-- A software write completes with an effect: access `a` is let through at its register (R2, R38, R42), and it is
answered without an error. -/
def WriteEffect (a : Acc) (addr : Nat) (c : Instr) (pre : State → Prop) (post : State → State → Prop) : Prop :=
  Effect a.t c (fun b => b.checkPage a addr true 4 = none ∧ pre b) (fun b n => n.resp = .ok 0 ∧ post b n)

/-- The parts of the state that a frame speaks of. -/
inductive Area where
  | regs | staged | held | pages | coh | sets | log | regions | viol | ifiles | resp | parts | dramc | mem | dram | load | pool
  | eth | buses | inputs | gway | tpe | dma | ulf | pair | pwr | sec | upd | stor | clk
  deriving DecidableEq, Repr

/-- Two states agree in one part; memory is two parts, the DRAM and all else. The queue and the counter of free values belong to no part. -/
def State.same (b n : State) : Area → Prop
  | .regs => n.regs = b.regs
  | .staged => n.staged = b.staged
  | .held => n.held = b.held ∧ n.heldRead = b.heldRead
  | .pages => n.pages = b.pages
  | .coh => n.coh = b.coh
  | .sets => n.sw = b.sw ∧ n.gwSet = b.gwSet ∧ n.pt = b.pt
  | .log => n.log = b.log
  | .regions => n.regions = b.regions
  | .viol => n.viol = b.viol ∧ n.violLost = b.violLost
  | .ifiles => n.ifiles = b.ifiles
  | .resp => n.resp = b.resp
  | .parts => n.parts = b.parts
  | .dramc => n.dramc = b.dramc
  | .mem => ∀ addr, inDram addr 1 = false → n.byteAt addr = b.byteAt addr
  | .dram => ∀ addr, inDram addr 1 = true → n.byteAt addr = b.byteAt addr
  | .load => n.load = b.load
  | .pool => n.pool = b.pool
  | .eth => n.eth = b.eth
  | .buses => n.buses = b.buses
  | .inputs => n.inputs = b.inputs
  | .gway => n.gway = b.gway
  | .tpe => n.tpe = b.tpe
  | .dma => n.dma = b.dma
  | .ulf => n.ulf = b.ulf
  | .pair => n.pair = b.pair
  | .pwr => n.pwr = b.pwr
  | .sec => n.sec = b.sec
  | .upd => n.upd = b.upd
  | .stor => n.stor = b.stor
  | .clk => n.clk = b.clk

/-- Two states agree in every part but those of a list, and in what is built into the module. -/
def State.sameBut (b n : State) (l : List Area) : Prop := n.hw = b.hw ∧ ∀ x, x ∉ l → b.same n x

/-- Every way in which a command of a class can end leaves all but some parts as time left them. -/
def Frame (cls : Instr → Option Nat) (l : List Area) : Prop :=
  ∀ c t s n, cls c = some t → s.clk.held = false → exec c s = .next n → (s.advance t).sameBut n l

/-- Queue `q` has come to hold the packets `l`, but for leading ones that a CAN stream fed from it cannot send (R150). -/
def State.queueLeft (b n : State) (q : Nat) (l : List Packet) : Prop :=
  ∃ k, (n.queue q).visible = l.drop k ∧ ([8, 9, 10, 11].all (fun c => b.txsQueue c != some q) = true → k = 0)

/-- An access is refused with `c` and recorded: the violation FIFO takes it, or counts it as lost, EVT0 raises its event, and
nothing else changes (R44). -/
def State.violated (b n : State) (a : Acc) (addr : Nat) (write : Bool) (c : BusCause) : Prop :=
  n.resp = .busError c
  ∧ n.viol = (if b.viol.length < 16 then b.viol ++ [⟨State.accPart a, a.req, write, c, addr, b.clk.lt⟩] else b.viol)
  ∧ n.violLost = (if b.viol.length < 16 then b.violLost else satAdd 16 b.violLost 1)
  ∧ n.regB (R.EVT_STATUS 1) (if b.viol.length < 16 then 0 else 1) = true
  ∧ (∀ x, x ≠ R.EVT_STATUS 1 → n.reg x = b.reg x)
  ∧ b.sameBut n [.resp, .viol, .regs, .ifiles]

/-- An access is refused with `c`, and recorded where R44 says so. -/
def State.refusedAs (b n : State) (a : Acc) (addr : Nat) (write : Bool) (c : BusCause) : Prop :=
  if c.recorded then b.violated n a addr write c else n.resp = .busError c ∧ b.sameBut n [.resp]

/-- What a start of the unit does to the firmware of the load stage and of the external PHYs (R419): a LOADSTAGE part that
passes is in the spare bank, and a PHY part that passes is in every PHY (a cold boot) or waits for the next loss of link. -/
def State.startLoads (b n : State) (cold : Bool) : Prop :=
  n.load.fwBank = b.load.fwBank
  ∧ (match n.bootPart 4 with
    | some fw => n.load.fw = KMap.put b.load.fw (!b.load.fwBank).toNat fw ∧ n.load.fwReady = true
    | none => n.load.fw = b.load.fw ∧ n.load.fwReady = b.load.fwReady)
  ∧ match n.bootPart 5 with
    | some fw => ∀ k : Fin 22, n.port k =
        if cold then { b.port k with fw := fw, fwNext := none } else { b.port k with fwNext := some fw }
    | none => n.eth = b.eth

/-- Memory and registers are in their canonical form. -/
def State.canonical (s : State) : Bool := memWf s.mem && KMap.sorted s.regs && KMap.sorted s.staged

/-- Every block but the stores that need no power has the value of reset (R443). -/
def State.atPowerOn (s : State) : Prop :=
  s.regs = State.reset.regs ∧ s.staged = State.reset.staged ∧ s.held = State.reset.held
  ∧ s.heldRead = State.reset.heldRead ∧ s.pages = State.reset.pages
  ∧ s.coh = State.reset.coh ∧ s.sw = State.reset.sw ∧ s.gwSet = State.reset.gwSet ∧ s.pt = State.reset.pt
  ∧ s.log = State.reset.log ∧ s.regions = State.reset.regions ∧ s.viol = State.reset.viol
  ∧ s.violLost = State.reset.violLost ∧ s.ifiles = State.reset.ifiles ∧ s.parts = State.reset.parts
  ∧ s.dramc = State.reset.dramc ∧ s.mem = State.reset.mem
  ∧ s.load = { State.reset.load with fw := s.load.fw, fwBank := s.load.fwBank } ∧ s.pool = State.reset.pool
  ∧ s.eth = State.reset.eth ∧ s.buses = State.reset.buses ∧ s.inputs = State.reset.inputs ∧ s.gway = State.reset.gway
  ∧ s.tpe = State.reset.tpe ∧ s.dma = State.reset.dma ∧ s.ulf = State.reset.ulf ∧ s.pair = State.reset.pair
  ∧ s.pwr = State.reset.pwr

end Sys2Proof.Machine
end

