-- ==== Sys2Proof/Certificates/Slice0/Obligations.lean ====
section
/-! DEFINITION. The statements for the provers. A statement about a command says that it completes (`Effect`: a next state, in
every state that power-on reset does not hold) and what it does: `b` is the state at its instant, time having passed, and `n`
the state after it. -/

open Sys2Proof Sys2Proof.Machine

/-- R293, R294, R297, R299: PTP_CMD.SLEW adds the adjustment to what is left of the slew, within 2,147,483,647 ns either way, and
leaves the clock itself; STEP leaves the clock at the instant of the write, moves it by the adjustment at the next 2 ns step, and ends the
slew, and a step of the selected domain is recorded with that instant; a write of PTP_RATE is held within 1,000 ppm. Each restarts the
watchdog of its domain and leaves the other domain. A slew that has run out leaves nothing to do. -/
def Obligations.ClockSlewAndStep : Prop :=
  (∀ (a : Acc) (d : Fin 2), WriteEffect a (R.PTP_CMD d) (.slew a d) (fun _ => True) (fun b n => n.dom d =
      { b.dom d with slewLeft := max (-(2147483647 * clkUnit)) (min (2147483647 * clkUnit) ((b.dom d).slewLeft + signed 32 (b.dom d).adjOfs.toNat * clkUnit)), lastAdjust := b.clk.lt }
      ∧ n.dom (1 - d) = b.dom (1 - d)))
  ∧ (∀ (a : Acc) (d : Fin 2), WriteEffect a (R.PTP_CMD d) (.step a d) (fun _ => True) (fun b n => n.dom d =
      { b.dom d with stepBy := (b.dom d).stepBy + signed 32 (b.dom d).adjOfs.toNat, slewLeft := 0, rest := 0, lastAdjust := b.clk.lt }
      ∧ n.dom (1 - d) = b.dom (1 - d) ∧ (d.val = b.selDom → n.clk.stepTime = b.clk.lt + 2 ∧ n.clk.stepNs = max
      (-2147483647) (min 2147483647 (signed 32 (b.dom d).adjOfs.toNat)) ∧ n.regB (R.EVT_STATUS 7) 2 = true)))
  ∧ (∀ (c : DomClock) (rate : Int) (ppb k m : Nat), (c.run rate ppb (k + 1) m).units + (c.run rate ppb (k + 1) m).rest
      = c.units + c.rest + ((k : Int) + 1) * 2 * (1099511627776 + rate) * 1000000000 + c.stepBy * clkUnit + slewBy
      c.slewLeft ppb m ∧ (c.run rate ppb (k + 1) m).slewLeft = c.slewLeft - slewBy c.slewLeft ppb m ∧ (c.run rate ppb (k
      + 1) m).stepBy = 0)
  ∧ (∀ (a : Acc) (d : Fin 2) (rate : Word), WriteEffect a (R.PTP_RATE d) (.ptpRateWrite a d rate) (fun _ => True) (fun
      b n => n.reg (R.PTP_RATE d) = word (unsigned 32 (max (-1099511628) (min 1099511628 (signed 32 rate.toNat)))) ∧
      n.dom d = { b.dom d with lastAdjust := b.clk.lt } ∧ n.dom (1 - d) = b.dom (1 - d)))
  ∧ (∀ (t : Nat) (d : Fin 2), Effect t (.slewComplete t d) (fun _ => True) (fun b n => b.sameBut n []))

/-- R294, R295, R297, R304, R306: PTP_CMD.LOCKED makes an enabled domain SYNCED; HOLDOVER makes a SYNCED one HOLDOVER from
that instant; TX_POP drops the oldest transmit stamp. The watchdog puts a SYNCED domain in HOLDOVER, the end of HOLD_S
makes it FREE; each change of state raises STATE, and the watchdog WATCHDOG. A seamless switch is done once PHASE is 0; a Sync whose
Follow_Up has not arrived in 100 ms is forgotten. -/
def Obligations.ClockStates : Prop :=
  (∀ (a : Acc) (d : Fin 2), WriteEffect a (R.PTP_CMD d) (.locked a d) (fun b => b.domEn d = true) (fun b n => n.dom d
      = { b.dom d with state := .synced, lastAdjust := b.clk.lt } ∧ ((b.dom d).state ≠ .synced → n.regB (R.EVT_STATUS (8
      + d)) 0 = true)))
  ∧ (∀ (a : Acc) (d : Fin 2), WriteEffect a (R.PTP_CMD d) (.holdover a d) (fun b => (b.dom d).state = .synced) (fun b n
      => n.dom d = { b.dom d with state := .holdover, holdSince := b.clk.lt } ∧ n.regB (R.EVT_STATUS (8 + d)) 0 = true))
  ∧ (∀ (a : Acc) (d : Fin 2), WriteEffect a (R.PTP_CMD d) (.txPop a d) (fun _ => True) (fun b n => n.dom d =
      { b.dom d with stamps := (b.dom d).stamps.drop 1 } ∧ n.dom (1 - d) = b.dom (1 - d)))
  ∧ (∀ (t : Nat) (d : Fin 2), Effect t (.watchdog t d) (fun b => (b.dom d).state = .synced ∧ b.regF (R.PTP_CFG d) 31 16
      ≠ 0 ∧ (b.dom d).lastAdjust + b.regF (R.PTP_CFG d) 31 16 * 1000000 ≤ b.clk.lt) (fun b n => n.dom d =
      { b.dom d with state := .holdover, holdSince := b.clk.lt } ∧ n.regB (R.EVT_STATUS (8 + d)) 0 = true ∧ n.regB
      (R.EVT_STATUS (8 + d)) 2 = true))
  ∧ (∀ (t : Nat) (d : Fin 2), Effect t (.holdoverExpiry t d) (fun b => (b.dom d).state = .holdover ∧ b.regF (R.PTP_CFG
      d) 15 8 ≠ 0 ∧ (b.dom d).holdSince + b.regF (R.PTP_CFG d) 15 8 * 1000000000 ≤ b.clk.lt) (fun b n => n.dom d =
      { b.dom d with state := .free } ∧ n.regB (R.EVT_STATUS (8 + d)) 0 = true))
  ∧ (∀ (t : Nat), Effect t (.switchDone t) (fun b => b.clk.switching = true ∧ b.clk.phase = 0) (fun b n => n.clk =
      { b.clk with switching := false } ∧ n.regB (R.EVT_STATUS 7) 1 = true))
  ∧ (∀ (t : Nat) (d : Fin 2) (q : Fin 65536), Effect t (.followUpTimeout t d q) (fun _ => True) (fun b n =>
      n.clk.followUps = b.clk.followUps.filter (fun f => !(f.dom == d.val && f.seqId == q.val && !f.arrived && f.since +
      100000000 ≤ b.clk.lt))))

/-- R60, R61, R68: a conducting channel whose current reaches its fixed trip enters TRIPPED with cause 1 at that instant,
raises its event, counts in LSC_TRIP_COUNT, joins the trips of the last 60 s, of which the eighth locks it out, and opens the 250 us
window of its bank; the window ends; trips older than 60 s are
forgotten. -/
def Obligations.ShortCircuit : Prop :=
  (∀ (t : Nat) (ch : Fin 128) (ma : Int), Effect t (.shortCircuitTrip t ch ma) (fun b => (b.chan ch).conducting =
      true ∧ (chTripMa ch : Int) ≤ ma.natAbs) (fun b n => (n.chan ch).st = .tripped ∧ (n.chan ch).cause = 1 ∧ (n.chan
      ch).tripTime = b.clk.lt ∧ (n.chan ch).out = {} ∧ (n.chan ch).scTrips = recentTrips b.clk.lt (b.chan ch).scTrips ++
      [b.clk.lt] ∧ (n.chan ch).lockout = ((b.chan ch).lockout || decide (8 ≤ (recentTrips b.clk.lt (b.chan
      ch).scTrips).length + 1)) ∧ (n.lbank (ch / 32)).scWindow = some (b.clk.lt + 250000) ∧ n.regF (R.LSC_TRIP_COUNT ch)
      15 0 = satAdd 16 (b.regF (R.LSC_TRIP_COUNT ch) 15 0) 1 ∧ n.regB (R.EVT_STATUS (lscPage ch)) (ch % 8) = true))
  ∧ (∀ (t : Nat) (bank : Fin 4), Effect t (.scWindowEnd t bank) (fun b => (b.lbank bank).scWindow.any (fun e => e ≤
      b.clk.lt) = true) (fun b n => n.lbank bank = { b.lbank bank with scWindow := none }))
  ∧ (∀ (t : Nat) (ch : Fin 128), Effect t (.scTripAged t ch) (fun _ => True) (fun b n => n.chan ch =
      { b.chan ch with scTrips := recentTrips b.clk.lt (b.chan ch).scTrips }))

/-- R65: a channel whose junction temperature reaches 170 degrees (1,360 steps of 0.125) enters TRIPPED with cause 3 from
any other state; TJ_WARN is set from 150 degrees and cleared below 140, and between them keeps its value. R74: a conducting
channel whose current is negative beyond a tenth of its rating enters TRIPPED with cause 9. -/
def Obligations.ThermalTrips : Prop :=
  (∀ (t : Nat) (ch : Fin 128) (tj : Int), Effect t (.thermalTrip t ch tj) (fun b => (b.chan ch).st ≠ .tripped ∧ 1360
      ≤ tj) (fun b n => (n.chan ch).st = .tripped ∧ (n.chan ch).cause = 3 ∧ (n.chan ch).tripTime = b.clk.lt ∧ (n.chan
      ch).out = {} ∧ (n.chan ch).tjWarn = true ∧ n.regB (R.EVT_STATUS (lscPage ch)) (ch % 8) = true))
  ∧ (∀ (t : Nat) (ch : Fin 128) (tj : Int), Effect t (.tjWarn t ch tj) (fun _ => True) (fun b n => n.chan ch =
      { b.chan ch with tjWarn := if 1200 ≤ tj then true else if tj < 1120 then false else (b.chan ch).tjWarn }))
  ∧ (∀ (t : Nat) (ch : Fin 128) (ma : Int), Effect t (.reverseCurrentTrip t ch ma) (fun b => (b.chan ch).conducting =
      true ∧ ma < -(chReverseMa ch : Int)) (fun b n => (n.chan ch).st = .tripped ∧ (n.chan ch).cause = 9 ∧ (n.chan
      ch).tripTime = b.clk.lt ∧ (n.chan ch).out = {} ∧ n.regB (R.EVT_STATUS (lscPage ch)) (ch % 8) = true))

/-- R66, R67, R68: a burst whose current has been at ILIM for T_LIM counts against the budget and waits in RETRY_WAIT, or trips with cause 4
once the budget is used up; inside the short-circuit window of its bank it is not counted. The wait ends in a new burst
after T_OFF, and an inrush below ILIM 976.5625 us after its burst
began ends in ON or PWM, or, with the lease EXPIRED, in LEASE_SAFE with cause 7. -/
def Obligations.InrushBursts : Prop :=
  (∀ (t : Nat) (ch : Fin 128) (ma : Int), Effect t (.currentLimitTrip t ch ma) (fun b => (b.chan ch).st = .inrush ∧
      b.inrIlimMa ch ≤ ma.natAbs ∧ (b.chan ch).burstAt + b.inrLimNs ch ≤ b.clk.lt ∧ b.inWindow ch = false) (fun b n =>
      if b.inrBudget ch < (b.chan ch).used + 1 then (n.chan ch).st = .tripped ∧ (n.chan ch).cause = 4 else (n.chan
      ch).st = .retryWait ∧ (n.chan ch).used = (b.chan ch).used + 1 ∧ (n.chan ch).burstAt = b.clk.lt ∧ (n.chan ch).out =
      {}))
  ∧ (∀ (t : Nat) (ch : Fin 128) (ma : Int), Effect t (.currentLimitTrip t ch ma) (fun b => (b.chan ch).st = .inrush ∧
      b.inrIlimMa ch ≤ ma.natAbs ∧ (b.chan ch).burstAt + b.inrLimNs ch ≤ b.clk.lt ∧ b.inWindow ch = true) (fun b n =>
      (n.chan ch).st = .retryWait ∧ (n.chan ch).used = (b.chan ch).used ∧ (n.chan ch).exempt = satAdd 8 (b.chan
      ch).exempt 1))
  ∧ (∀ (t : Nat) (ch : Fin 128), Effect t (.retryWaitEnd t ch) (fun b => (b.chan ch).st = .retryWait ∧ (b.chan
      ch).burstAt + b.inrOffNs ch ≤ b.clk.lt) (fun b n => n.chan ch =
      { b.chan ch with st := .inrush, burstAt := b.clk.lt, out := ⟨.on, 0, 0⟩ }))
  ∧ (∀ (t : Nat) (ch : Fin 128) (ma : Int), Effect t (.inrushEnd t ch ma) (fun b => (b.chan ch).st = .inrush ∧ (b.chan
      ch).burstAt + 976562 ≤ b.clk.lt ∧ ma.natAbs < b.inrIlimMa ch ∧ (b.chan ch).lease ≠ .expired) (fun b n => (n.chan
      ch).st = (if (b.effCmd ch).1.mode = .pwm then .pwm else .on) ∧ (n.chan ch).out = ⟨.on, 0, 0⟩))
  ∧ (∀ (t : Nat) (ch : Fin 128) (ma : Int), Effect t (.inrushEnd t ch ma) (fun b => (b.chan ch).st = .inrush ∧ (b.chan
      ch).burstAt + 976562 ≤ b.clk.lt ∧ ma.natAbs < b.inrIlimMa ch ∧ (b.chan ch).lease = .expired) (fun _ n => (n.chan
      ch).st = .leaseSafe ∧ (n.chan ch).cause = 7))

/-- R69, R70: a bank below OFF_DV enters undervoltage hold, and every channel of it that conducts or waits between bursts
enters UV_HELD with cause 6; the settle timer runs from ON_DV upwards and restarts at a dip; at its end the channels
restart one at a time, STEP_US apart, and the last one ends the hold. -/
def Obligations.UndervoltageHold : Prop :=
  (∀ (t : Nat) (bank : Fin 4) (mv : Nat), Effect t (.uvOff t bank mv) (fun b => mv < b.offMv bank ∧ (b.lbank bank).uv
      = false) (fun b n => (n.lbank bank).uv = true ∧ (n.lbank bank).settling = none ∧ ∀ c : Fin 128, c.val / 32 =
      bank.val → ((b.chan c).conducting || (b.chan c).st == .retryWait) = true → (n.chan c).st = .uvHeld ∧ (n.chan
      c).cause = 6 ∧ (n.chan c).out = {}))
  ∧ (∀ (t : Nat) (bank : Fin 4) (mv : Nat), Effect t (.bankVoltageRecovered t bank mv) (fun b => (b.lbank bank).uv =
      true ∧ (b.lbank bank).stagger = false) (fun b n => (n.lbank bank).vnow = some mv ∧ (n.lbank bank).settling = if
      b.onMv bank ≤ mv then some ((b.lbank bank).settling.getD b.clk.lt) else none))
  ∧ (∀ (t : Nat) (bank : Fin 4), Effect t (.uvSettleEnd t bank) (fun b => (b.lbank bank).uv = true ∧ (b.lbank
      bank).settling.any (fun x => x + b.settleNs bank ≤ b.clk.lt) = true) (fun b n => (n.lbank bank).settling = none ∧
      (if (n.lbank bank).uv = true then (n.lbank bank).stagger = true ∧ (n.lbank bank).lastStep = b.clk.lt else (n.lbank
      bank).stagger = false)))
  ∧ (∀ (t : Nat) (bank : Fin 4), Effect t (.uvRestartStep t bank) (fun b => (b.lbank bank).uv = true ∧ (b.lbank
      bank).stagger = true ∧ (b.lbank bank).lastStep + b.stepNs bank ≤ b.clk.lt) (fun b n => if (n.lbank bank).uv = true
      then (n.lbank bank).stagger = true ∧ (n.lbank bank).lastStep = b.clk.lt else (n.lbank bank).stagger = false))

/-- R72: an off-state check covers every channel in OFF that has it enabled and whose load is not interrogated, or to be at once; it ends
after 2 ms of the running clock with OL_OFF set where the output reads 3.5 V or more, and cleared elsewhere. R74, R75: a channel in OFF at 8.0 V or more is BACKFED until it falls below 6.0 V.
R76: a channel in CLOSE_WAIT closes at the first sample that permits it, through INRUSH where that is enabled, and otherwise keeps waiting. R82: an acknowledgement opens a TRIPPED channel
when its condition holds, and is refused otherwise. R61: UNLOCK
with its key by partition 0 ends the lockout and forgets the counted trips, and is refused to any other partition or key. -/
def Obligations.OpenLoadAndBackfeed : Prop :=
  (∀ (t : Nat), Effect t (.olOffCheckStart t) (fun b => b.load.clockOn = true ∧ b.load.steps ≠ 0 ∧ b.load.steps %
      1024 = 0) (fun b n => ∀ c : Fin 128, n.chan c = if (b.chan c).st = .off ∧ b.cfgB (R.LSC_PROT c) 12 = true ∧
      (b.lbank (c / 32)).interrog ≠ some c.val ∧ b.tagNext c = false then { b.chan c with olCheck := true } else b.chan
      c))
  ∧ (∀ (t : Nat), Effect t (.olOffCheckEnd t) (fun b => b.load.clockOn = true ∧ b.load.olAt + 2000000 ≤ b.clk.lt) (fun
      b n => ∀ c : Fin 128, if (b.chan c).olCheck = true then (n.chan c).olCheck = false ∧ ((n.chan c).olOff = true ↔
      350 ≤ signed 16 (b.regF (R.LSC_VOUT c) 15 0)) else n.chan c = b.chan c))
  ∧ (∀ (t : Nat) (ch : Fin 128) (vout : Int), Effect t (.backfedEntry t ch vout) (fun b => (b.chan ch).st = .off ∧ 800
      ≤ vout) (fun b n => (n.chan ch).st = .backfed ∧ (n.chan ch).cause = (b.chan ch).cause ∧ (n.chan ch).out = (b.chan
      ch).out ∧ n.regB (R.EVT_STATUS (lscPage ch)) 11 = true))
  ∧ (∀ (t : Nat) (ch : Fin 128) (vout : Int), Effect t (.backfedExit t ch vout) (fun b => (b.chan ch).st = .backfed ∧
      vout < 600) (fun b n => n.chan ch = { b.chan ch with st := .off }))
  ∧ (∀ (t : Nat) (ch : Fin 128) (vout : Int) (mv : Nat), Effect t (.closePermitted t ch vout mv) (fun b => (b.chan
      ch).closeWait = true ∧ vout * 10 ≤ (mv : Int) + 1000 ∧ (b.effCmd ch).1.mode = .on ∧ b.inrEn ch = false ∧ (b.chan
      ch).lease ≠ .expired ∧ (b.chan ch).st ≠ .pwm ∧ ((b.chan ch).st = .leaseSafe → (b.chan ch).safePending = false))
      (fun _ n => (n.chan ch).st = .on ∧ (n.chan ch).closeWait = false))
  ∧ (∀ (t : Nat) (ch : Fin 128) (vout : Int) (mv : Nat), Effect t (.closePermitted t ch vout mv) (fun b => (b.chan
      ch).closeWait = true ∧ vout * 10 ≤ (mv : Int) + 1000 ∧ b.wantsOn ch = true ∧ (b.chan ch).st = .off ∧ b.inrEn ch =
      true) (fun b n => (n.chan ch).st = .inrush ∧ (n.chan ch).used = 0 ∧ (n.chan ch).burstAt = b.clk.lt ∧ (n.chan
      ch).closeWait = false))
  ∧ (∀ (t : Nat) (ch : Fin 128) (vout : Int) (mv : Nat), Effect t (.closePermitted t ch vout mv) (fun _ => (mv : Int) +
      1000 < vout * 10) (fun b n => n.chan ch = b.chan ch))
  ∧ (∀ (a : Acc) (ch : Fin 128), WriteEffect a (R.LSC_TRIP_ACK ch) (.tripAck a ch) (fun b => (b.chan ch).st = .tripped)
      (fun b n => n.chan ch = if b.ackOk ch then { b.chan ch with st := .off, ackRefused := false } else
      { b.chan ch with ackRefused := true }))
  ∧ (∀ (a : Acc) (ch : Fin 128) (key : Byte), WriteEffect a (R.LSC_TRIP_ACK ch) (.unlock a ch key) (fun _ => True) (fun
      b n => n.chan ch = if State.accPart a = 0 ∧ key = 0x5A then { b.chan ch with lockout := false, scTrips := [] }
      else { b.chan ch with ackRefused := true }))

/-- R58, R62: while the load-stage clock runs, a model step counts, shows the mean current of every channel in LSC_IMEAS, and takes the rise of every channel's wire model one step
on, by the configuration in force. R79: a feed with AUTO_RESTORE restores one of the channels it shed at a time. R59, R64, R96: the stopped clock starts,
for a commit or for what needs it, with every rise cooled and all generators together. R72, R334: it stops after 1,000 ms without need,
which abandons the off-state checks under way. -/
def Obligations.ModelSteps : Prop :=
  (∀ (t : Nat) (chans : List ChanSample) (banks : List BankSample), Effect t (.modelStep t chans banks) (fun b =>
      b.load.clockOn = true) (fun b n => n.load.steps = b.load.steps + 1 ∧ ∀ c : Fin 128, n.reg (R.LSC_IMEAS c) = word
      (unsigned 32 (sampleOf chans c 0).meanMa) ∧ (n.chan c).rise = riseStep (b.chan c).rise (b.cfgF (R.LSC_WIRE_K c) 19
      0) (sampleOf chans c 0).isq (b.cfgF (R.LSC_WIRE_T c) 11 0)))
  ∧ (∀ (t : Nat) (feed : Fin 2), Effect t (.feedRestoreStep t feed) (fun b => b.cfgB (R.LSB_FEED_CFG (2 * feed)) 31 =
      true ∧ ((b.feedSt feed).restoring = false ∨ (b.feedSt feed).lastRestore + b.stepNs (2 * feed) ≤ b.clk.lt) ∧
      b.restoreList feed ≠ []) (fun b n => (n.feedSt feed).lastRestore = b.clk.lt ∧ (n.feedSt feed).restoring = decide
      (1 < (b.restoreList feed).length)))
  ∧ (∀ (t : Nat), Effect t (.lsClockStart t) (fun b => b.load.clockOn = false ∧ (b.load.startOwed.isSome ||
      b.clockNeeded) = true) (fun b n => n.load.clockOn = true ∧ n.load.clockAt = b.clk.lt ∧ n.load.steps = 0 ∧ (∀ g :
      Fin 16, (n.pgenSt g).cycle = 0 ∧ (n.pgenSt g).start = b.clk.lt) ∧ (∀ c : Fin 128, (n.chan c).rise = decay (b.chan
      c).rise (b.clk.lt - b.load.clockAt) (b.regF (R.LSC_WIRE_T c) 11 0))))
  ∧ (∀ (t : Nat), Effect t (.lsClockStop t) (fun b => b.load.clockOn = true ∧ b.clockNeeded = false ∧ b.load.neededAt +
      1000000000 ≤ b.clk.lt) (fun b n => n.load =
      { b.load with clockOn := false, clockAt := b.clk.lt, chans := b.load.chans.map (fun x => (x.1, { x.2 with olCheck := false })) }
      ∧ n.regB (R.EVT_STATUS 6) 1 = true))

/-- R86, R89, R90: at a load-stage edge a channel opens when its effective command is OFF and closes when it is ON. R92, R93,
R95: at a boundary of its generator the committed period applies and the start is recorded, and a pulse edge follows the
pulses. R97 to R101: a lease tick counts every RUNNING lease down; one at 0 expires; renewals and rearms are kept for the
next 32.768 kHz edge. -/
def Obligations.OutputCommands : Prop :=
  (∀ (t : Nat) (ch : Fin 128), Effect t (.outputSwitch t ch) (fun b => b.load.clockOn = true ∧ (b.chan ch).st = .on ∧
      (b.chan ch).renewals = [] ∧ (b.chan ch).lease ≠ .expired ∧ (b.effCmd ch).1.mode = .off) (fun _ n => (n.chan ch).st
      = .off ∧ (n.chan ch).out = {}))
  ∧ (∀ (t : Nat) (ch : Fin 128), Effect t (.outputSwitch t ch) (fun b => b.load.clockOn = true ∧ (b.chan ch).st = .off
      ∧ (b.chan ch).renewals = [] ∧ (b.chan ch).lease = .running ∧ (b.effCmd ch).1.mode = .on ∧ b.inrEn ch = false ∧
      b.closeOk ch = true) (fun b n => (n.chan ch).st = .on ∧ (n.chan ch).out = (b.effCmd ch).1 ∧ (n.chan ch).closedAt =
      b.clk.lt))
  ∧ (∀ (t : Nat) (gen : Fin 16), Effect t (.pgenPeriodBoundary t gen) (fun b => b.load.clockOn = true ∧ (b.pgenSt
      gen).cycle + (b.pgenSt gen).period ≤ b.cycleAt b.clk.lt) (fun b n => n.pgenSt gen =
      { cycle := (b.pgenSt gen).cycle + (b.pgenSt gen).period, period := if (b.pgenSt gen).dirty = true ∧ b.cfgStale = false then b.pgenPeriod gen else (b.pgenSt gen).period, dirty := (b.pgenSt gen).dirty && b.cfgStale, start := b.clk.lt }))
  ∧ (∀ (t : Nat) (ch : Fin 128), Effect t (.pwmPulseEdge t ch) (fun b => b.load.clockOn = true ∧ (b.chan ch).out.mode =
      .pwm) (fun b n => n.chan ch =
      { b.chan ch with pulses := (b.chan ch).pulses.filter (fun p => b.cycleAt b.clk.lt < p.2), pulseOn := pulseRuns (b.chan ch).pulses (b.cycleAt b.clk.lt) }))
  ∧ (∀ (t : Nat), Effect t (.leaseTick t) (fun _ => True) (fun b n => n.load.leaseTick = b.load.leaseTick + 1 ∧ ∀ c :
      Fin 128, (b.chan c).renewals = [] → n.chan c = if (b.chan c).lease = .running then
      { b.chan c with left := (b.chan c).left - 1 } else b.chan c))
  ∧ (∀ (t : Nat), Effect t (.leaseTick t) (fun _ => True) (fun b n => ∀ c : Fin 128, ∀ r : Renewal, (b.chan c).renewals
      = [r] → n.chan c = if r.rearm = true ∨ (r.src = 2 ∧ (b.chan c).lease = .expired ∧ b.regB (R.LSC_LEASE c) 21 =
      true) then
      { b.chan c with renewals := [], renewRefused := false, lease := .running, lastSrc := r.src, left := b.leaseTicks c - 1 }
      else if b.regB (R.LSC_LEASE c) (17 + r.src) = true ∧ (b.chan c).lease ≠ .expired then
      { b.chan c with renewals := [], lease := .running, lastSrc := r.src, left := b.leaseTicks c - 1 } else if (b.chan
      c).lease = .expired ∧ (r.src = 1 ∨ b.regB (R.LSC_LEASE c) (17 + r.src) = true) then
      { b.chan c with renewals := [], renewRefused := true } else if r.src = 1 then
      { b.chan c with renewals := [], renewRefused := true, left := if (b.chan c).lease = .running then (b.chan c).left - 1 else (b.chan c).left }
      else
      { b.chan c with renewals := [], left := if (b.chan c).lease = .running then (b.chan c).left - 1 else (b.chan c).left }))
  ∧ (∀ (t : Nat) (ch : Fin 128), Effect t (.leaseExpiry t ch) (fun b => (b.chan ch).lease = .running ∧ (b.chan ch).left
      = 0) (fun _ n => (n.chan ch).lease = .expired))
  ∧ (∀ (t : Nat) (ch : Fin 128), Effect t (.leaseExpiry t ch) (fun b => (b.chan ch).lease = .running ∧ (b.chan ch).left
      = 0 ∧ (b.chan ch).st = .on ∧ b.cfgInvalid ch = false ∧ b.regF (R.LSC_LEASE ch) 17 16 = 0) (fun _ n => (n.chan
      ch).st = .leaseSafe ∧ (n.chan ch).cause = 7 ∧ (n.chan ch).out = {}))
  ∧ (∀ (a : Acc) (page : Fin 16) (mask : Byte), WriteEffect a (R.LSC_RENEW_MASK page) (.renew a page mask) (fun _ =>
      True) (fun b n => ∀ k : Fin 8, mask.toNat.testBit k = true → n.chan (8 * page + k) =
      { b.chan (8 * page + k) with renewals := (b.chan (8 * page + k)).renewals ++ [⟨b.clk.lt, 1, false⟩] }))
  ∧ (∀ (a : Acc) (page : Fin 16) (mask : Byte), WriteEffect a (R.LSC_RENEW_MASK page) (.rearm a page mask) (fun _ =>
      True) (fun b n => ∀ k : Fin 8, mask.toNat.testBit k = true → n.chan (8 * page + k) =
      { b.chan (8 * page + k) with renewals := (b.chan (8 * page + k)).renewals ++ [⟨b.clk.lt, 1, true⟩] }))

/-- R112, R113: a trigger leaves a pending interrogation; it starts at the lowest ready channel of a bank with none running,
with the request frame 0xA5, 0x01 and its CRC, and the period of LSC_ID_CFG is a trigger. R114, R115: a response whose SYNC began
in time ends TAGGED with its identity where it is valid; a wrong one waits for one of two retries, which start 5 ms later, and the third wrong one is
CRC_ERROR. No SYNC by 5.93 ms is NO_TAG, too much current before the request LOW_IMPEDANCE. Each end frees the bank. -/
def Obligations.TagInterrogation : Prop :=
  (∀ (a : Acc) (ch : Fin 128), WriteEffect a (R.LSC_ID_CMD ch) (.interrogate a ch) (fun _ => True) (fun b n => n.chan
      ch = { b.chan ch with tagPending := true }))
  ∧ (∀ (t : Nat) (ch : Fin 128), Effect t (.tagPeriodExpiry t ch) (fun b => b.regF (R.LSC_ID_CFG ch) 23 16 ≠ 0 ∧ b.regB
      (R.LSC_ID_CFG ch) 1 = true ∧ (b.chan ch).lastInterrog + b.regF (R.LSC_ID_CFG ch) 23 16 * 1000000000 ≤ b.clk.lt)
      (fun b n => n.chan ch = { b.chan ch with tagPending := true }))
  ∧ (∀ (t : Nat) (ch : Fin 128), Effect t (.tagInterrogationStart t ch) (fun b => (b.lbank (ch / 32)).interrog = none ∧
      b.tagReady ch = true ∧ (List.range (ch % 32)).any (fun k => b.tagReady (ch / 32 * 32 + k)) = false) (fun b n =>
      (n.lbank (ch / 32)).interrog = some ch.val ∧ n.chan ch =
      { b.chan ch with tagPending := false, tagState := .busy, tagAttempts := 1, tagAt := b.clk.lt, tagRetry := false, tagTx := [0xA5, 0x01, 0x5E], lastInterrog := b.clk.lt }))
  ∧ (∀ (t : Nat) (ch : Fin 128) (frame : List Byte) (id type : Nat), Effect t (.tagResponse t ch frame) (fun b =>
      b.tagBusy ch = true ∧ tagFrame frame = some (id, type) ∧ (b.chan ch).tagAt + 18601562 ≤ b.clk.lt ∧ b.clk.lt ≤
      (b.chan ch).tagAt + 19601563) (fun _ n => (n.chan ch).tagState = .tagged ∧ n.reg (R.LSC_ID_TAG_LO ch) = lowWord id
      ∧ n.reg (R.LSC_ID_TAG_HI ch) = highWord id ∧ n.regF (R.LSC_ID_STATUS ch) 31 16 = type ∧ (n.lbank (ch /
      32)).interrog = none))
  ∧ (∀ (t : Nat) (ch : Fin 128) (frame : List Byte), Effect t (.tagResponse t ch frame) (fun b => b.tagBusy ch = true ∧
      tagFrame frame = none ∧ (b.chan ch).tagAt + tagListenAt + frame.length * 8 * 1000000000 / 8192 ≤ b.clk.lt ∧
      b.clk.lt ≤ (b.chan ch).tagAt + tagSyncBy + frame.length * 8 * 1000000000 / 8192) (fun b n => if (b.chan
      ch).tagAttempts < 3 then n.chan ch = { b.chan ch with tagRetry := true, tagAt := b.clk.lt, tagTx := [] } else
      (n.chan ch).tagState = .crcError ∧ (n.lbank (ch / 32)).interrog = none ∧ n.regB (R.EVT_STATUS ledgPage) 3 = true))
  ∧ (∀ (t : Nat) (ch : Fin 128), Effect t (.tagNoResponse t ch) (fun b => b.tagBusy ch = true ∧ (b.chan ch).tagAt +
      tagSyncBy ≤ b.clk.lt) (fun _ n => (n.chan ch).tagState = .noTag ∧ (n.lbank (ch / 32)).interrog = none))
  ∧ (∀ (t : Nat) (ch : Fin 128), Effect t (.tagLowImpedance t ch) (fun b => b.tagBusy ch = true ∧ b.clk.lt ≤ (b.chan
      ch).tagAt + 2000000) (fun b n => n.chan ch =
      { b.chan ch with tagState := .lowImpedance, tagAttempts := 0, tagRetry := false, tagTx := [] } ∧ (n.lbank (ch /
      32)).interrog = none))
  ∧ (∀ (t : Nat) (ch : Fin 128), Effect t (.tagRetry t ch) (fun b => (b.chan ch).tagRetry = true ∧ (b.chan ch).tagAt +
      5000000 ≤ b.clk.lt) (fun b n => n.chan ch =
      { b.chan ch with tagState := .busy, tagRetry := false, tagAttempts := (b.chan ch).tagAttempts + 1, tagAt := b.clk.lt, tagTx := [0xA5, 0x01, 0x5E] }))

/-- R117 to R124: ACCEPT replaces the load of a live record, with the next load number and one more closed record in the
ring; START ends the restore and FLUSH journals what has changed, with the next sequence number when its packet is taken;
every 1,024 model steps the live records take their counts, and each period they are journalled; the decay of an opening that is due one is
shown in LSC_ID_SIG2 and ends its measurement; once per second unit 1 hands the counts of its shared loads over, and the keeper takes them. -/
def Obligations.Ledger : Prop :=
  (∀ (a : Acc) (ch : Fin 128), WriteEffect a (R.LSC_ID_CMD ch) (.accept a ch) (fun b => b.load.ledgRun = true ∧
      b.recLive ch = true) (fun b n => (n.chan ch).matchSt = .replaced ∧ n.load.loadNo = (b.load.loadNo + 1) % 2 ^ 32 ∧
      n.recF ch 4 4 = n.load.loadNo ∧ n.recLive ch = true ∧ n.load.histCount = min 3968 (b.load.histCount + 1) ∧
      n.load.histNext = (if b.load.histNext = 4095 then 128 else b.load.histNext + 1)))
  ∧ (∀ (a : Acc) , WriteEffect a (R.LEDG_CMD) (.start a) (fun b => b.load.ledgRestore = true) (fun b n =>
      n.load.ledgRestore = false ∧ n.load.ledgRun = true ∧ n.load.lastJournal = b.clk.lt ∧ n.load.ledgAt = b.load.steps))
  ∧ (∀ (a : Acc) (r : Nat), WriteEffect a (R.LEDG_CMD) (.flush a) (fun b => b.load.ledgRun = true ∧ b.load.dirtyRecs =
      [r]) (fun b n => (n.load.dirtyRecs = [] ∧ n.load.ledgSeq = (if b.load.ledgSeq = 0xFFFFFFFF then 1 else
      b.load.ledgSeq + 1)) ∨ (n.load.dirtyRecs = [r] ∧ n.load.ledgSeq = b.load.ledgSeq)))
  ∧ (∀ (t : Nat), Effect t (.ledgerUpdate t) (fun b => b.load.ledgRun = true ∧ (if b.load.steps < b.load.ledgAt then 0
      else b.load.ledgAt) + 1024 ≤ b.load.steps) (fun b n => n.load.ledgAt = b.load.steps ∧ ∀ c : Fin 128, b.recLive c =
      true → b.sharedLoad c = false → n.recF c 0x40 8 = (b.recF c 0x40 8 + (b.chan c).acc.samples) % 2 ^ 64 ∧ (n.chan
      c).acc.samples = 0))
  ∧ (∀ (t : Nat), Effect t (.journalPeriod t) (fun b => b.load.ledgRun = true ∧ b.load.lastJournal + max 1 (b.regF
      R.LEDG_CFG 7 0) * 1000000000 ≤ b.clk.lt) (fun b n => n.load.lastJournal = b.clk.lt ∧ (b.load.dirtyRecs = [] →
      n.pool = b.pool ∧ n.load.ledgSeq = b.load.ledgSeq)))
  ∧ (∀ (t : Nat) (keeperNo : List (Fin 128 × Nat)), Effect t (.ledgerPeerSend t keeperNo) (fun b => b.hw.unitId = 1 ∧
      b.load.ledgRun = true ∧ b.syncNs / 1000000000 ≠ b.load.peerSecond) (fun b n => n.load.peerSecond = b.syncNs /
      1000000000 ∧ n.load.ledgSeq = b.load.ledgSeq ∧ n.load.peerOut = ((List.finRange 128).filter (fun c => b.sharedLoad
      c.val && b.recLive c.val)).flatMap (fun c => b.peerCounts c.val (b.syncNs / 1000000000 * 1024)) ∧ ∀ c : Fin 128,
      b.sharedLoad c = true → b.recLive c = true → (n.chan c).acc = {} ∧ (n.chan c).outage = {}))
  ∧ (∀ (t : Nat) (m : PeerCounts), Effect t (.ledgerPeerReceive t m.to_ m.fed m.energyMj m.trips m.outage m.from_
      m.samples m.closings m.loadNo m.replaced) (fun b => b.hw.unitId = 0 ∧ b.load.ledgRun = true ∧ b.sharedLoad m.to_ =
      true ∧ b.recLive m.to_ = true ∧ b.regF (R.LSC_ID_CFG m.to_) 30 24 = m.from_ ∧ m.replaced = 0) (fun b n => (n.chan
      m.to_).stepFed = (if m.outage then (b.chan m.to_).stepFed else (b.chan m.to_).stepFed.filter (fun x => b.syncNs /
      1000000000 * 1024 ≤ x.1)) ∧ (n.chan m.to_).acc.energyMj = (b.chan m.to_).acc.energyMj - (b.chan
      m.to_).acc.energyMj % 3600000 + ((b.chan m.to_).acc.energyMj % 3600000 + m.energyMj) % 3600000 ∧ n.recF m.to_ 0x6C
      4 = m.loadNo % 2 ^ 32 ∧ (m.outage = true → n.recFlag m.to_ 5 = true ∧ n.regB (R.EVT_STATUS ledgPage) 5 = true)))
  ∧ (∀ (t : Nat) (ch : Fin 128) (decayUs : Nat) (ma : Int), Effect t (.inductiveDecayEnd t ch decayUs ma) (fun b =>
      b.regB (R.LSC_ID_CFG ch) 0 = true ∧ (b.chan ch).decayDue = true ∧ chRating ch ≤ ma.natAbs * 100) (fun _ n => n.reg
      (R.LSC_ID_SIG2 ch) = word (min decayUs 0xFFFFF) ∧ (n.chan ch).taken = [] ∧ (n.chan ch).decayDue = false))

/-- R129 to R131: the first conversion of a period of an input's timer filters the count, unless it is the first after a
change, gives the value of its mode (a ratio to the voltage of its supply, where that is not 0), and its window flags follow the limits with
their hysteresis; an overload of a current loop disconnects its burden for 1 s. R133, R134: the first poll after a change of polarity loads the
state, and a reading that differs for the debounce count becomes it. R138: an enabled wake input takes the level of its edge, and wakes on the
edges it selects. -/
def Obligations.AnalogAndDigitalInputs : Prop :=
  (∀ (t : Nat) (k : Fin 64) (raw : Fin 16384) (supplies : List SupplyMeas), Effect t (.ainSample t k raw supplies)
      (fun b => b.ainMode k ≠ 0 ∧ b.inputsRun = true ∧ (b.ain k).burdenOff = none ∧ (b.ain k).due ≤ b.clk.lt) (fun b n
      => (n.ain k).y = (if (b.ain k).fresh then raw.val * 256 else filterStep (b.ain k).y raw (b.regF (R.AIN_CFG k) 10
      8)) ∧ (n.ain k).fresh = false ∧ (n.ain k).stale = false ∧ (n.ain k).below = (if (n.ain k).value < b.regF
      (R.AIN_LIM k) 15 0 then true else if b.regF (R.AIN_LIM k) 15 0 + b.regF (R.AIN_CFG k) 23 16 ≤ (n.ain k).value then
      false else (b.ain k).below) ∧ (n.ain k).above = (if b.regF (R.AIN_LIM k) 31 16 < (n.ain k).value then true else if
      (n.ain k).value + b.regF (R.AIN_CFG k) 23 16 ≤ b.regF (R.AIN_LIM k) 31 16 then false else (b.ain k).above)))
  ∧ (∀ (t : Nat) (k : Fin 64) (raw : Fin 16384) (supplies : List SupplyMeas), Effect t (.ainSample t k raw supplies)
      (fun b => b.ainMode k = 1 ∧ b.ainSupply k = none ∧ b.inputsRun = true ∧ (b.ain k).burdenOff = none ∧ (b.ain k).due
      ≤ b.clk.lt) (fun _ n => (n.ain k).value = (n.ain k).y / 256 * 32000 / 16384))
  ∧ (∀ (t : Nat) (k : Fin 64) (raw : Fin 16384) (supplies : List SupplyMeas), Effect t (.ainSample t k raw supplies)
      (fun b => b.ainMode k = 2 ∧ b.inputsRun = true ∧ (b.ain k).burdenOff = none ∧ (b.ain k).due ≤ b.clk.lt) (fun _ n
      => (n.ain k).value = (if 4950 * 16384 ≤ (n.ain k).y / 256 * 5000 then 65535 else min 65534 (2490 * ((n.ain k).y /
      256) / (16384 - (n.ain k).y / 256)))))
  ∧ (∀ (t : Nat) (k : Fin 64) (raw : Fin 16384) (supplies : List SupplyMeas), Effect t (.ainSample t k raw supplies)
      (fun b => b.ainMode k = 3 ∧ b.inputsRun = true ∧ (b.ain k).burdenOff = none ∧ (b.ain k).due ≤ b.clk.lt) (fun _ n
      => (n.ain k).value = (n.ain k).y / 256 * 40000 / 16384))
  ∧ (∀ (t : Nat) (k : Fin 64) (raw : Fin 16384) (supplies : List SupplyMeas) (x : Nat), Effect t (.ainSample t k raw
      supplies) (fun b => b.ainMode k = 1 ∧ b.ainSupply k = some x ∧ b.inputsRun = true ∧ (b.ain k).burdenOff = none ∧
      (b.ain k).due ≤ b.clk.lt) (fun _ n => n.regF (R.SSUP_MEAS x) 15 0 ≠ 0 → (n.ain k).value = min 10000 (10000 *
      ((n.ain k).y / 256) * 32000 / (16384 * n.regF (R.SSUP_MEAS x) 15 0))))
  ∧ (∀ (t : Nat) (k : Fin 64), Effect t (.ainOverload t k) (fun b => b.ainMode k = 3 ∧ b.inputsRun = true ∧ (b.ain
      k).burdenOff = none) (fun b n => n.ain k = { b.ain k with burdenOff := some b.clk.lt, overload := true } ∧ n.reg
      (R.EVT_STATUS (33 + k / 16)) = setBit (b.reg (R.EVT_STATUS (33 + k / 16))) 1 true))
  ∧ (∀ (t : Nat) (k : Fin 64), Effect t (.ainBurdenReconnect t k) (fun b => (b.ain k).burdenOff.any (fun x => x +
      1000000000 ≤ b.clk.lt) = true) (fun b n => n.ain k = { b.ain k with burdenOff := none }))
  ∧ (∀ (t : Nat) (k : Fin 96) (mv : Nat), Effect t (.dinPoll t k mv) (fun b => b.dinPolled k = true ∧ (b.din k).due ≤
      b.clk.lt) (fun b n => (n.din k).reading = b.dinReading k mv ∧ (n.din k).load = false ∧ (if (b.din k).load = true ∨
      b.dinReading k mv = (b.din k).state ∨ max 1 (b.regF (R.DIN_TIMING (k / 24)) 11 8) ≤ (b.din k).count + 1 then
      (n.din k).state = b.dinReading k mv ∧ (n.din k).count = 0 else (n.din k).state = (b.din k).state ∧ (n.din k).count
      = (b.din k).count + 1) ∧ (n.din k).edge = ((b.din k).edge || (!(b.din k).load && b.dinReading k mv != (b.din
      k).state && decide (max 1 (b.regF (R.DIN_TIMING (k / 24)) 11 8) ≤ (b.din k).count + 1) && b.regB (if b.dinReading
      k mv then R.DIN_RISE_EN (k / 24) else R.DIN_FALL_EN (k / 24)) (k % 24)))))
  ∧ (∀ (t : Nat) (k : Fin 4) (level : Bool), Effect t (.wakeInputEdge t k level) (fun b => b.regB (R.WIN_CFG k) 0 =
      true ∧ (b.win k).level ≠ level) (fun b n => (n.win k).level = level ∧ (n.win k).woke = ((b.win k).woke || (if
      level then b.regF (R.WIN_CFG k) 2 1 != 1 else b.regF (R.WIN_CFG k) 2 1 != 0)) ∧ ((if level then b.regF (R.WIN_CFG
      k) 2 1 != 1 else b.regF (R.WIN_CFG k) 2 1 != 0) = true → n.regB (R.EVT_STATUS (33 + k)) 5 = true)))

/-- R136: every edge of an enabled frequency input counts, unless its pulse or the low time before it is shorter than GLITCH_US; a gate of
GATE_MS ends with the frequency of its edges, or, with fewer than two, keeps the last one; silence for the stall time is a stall. R137: an overload
or a back-feed turns a supply off with a fault; it starts again by its retry, or by a write to SSUP_STAT.FAULT without one. -/
def Obligations.FrequencyAndSupplies : Prop :=
  (∀ (t : Nat) (k : Fin 16) (high low pulse : Nat), Effect t (.finEdge t k high low pulse) (fun b => b.finMode k ≠ 0
      ∧ b.inputsRun = true ∧ b.regF (R.FIN_CFG k) 28 24 * 1000 ≤ pulse ∧ b.regF (R.FIN_CFG k) 28 24 * 1000 ≤ low) (fun b
      n => (n.fin k).count = ((b.fin k).count + 1) % 2 ^ 32 ∧ (n.fin k).lastEdge = b.clk.lt ∧ (n.fin k).freq = (b.fin
      k).freq ∧ (b.finMode k ≠ 3 → (n.fin k).last = some b.clk.lt ∧ (n.fin k).edges = (b.fin k).edges + 1)))
  ∧ (∀ (t : Nat) (k : Fin 16) (high low pulse : Nat), Effect t (.finEdge t k high low pulse) (fun b => pulse < b.regF
      (R.FIN_CFG k) 28 24 * 1000 ∨ low < b.regF (R.FIN_CFG k) 28 24 * 1000) (fun b n => n.fin k = b.fin k))
  ∧ (∀ (t : Nat) (k : Fin 16) (first last : Nat), Effect t (.finGateEnd t k) (fun b => (b.finMode k = 1 ∨ b.finMode k =
      2) ∧ b.inputsRun = true ∧ (b.fin k).gateAt + max 1 (b.regF (R.FIN_CFG k) 15 8) * 1000000 ≤ b.clk.lt ∧ 2 ≤ (b.fin
      k).edges ∧ (b.fin k).first = some first ∧ (b.fin k).last = some last ∧ first < last) (fun b n => (n.fin k).freq =
      min (((b.fin k).edges - 1) * 10 ^ 12 / (last - first)) (2 ^ 32 - 1) ∧ (b.finMode k = 2 → (n.fin k).duty = min 1000
      ((b.fin k).high * 1000 / (last - first))) ∧ (n.fin k).edges = 0 ∧ (n.fin k).first = none ∧ (n.fin k).gateAt =
      b.clk.lt ∧ (n.fin k).count = (b.fin k).count))
  ∧ (∀ (t : Nat) (k : Fin 16), Effect t (.finGateEnd t k) (fun b => (b.finMode k = 1 ∨ b.finMode k = 2) ∧ b.inputsRun =
      true ∧ (b.fin k).gateAt + max 1 (b.regF (R.FIN_CFG k) 15 8) * 1000000 ≤ b.clk.lt ∧ (b.fin k).edges < 2) (fun b n
      => n.fin k = { b.fin k with first := none, last := none, edges := 0, high := 0, gateAt := b.clk.lt }))
  ∧ (∀ (t : Nat) (k : Fin 16), Effect t (.finStall t k) (fun b => b.finMode k ≠ 0 ∧ b.inputsRun = true ∧ (b.fin
      k).stalled = false ∧ (b.fin k).lastEdge + max 1 (b.regF (R.FIN_CFG k) 23 16) * 10000000 ≤ b.clk.lt) (fun b n =>
      n.fin k = { b.fin k with freq := 0, duty := 0, stalled := true, running := false }))
  ∧ (∀ (t : Nat) (k : Fin 8), Effect t (.ssupOverload t k) (fun b => b.ssupOn k = true) (fun b n => n.ssup k =
      { b.ssup k with on := false, fault := true, backfed := false, overload := true, undervolt := false, since := b.clk.lt }))
  ∧ (∀ (t : Nat) (k : Fin 8), Effect t (.ssupBackfed t k) (fun b => b.ssupOn k = true) (fun b n => n.ssup k =
      { b.ssup k with on := false, fault := true, backfed := true, overload := false, undervolt := false, since := b.clk.lt }))
  ∧ (∀ (t : Nat) (k : Fin 8) (below : Bool), Effect t (.ssupUndervolt t k below) (fun _ => True) (fun b n => n.ssup k =
      { b.ssup k with undervolt := below && b.ssupOn k }))
  ∧ (∀ (t : Nat) (k : Fin 8), Effect t (.ssupRetry t k) (fun b => (b.ssup k).fault = true ∧ b.regB (R.SSUP_CFG k) 0 =
      true ∧ b.regB (R.SSUP_CFG k) 2 = true ∧ (b.ssup k).since + max 1 (b.regF (R.SSUP_CFG k) 15 8) * 100000000 ≤
      b.clk.lt) (fun b n => n.ssup k = { b.ssup k with on := true, fault := false }))
  ∧ (∀ (a : Acc) (k : Fin 8), WriteEffect a (R.SSUP_STAT k) (.ssupFaultRestart a k) (fun b => (b.ssup k).fault = true ∧
      b.regB (R.SSUP_CFG k) 0 = true ∧ b.regB (R.SSUP_CFG k) 2 = false) (fun b n => n.ssup k =
      { b.ssup k with on := true, fault := false }))

/-- R150, R151, R152, R157, R165: REQ makes an idle transmit buffer TX_PENDING, or TX_FAILED where the configuration cannot send its frame, and is
a bus error that changes nothing while the page is not ACTIVE; CANCEL makes a pending one TX_CANCELLED with its SEQ one up, and one on the bus
waits for its end; RELEASE empties a receive buffer. A launch time that is reached makes a pending buffer eligible; one that is late fails it.
CANCEL of the stream while it is on the bus waits for its end. -/
def Obligations.MessageBufferCommands : Prop :=
  (∀ (a : Acc) (ch : Fin 12) (mb : Fin 128), Effect a.t (.req a ch mb) (fun b => ((a.req.val == 19 && !b.sec.svcOpen)
      || (State.accPart a != 0 && b.mbOwner ch mb != State.accPart a)) = false ∧ b.pageActive (37 + ch) = true ∧ (b.mb
      ch mb).code.isIdle = true ∧ mbRefused b ch (b.mb ch mb).words = false ∧ (b.mb ch mb).launch = none) (fun b n =>
      n.resp = .ok 0 ∧ n.mb ch mb =
      { b.mb ch mb with code := .txPending, cancelLate := false, launchLate := false, attempts := 0, eligible := true }))
  ∧ (∀ (a : Acc) (ch : Fin 12) (mb : Fin 128), Effect a.t (.req a ch mb) (fun b => ((a.req.val == 19 && !b.sec.svcOpen)
      || (State.accPart a != 0 && b.mbOwner ch mb != State.accPart a)) = false ∧ b.pageActive (37 + ch) = true ∧ (b.mb
      ch mb).code.isIdle = true ∧ mbRefused b ch (b.mb ch mb).words = true ∧ (b.mb ch mb).newDir = none) (fun b n =>
      n.resp = .ok 0 ∧ (n.mb ch mb).code = .txFailed ∧ (n.mb ch mb).seq = ((b.mb ch mb).seq + 1) % 65536))
  ∧ (∀ (a : Acc) (ch : Fin 12) (mb : Fin 128), Effect a.t (.req a ch mb) (fun b => ((a.req.val == 19 && !b.sec.svcOpen)
      || (State.accPart a != 0 && b.mbOwner ch mb != State.accPart a)) = false ∧ b.pageActive (37 + ch) = false) (fun b
      n => n.resp = .busError .refused ∧ n.mb ch mb = b.mb ch mb))
  ∧ (∀ (a : Acc) (ch : Fin 12) (mb : Fin 128), Effect a.t (.mbCancel a ch mb) (fun b => ((a.req.val == 19 &&
      !b.sec.svcOpen) || (State.accPart a != 0 && b.mbOwner ch mb != State.accPart a)) = false ∧ (b.mb ch mb).code =
      .txActive) (fun b n => n.resp = .ok 0 ∧ n.mb ch mb = { b.mb ch mb with cancelPending := true }))
  ∧ (∀ (a : Acc) (ch : Fin 12) (mb : Fin 128), Effect a.t (.mbCancel a ch mb) (fun b => ((a.req.val == 19 &&
      !b.sec.svcOpen) || (State.accPart a != 0 && b.mbOwner ch mb != State.accPart a)) = false ∧ (b.mb ch mb).code =
      .txPending ∧ (b.mb ch mb).newDir = none) (fun b n => n.resp = .ok 0 ∧ n.mb ch mb =
      { b.mb ch mb with code := .txCancelled, seq := ((b.mb ch mb).seq + 1) % 65536, cancelPending := false, eligible := false }))
  ∧ (∀ (a : Acc) (ch : Fin 12) (mb : Fin 128), Effect a.t (.release a ch mb) (fun b => ((a.req.val == 19 &&
      !b.sec.svcOpen) || (State.accPart a != 0 && b.mbOwner ch mb != State.accPart a)) = false ∧ (b.mb ch mb).code =
      .rxFull) (fun b n => n.resp = .ok 0 ∧ n.mb ch mb = { b.mb ch mb with code := .rxEmpty, overrun := false }))
  ∧ (∀ (t : Nat) (ch : Fin 12) (mb : Fin 128) (at_ : Nat) (sync : Bool), Effect t (.canLaunchEligible t ch mb) (fun b
      => (b.mb ch mb).launch = some (at_, sync) ∧ (b.mb ch mb).code = .txPending ∧ b.baseReached at_ sync = true) (fun b
      n => n.mb ch mb = { b.mb ch mb with eligible := true }))
  ∧ (∀ (t : Nat) (ch : Fin 12) (mb : Fin 128) (at_ : Nat) (sync : Bool), Effect t (.launchLate t ch mb) (fun b => (b.mb
      ch mb).launch = some (at_, sync) ∧ (b.mb ch mb).code = .txPending ∧ (b.mb ch mb).newDir = none ∧ b.launchLate ch
      at_ sync = true) (fun b n => (n.mb ch mb).code = .txFailed ∧ (n.mb ch mb).launchLate = true ∧ (n.mb ch mb).seq =
      ((b.mb ch mb).seq + 1) % 65536))
  ∧ (∀ (a : Acc) (ch : Fin 12), WriteEffect a (R.CAN_TXSCMD ch) (.txsCancel a ch) (fun b => (b.can ch).stream.code =
      .txActive) (fun b n => n.can ch = { b.can ch with stream := { (b.can ch).stream with cancelPending := true } }))

/-- R146: a committed configuration comes into effect between frames. R156, R157, R159: at start of frame the best eligible
buffer, or without one the stream head, goes onto the bus and is latched; after a good frame it is TX_DONE with its SEQ one up; after a lost arbitration
it contends again; after an error also, with one more attempt and TEC 8 up, unless that was its last try,
which is TX_FAILED. R145: a frame with delay compensation shows the delay measured in it. -/
def Obligations.CanTransmission : Prop :=
  (∀ (t : Nat) (ch : Fin 12), Effect t (.canConfigApply t ch) (fun b => (b.can ch).pendingCfg = true ∧ (b.can ch).tx
      = none) (fun b n => (n.can ch).ctrl = b.reg (R.CAN_CTRL ch) ∧ (n.can ch).nbt = b.reg (R.CAN_NBT ch) ∧ (n.can
      ch).dbt = b.reg (R.CAN_DBT ch) ∧ (n.can ch).tdc = b.reg (R.CAN_TDC ch) ∧ (n.can ch).pendingCfg = false ∧ ((b.can
      ch).mbs = [] → (n.can ch).mbs = [])))
  ∧ (∀ (t : Nat) (ch : Fin 12) (ecc : EccFound) (mb : Nat), Effect t (.canSof t ch ecc) (fun b => b.txsHead ch = none ∧
      b.canSends ch = true ∧ (b.can ch).tx = none ∧ b.mayStart (37 + ch) = true ∧ b.bestBuffer ch = some mb) (fun b n =>
      (n.can ch).tx = some ⟨.buffer mb, mbFrame (b.mb ch mb).words, b.sofStamp ch⟩ ∧ (n.mb ch mb).code = .txActive ∧
      (n.mb ch mb).seq = (b.mb ch mb).seq))
  ∧ (∀ (t : Nat) (ch : Fin 12) (ecc : EccFound) (q : Nat) (p : Packet), Effect t (.canSof t ch ecc) (fun b => b.txsHead
      ch = some (q, p) ∧ b.holdTx (b.pageOwner (canPage ch)) = false ∧ b.canSends ch = true ∧ (b.can ch).tx = none ∧
      b.mayStart (37 + ch) = true ∧ b.bestBuffer ch = none) (fun b n => (n.can ch).tx = some ⟨.stream q, packetFrame
      p.data, b.sofStamp ch⟩ ∧ (n.can ch).stream.code = .txActive))
  ∧ (∀ (t : Nat) (ch : Fin 12) (delay : Option (Fin 128)) (mb : Nat) (f : CanFrame) (stamp : Nat), Effect t (.canTxDone
      t ch delay) (fun b => (b.can ch).tx = some ⟨.buffer mb, f, stamp⟩ ∧ (b.can ch).mode ch = 1 ∧ (b.mb ch mb).held =
      none ∧ (b.mb ch mb).newDir = none) (fun b n => (n.can ch).tx = none ∧ (n.can ch).tec = min ((b.can ch).tec - 1)
      256 ∧ (n.mb ch mb).code = .txDone ∧ (n.mb ch mb).seq = ((b.mb ch mb).seq + 1) % 65536 ∧ (n.mb ch mb).cancelLate =
      (b.mb ch mb).cancelPending ∧ ∀ d : Fin 128, delay = some d → bit (b.can ch).tdc 31 = true → (f.fdf || f.xlf) =
      true → (n.can ch).tdcv = d.val))
  ∧ (∀ (t : Nat) (ch : Fin 12) (mb : Nat) (f : CanFrame) (stamp : Nat), Effect t (.canArbitrationLost t ch) (fun b =>
      (b.can ch).tx = some ⟨.buffer mb, f, stamp⟩ ∧ (b.mb ch mb).held = none ∧ (b.mb ch mb).cancelPending = false) (fun
      b n => (n.can ch).tx = none ∧ n.mb ch mb = { b.mb ch mb with code := .txPending }))
  ∧ (∀ (t : Nat) (ch : Fin 12) (lec : Fin 8) (dataPhase exempt : Bool) (delay : Option (Fin 128)) (mb : Nat) (f :
      CanFrame) (stamp : Nat), Effect t (.canTxError t ch lec dataPhase exempt delay) (fun b => (b.can ch).tx = some
      ⟨.buffer mb, f, stamp⟩ ∧ (b.mb ch mb).held = none ∧ (b.mb ch mb).cancelPending = false ∧ (b.can ch).lastTry (b.mb
      ch mb).attempts = false) (fun b n => (n.can ch).tx = none ∧ (n.mb ch mb).code = .txPending ∧ (n.mb ch mb).attempts
      = satAdd 8 (b.mb ch mb).attempts 1 ∧ (n.can ch).tec = (if exempt then (b.can ch).tec else min ((b.can ch).tec + 8)
      256)))
  ∧ (∀ (t : Nat) (ch : Fin 12) (lec : Fin 8) (dataPhase exempt : Bool) (delay : Option (Fin 128)) (mb : Nat) (f :
      CanFrame) (stamp : Nat), Effect t (.canTxError t ch lec dataPhase exempt delay) (fun b => (b.can ch).tx = some
      ⟨.buffer mb, f, stamp⟩ ∧ (b.mb ch mb).held = none ∧ (b.mb ch mb).newDir = none ∧ (b.mb ch mb).cancelPending =
      false ∧ (b.can ch).lastTry (b.mb ch mb).attempts = true) (fun b n => (n.can ch).tx = none ∧ (n.mb ch mb).code =
      .txFailed ∧ (n.mb ch mb).seq = ((b.mb ch mb).seq + 1) % 65536))

/-- R151, R153: a frame that its filter entry sends to an empty receive buffer fills it and counts its SEQ; R159: a good
frame takes REC down, an error takes it 1 up, or 8 for a dominant bit after an error flag. R160: RECOVER starts the recovery from bus-off, which ends
after 128 times 11 bit times at the earliest with both counters 0. R163, R164: a wake pattern or frame sets WOKE; arming clears the stay-awake log. -/
def Obligations.CanReception : Prop :=
  (∀ (t : Nat) (ch : Fin 12) (frame : CanFrame) (stamp entry : Nat), Effect t (.canRxFrame t ch frame stamp) (fun b
      => b.canLive ch = true ∧ (b.can ch).mode ch = 1 ∧ (b.can ch).busOff = false ∧ b.canTakes ch frame = true ∧
      (List.range 256).find? (b.filterHits ch frame) = some entry ∧ fld (b.filterWord ch entry 2) 31 30 = 1 ∧ (b.mb ch
      (fld (b.filterWord ch entry 2) 6 0)).code = .rxEmpty ∧ frame.data.length ≤ 64) (fun b n => (n.mb ch (fld
      (b.filterWord ch entry 2) 6 0)).code = .rxFull ∧ (n.mb ch (fld (b.filterWord ch entry 2) 6 0)).seq = ((b.mb ch
      (fld (b.filterWord ch entry 2) 6 0)).seq + 1) % 65536 ∧ (n.mb ch (fld (b.filterWord ch entry 2) 6 0)).wordAt 8 =
      frame.idWord ∧ (n.can ch).rec' = (if (b.can ch).rec' = 0 then 0 else if (b.can ch).rec' ≤ 127 then (b.can ch).rec'
      - 1 else 120)))
  ∧ (∀ (t : Nat) (ch : Fin 12) (kind : CanRxErr) (lec : Fin 8) (dataPhase exempt : Bool), Effect t (.canRxError t ch
      kind lec dataPhase exempt) (fun b => b.canLive ch = true ∧ (b.can ch).confines ch = true ∧ (b.can ch).mode ch ≠ 4
      ∧ (kind ≠ .protocolException ∨ bit (b.can ch).ctrl 18 = false)) (fun b n => (n.can ch).rec' = (b.can ch).rec' +
      (if exempt then 0 else if kind = .dominantAfterFlag then 8 else 1) ∧ (n.can ch).mbs = (b.can ch).mbs ∧ n.regF
      (R.CAN_ERRINFO ch) 31 16 = satAdd 16 (b.regF (R.CAN_ERRINFO ch) 31 16) 1))
  ∧ (∀ (a : Acc) (ch : Fin 12), WriteEffect a (R.CAN_CMD ch) (.recover a ch) (fun b => (b.can ch).busOff = true ∧ bit
      (b.can ch).ctrl 19 = false ∧ (b.can ch).recovering = false) (fun b n => n.can ch =
      { b.can ch with recovering := true, recAt := b.clk.lt }))
  ∧ (∀ (t : Nat) (ch : Fin 12), Effect t (.busOffEnd t ch) (fun b => (b.can ch).busOff = true ∧ (b.can ch).recovering =
      true ∧ (b.can ch).recAt + canNs (128 * 11 * bitCycles (b.can ch).nbt) ≤ b.clk.lt) (fun b n => n.can ch =
      { b.can ch with busOff := false, recovering := false, tec := 0, rec' := 0, warn := false } ∧ n.regB (R.EVT_STATUS
      (canPage ch)) 6 = true))
  ∧ (∀ (t : Nat) (ch : Fin 12), Effect t (.canWakePattern t ch) (fun b => b.busAsleep = true ∧ b.regB (R.CAN_WAKE ch) 0
      = true ∧ (b.pwr.state = .dormant → b.regB (R.CAN_WAKE ch) 2 = true)) (fun _ n => (n.can ch).woke = true ∧ n.regB
      (R.EVT_STATUS (canPage ch)) 9 = true))
  ∧ (∀ (t : Nat) (ch : Fin 12) (frame : CanFrame), Effect t (.canWakeFrame t ch frame) (fun b => b.pwr.state = .park ∧
      ch.val < 8 ∧ b.regB (R.CAN_WAKE ch) 1 = true ∧ frame.fdf = false ∧ frame.xlf = false ∧ frame.id % 2 ^ 29 = fld
      (b.reg (R.CAN_WUF_ID ch)) 28 0 ∧ frame.ide = b.regB (R.CAN_WUF_ID ch) 29) (fun _ n => (n.can ch).woke = true ∧
      n.regB (R.EVT_STATUS (canPage ch)) 9 = true))
  ∧ (∀ (a : Acc) (ch : Fin 12) (saOnly : Bool), WriteEffect a (R.CAN_SAL_CTRL ch) (.salArm a ch saOnly) (fun _ => True)
      (fun b n => n.can ch = { b.can ch with salArmed := true, salSince := b.clk.lt, salFull := false, sal := [] }))

/-- R168, R169, R170: SCHED asks a master for a table and SLEEP for a go-to-sleep frame, which goes out in the next slot
before any other; an unconditional entry of a schedule table opens its frame for its slot, and the table moves on; a
header that a slave receives within 15 % of its rate and with right parity opens the frame of its publish buffer, and one with wrong parity is
an error; a response with the checksum of its frame fills its subscribe buffer, and another checksum is an error; a response that was sent clears
UPDATED; a frame that times out is an error of its buffer. UPDATE and RELEASE set and clear the flags of a frame buffer. -/
def Obligations.LinSchedule : Prop :=
  (∀ (a : Acc) (l : Fin 8) (table : Fin 8), WriteEffect a (R.LIN_CMD l) (.sched a l table) (fun b => b.linMode l = 1)
      (fun b n => n.lin l = { b.lin l with want := some (if table.val < 4 then table.val else 7) }))
  ∧ (∀ (a : Acc) (l : Fin 8), WriteEffect a (R.LIN_CMD l) (.sleep a l) (fun b => b.linMode l = 1) (fun b n => n.lin l =
      { b.lin l with sleepAsked := true }))
  ∧ (∀ (t : Nat) (l : Fin 8), Effect t (.linSlotStart t l) (fun b => b.linMode l = 1 ∧ (b.lin l).state = .awake ∧
      b.holdTx (b.pageOwner (49 + l / 2)) = false ∧ (b.lin l).slotEnd ≤ b.clk.lt ∧ (b.lin l).sleepAsked = true) (fun b n
      => n.lin l =
      { b.lin l with sleepAsked := false, lastBus := b.clk.lt, frame := some { b.linFrame l 0x3C with data := some ((0 : Byte) :: List.replicate 7 0xFF), sum := linSum ((0 : Byte) :: List.replicate 7 0xFF), sleepCmd := true } }))
  ∧ (∀ (t : Nat) (l : Fin 8) (table : Fin 4), Effect t (.linSlotStart t l) (fun b => b.linMode l = 1 ∧ (b.lin l).state
      = .awake ∧ b.holdTx (b.pageOwner (49 + l / 2)) = false ∧ (b.lin l).slotEnd ≤ b.clk.lt ∧ (b.lin l).sleepAsked =
      false ∧ b.pwr.zsp.silent = false ∧ (b.lin l).want = none ∧ (b.lin l).collRun = none ∧ (b.lin l).sched = table ∧
      b.schedLen l table ≠ 0 ∧ b.regF (R.LIN_ENTRY l (b.schedEntry l table (b.lin l).place)) 10 8 = 0 ∧ b.regF
      (R.LIN_ENTRY l (b.schedEntry l table (b.lin l).place)) 5 0 < 62) (fun b n => n.lin l =
      { b.lin l with entry := b.schedEntry l table (b.lin l).place, place := if b.schedLen l table ≤ (b.lin l).place + 1 then 0 else (b.lin l).place + 1, lastBus := b.clk.lt, slotEnd := b.clk.lt + max 1 (b.regF (R.LIN_ENTRY l (b.schedEntry l table (b.lin l).place)) 23 16) * 1000000, frame := some (b.linFrame l (b.regF (R.LIN_ENTRY l (b.schedEntry l table (b.lin l).place)) 5 0)) }))
  ∧ (∀ (t : Nat) (l : Fin 8) (bits rate stamp : Nat) (pid : Byte), Effect t (.linHeaderRx t l (some rate) (some pid)
      stamp bits) (fun b => b.linMode l = 2 ∧ (b.lin l).state = .awake ∧ 11 ≤ bits ∧ 85 * b.linBaud l ≤ 100 * rate ∧ 100
      * rate ≤ 115 * b.linBaud l ∧ pid.toNat = linPid (pid.toNat % 64) ∧ pid.toNat % 64 < 62 ∧ b.linDir l (pid.toNat %
      64) = 1 ∧ b.holdTx (b.pageOwner (49 + l / 2)) = false ∧ b.pwr.zsp.silent = false) (fun b n => n.lin l =
      { b.lin l with wakes := 0, lastBus := b.clk.lt, frame := some { fid := pid.toNat % 64, stamp := stamp, master := false, rate := rate, idEnd := b.clk.lt, data := some ((b.lbuf l (pid.toNat % 64)).data.take (b.linLen l (pid.toNat % 64))), sum := b.linChecksum l (pid.toNat % 64) ((b.lbuf l (pid.toNat % 64)).data.take (b.linLen l (pid.toNat % 64))) } }))
  ∧ (∀ (t : Nat) (l : Fin 8) (bits rate stamp : Nat) (pid : Byte), Effect t (.linHeaderRx t l (some rate) (some pid)
      stamp bits) (fun b => b.linMode l = 2 ∧ (b.lin l).state = .awake ∧ 11 ≤ bits ∧ 85 * b.linBaud l ≤ 100 * rate ∧ 100
      * rate ≤ 115 * b.linBaud l ∧ pid.toNat ≠ linPid (pid.toNat % 64)) (fun b n => n.lin l =
      { b.lin l with wakes := 0, lastBus := b.clk.lt, frame := none, lastErr := .parity } ∧ n.regB (R.EVT_STATUS (49 + l
      / 2)) (3 * (l % 2) + 1) = true))
  ∧ (∀ (t : Nat) (l : Fin 8) (f : LinFrame) (data : List Byte) (checksum : Byte), Effect t (.linResponseRx t l
      (.complete data checksum)) (fun b => (b.lin l).frame = some f ∧ f.data = some [] ∧ checksum = b.linChecksum l
      f.fid data ∧ b.linDir l f.fid = 2 ∧ f.fid ≠ 0x3C) (fun b n => (n.lin l).frame = none ∧ n.lbuf l f.fid =
      { (b.lbuf l f.fid).put (data.take (b.linLen l f.fid)) with new := true, seq := ((b.lbuf l f.fid).seq + 1) % 65536, stamp := f.stamp }
      ∧ (b.regB (R.LIN_FCFG l f.fid) 9 = true → n.regB (R.EVT_STATUS (49 + l / 2)) (3 * (l % 2)) = true)))
  ∧ (∀ (t : Nat) (l : Fin 8) (f : LinFrame) (data : List Byte) (checksum : Byte), Effect t (.linResponseRx t l
      (.complete data checksum)) (fun b => (b.lin l).frame = some f ∧ f.data = some [] ∧ f.coll = none ∧ checksum ≠
      b.linChecksum l f.fid data) (fun b n => (n.lin l).frame = none ∧ (n.lin l).lastErr = .checksum ∧ n.lbuf l f.fid =
      { b.lbuf l f.fid with err := .checksum } ∧ n.regB (R.EVT_STATUS (49 + l / 2)) (3 * (l % 2) + 1) = true))
  ∧ (∀ (t : Nat) (l : Fin 8) (f : LinFrame) (d : List Byte) (data : List Byte) (checksum : Byte), Effect t
      (.linResponseRx t l (.complete data checksum)) (fun b => (b.lin l).frame = some f ∧ f.data = some d ∧ d ≠ [] ∧
      f.sleepCmd = false) (fun b n => (n.lin l).frame = none ∧ n.lbuf l f.fid =
      { b.lbuf l f.fid with updated := false, seq := ((b.lbuf l f.fid).seq + 1) % 65536, stamp := f.stamp }))
  ∧ (∀ (t : Nat) (l : Fin 8) (someByte : Bool) (f : LinFrame), Effect t (.linFrameTimeout t l someByte) (fun b =>
      (b.lin l).frame = some f ∧ f.master = true ∧ f.stamp + (44 + 10 * b.linLen l f.fid) * 1400000000 / f.rate ≤
      b.clk.lt) (fun b n => (n.lin l).frame = none ∧ (n.lin l).lastErr = (if someByte then .incomplete else .noResponse)
      ∧ n.lbuf l f.fid = { b.lbuf l f.fid with err := (if someByte then .incomplete else .noResponse) } ∧ n.regB
      (R.EVT_STATUS (49 + l / 2)) (3 * (l % 2) + 1) = true))
  ∧ (∀ (a : Acc) (l : Fin 8) (i : Fin 64), Effect a.t (.update a l i) (fun b => ((a.req.val == 19 && !b.sec.svcOpen) ||
      !b.mayOwn (State.accPart a) (49 + l / 2)) = false ∧ b.linDir l i = 1) (fun b n => n.resp = .ok 0 ∧ n.lbuf l i =
      { b.lbuf l i with updated := true }))
  ∧ (∀ (a : Acc) (l : Fin 8) (i : Fin 64), Effect a.t (.lfbRelease a l i) (fun b => ((a.req.val == 19 &&
      !b.sec.svcOpen) || !b.mayOwn (State.accPart a) (49 + l / 2)) = false) (fun b n => n.resp = .ok 0 ∧ n.lbuf l i =
      { b.lbuf l i with new := false }))

/-- R171: a wake-up signal of a slave is sent from SLEEP and again after 150 ms, three times at most; a dominant signal on a
sleeping bus wakes the channel; a quiet bus sends a slave to sleep; a master's schedule resumes 100 ms after its
wake-up. -/
def Obligations.LinSleep : Prop :=
  (∀ (a : Acc) (l : Fin 8), WriteEffect a (R.LIN_CMD l) (.wake a l) (fun b => (b.lin l).state = .sleep ∧
      b.pwr.zsp.silent = false ∧ b.linMode l = 2 ∧ (b.lin l).wakeBlock ≤ b.clk.lt) (fun b n => n.lin l =
      { b.lin l with state := .waking, wakes := 1, wakeAt := b.clk.lt, lastBus := b.clk.lt }))
  ∧ (∀ (a : Acc) (l : Fin 8), WriteEffect a (R.LIN_CMD l) (.wake a l) (fun b => (b.lin l).state = .sleep ∧
      b.pwr.zsp.silent = false ∧ b.linMode l = 1) (fun b n => (n.lin l).state = .waking ∧ (n.lin l).resumeAt = some
      (b.clk.lt + 100000000)))
  ∧ (∀ (t : Nat) (l : Fin 8), Effect t (.linBusWake t l) (fun b => (b.lin l).state = .sleep ∧ b.linMode l = 2 ∧ b.regB
      (R.LIN_CFG l) 3 = false) (fun b n => n.lin l = { b.lin l with state := .awake, lastBus := b.clk.lt, wakes := 0 } ∧
      n.regB (R.EVT_STATUS (49 + l / 2)) (3 * (l % 2) + 2) = true))
  ∧ (∀ (t : Nat) (l : Fin 8), Effect t (.linIdleSleep t l) (fun b => b.linMode l = 2 ∧ (b.lin l).state = .awake ∧
      (b.lin l).lastBus + clamp 4 10 (b.regF (R.LIN_CFG l) 15 12) * 1000000000 ≤ b.clk.lt) (fun b n => n.lin l =
      { b.lin l with state := .sleep, frame := none, sleepAsked := false, slotEnd := 0 } ∧ n.regB (R.EVT_STATUS (49 + l
      / 2)) (3 * (l % 2) + 2) = true))
  ∧ (∀ (t : Nat) (l : Fin 8), Effect t (.linWakeRetry t l) (fun b => b.linMode l = 2 ∧ (b.lin l).state = .waking ∧
      (b.lin l).wakeAt + 150000000 ≤ b.clk.lt) (fun b n => if (b.lin l).wakes < 3 then n.lin l =
      { b.lin l with wakes := (b.lin l).wakes + 1, wakeAt := b.clk.lt } else n.lin l =
      { b.lin l with state := .sleep, wakeFail := true, wakes := 0, wakeBlock := b.clk.lt + 1500000000 } ∧ n.regB
      (R.EVT_STATUS (49 + l / 2)) (3 * (l % 2) + 2) = true))
  ∧ (∀ (t : Nat) (l : Fin 8) (at_ : Nat), Effect t (.linScheduleResume t l) (fun b => (b.lin l).resumeAt = some at_ ∧
      b.linMode l = 1 ∧ at_ ≤ b.clk.lt) (fun b n => n.lin l =
      { b.lin l with state := .awake, resumeAt := none, place := 0, collRun := none, slotEnd := 0 }))

/-- R176, R200: a whole frame that passes stage 1 counts with its FCS and its MACsec bytes in SWP_RX_BYTES; one that fails its FCS is a receive
error; a port without a link or that is not enabled takes nothing. R305: a domain takes the frames of its transmit queue, and a packet with a bad
header is a receive error of P24. R189: an idle port starts the frame of the highest-numbered queue that may be served; R176, R206: the frame ends,
and counts in SWP_TX_BYTES. R188: an old frame leaves its queue. R308: a frame is eligible from its launch time less the
lead, in the time base it names. R205: a frame whose tables fail their ECC is dropped; R230: an uncorrectable error in its cells is counted. -/
def Obligations.SwitchReceiveAndTransmit : Prop :=
  (∀ (t : Nat) (port : Fin 27) (stamp : Nat) (bytes : List Byte) (tag : Option SecTag) (ecc : EccFound) (f : Nat) (s1
      : State), Effect t (.ethFrameRx t port (.whole stamp bytes true tag) ecc) (fun b => (b.page (57 + port)).mode ≠
      .resetting ∧ b.portTakes port = true ∧ b.openFrame (min (bytes.length + 4) 9216) = (some f, s1) ∧ (s1.stage1 port
      bytes true tag).1 = true) (fun b n => (n.port port).rxBytes = ((b.port port).rxBytes + (bytes.length + 4 +
      (tag.map (fun g => secBytes g.sci.isSome)).getD 0)) % 2 ^ 64 ∧ (n.port port).txBytes = (b.port port).txBytes))
  ∧ (∀ (t : Nat) (port : Fin 27) (stamp : Nat) (bytes : List Byte) (tag : Option SecTag) (f : Nat) (s1 : State), Effect
      t (.ethFrameRx t port (.whole stamp bytes true tag) .uncorrectable) (fun b => (b.page (57 + port)).mode ≠
      .resetting ∧ b.portTakes port = true ∧ b.openFrame (min (bytes.length + 4) 9216) = (some f, s1) ∧ (s1.stage1 port
      bytes true tag).1 = true ∧ isPtp port bytes = false) (fun b n => n.regF R.SWC_ECC 31 16 = min 65535 (b.regF
      R.SWC_ECC 31 16 + 1) ∧ n.regB (R.EVT_STATUS 53) 0 = true ∧ n.pool.queues = s1.pool.queues))
  ∧ (∀ (t : Nat) (port : Fin 27) (stamp : Nat) (bytes : List Byte) (tag : Option SecTag) (ecc : EccFound) (f : Nat) (s1
      : State), Effect t (.ethFrameRx t port (.whole stamp bytes false tag) ecc) (fun b => (b.page (57 + port)).mode ≠
      .resetting ∧ b.portTakes port = true ∧ b.openFrame (min (bytes.length + 4) 9216) = (some f, s1)) (fun b n =>
      n.regF (R.SWP_RX_ERR port) 31 0 = min (2 ^ 32 - 1) (b.regF (R.SWP_RX_ERR port) 31 0 + 1) ∧ n.regB (R.EVT_STATUS
      (57 + port)) 2 = true ∧ n.eth = s1.eth ∧ n.pool.queues = s1.pool.queues))
  ∧ (∀ (t : Nat) (port : Fin 27) (rx : EthRx) (ecc : EccFound), Effect t (.ethFrameRx t port rx ecc) (fun b => (b.page
      (57 + port)).mode ≠ .resetting ∧ b.portTakes port = false ∧ (b.port port).arriving = none) (fun b n => b.sameBut n
      []))
  ∧ (∀ (t : Nat) (d : Fin 2) (p : Packet) (s1 : State) (frame : List Byte) (launch : Option (Nat × Bool)) (ecc cells :
      EccFound), Effect t (.hostFrameIn t (.txq d) ecc cells) (fun b => b.domQueue d (b.regF (R.PTP_QUEUES d) 27 16) =
      true ∧ b.stopsWork (b.queueOwner (b.regF (R.PTP_QUEUES d) 27 16)) = false ∧ b.popPacket (b.regF (R.PTP_QUEUES d)
      27 16) = some (p, s1) ∧ hostFrame p.data = some (frame, launch) ∧ leVal ((p.data.drop 10).take 1) < 18) (fun b n
      => b.queueLeft n (b.regF (R.PTP_QUEUES d) 27 16) ((b.queue (b.regF (R.PTP_QUEUES d) 27 16)).visible.drop 1) ∧
      n.regF (R.SWP_RX_ERR 24) 31 0 = b.regF (R.SWP_RX_ERR 24) 31 0))
  ∧ (∀ (t : Nat) (d : Fin 2) (p : Packet) (s1 : State) (ecc cells : EccFound), Effect t (.hostFrameIn t (.txq d) ecc
      cells) (fun b => b.domQueue d (b.regF (R.PTP_QUEUES d) 27 16) = true ∧ b.stopsWork (b.queueOwner (b.regF
      (R.PTP_QUEUES d) 27 16)) = false ∧ b.popPacket (b.regF (R.PTP_QUEUES d) 27 16) = some (p, s1) ∧ hostFrame p.data =
      none) (fun b n => n.regF (R.SWP_RX_ERR 24) 31 0 = min (2 ^ 32 - 1) (b.regF (R.SWP_RX_ERR 24) 31 0 + 1) ∧ n.regB
      (R.EVT_STATUS 81) 2 = true ∧ n.pool.queues = s1.pool.queues))
  ∧ (∀ (t : Nat) (port : Fin 27) (da q : Nat) (p : Packet), Effect t (.ethTxSelect t port da) (fun b => b.portServes
      port = true ∧ (b.port port).sending = none ∧ (b.port port).preempted = none ∧ (b.updCredits port).pickQueue port
      (fun _ => true) = some q ∧ b.headOf port q = some p ∧ (p.copy.map (·.ptp)).getD .none = .none ∧ b.msecTxOn port p
      = false) (fun b n => (n.port port).sending = some q ∧ (n.port port).sendStart = b.clk.lt ∧ (n.port port).sentBytes
      = 0 ∧ (n.port port).da = da))
  ∧ (∀ (t : Nat) (port : Fin 27) (q : Nat) (p : Packet) (m : CopyMeta), Effect t (.ethTxComplete t port .uncorrectable)
      (fun b => b.endingFrame port = some (q, p, m)) (fun b n => (n.port port).sending = none ∧ n.regF R.QMGR_ECC 31 16
      = min 65535 (b.regF R.QMGR_ECC 31 16 + 1) ∧ n.regB (R.EVT_STATUS 84) 4 = true))
  ∧ (∀ (t : Nat) (port : Fin 27) (q : Nat) (p : Packet) (m : CopyMeta) (ecc : EccFound), Effect t (.ethTxComplete t
      port ecc) (fun b => b.endingFrame port = some (q, p, m) ∧ q < 8 ∧ m.stomped = false ∧ (m.txMirror = none ∨
      m.mirror = true)) (fun b n => (n.port port).sending = none ∧ (n.port port).txBytes = ((b.port port).txBytes +
      (m.len + m.sec)) % 2 ^ 64 ∧ (n.queue (8 * port + q)).visible = (b.queue (8 * port + q)).visible.erase p ∧ n.regF
      (R.SWP_TX_FRAMES port) 31 0 = min (2 ^ 32 - 1) (b.regF (R.SWP_TX_FRAMES port) 31 0 + 1)))
  ∧ (∀ (t : Nat) (q : Fin 216) (p : Packet) (rest : List Packet), Effect t (.streamAgeOut t q) (fun b => (b.queue
      q).visible = p :: rest ∧ unbegun p = true ∧ p.popped = 0 ∧ p.born + b.ageNs q < b.clk.lt) (fun b n => (n.queue
      q).visible = rest ∧ n.regF (R.SWP_AGED (q / 8)) 31 0 = min (2 ^ 32 - 1) (b.regF (R.SWP_AGED (q / 8)) 31 0 + 1)))
  ∧ (∀ (t : Nat) (q : Fin 216), Effect t (.ethLaunchEligible t q) (fun _ => True) (fun b n => (n.queue q).visible =
      (b.queue q).visible.map (fun p =>
      { p with copy := p.copy.map (fun m => { m with eligible := m.eligible || (m.launch.map (b.launchReached (q / 8))).getD true }) })))
  ∧ (∀ (s : State) (k at_ : Nat), s.launchReached k (at_, false) = decide (at_ ≤ s.clk.lt + s.txLead k))

/-- R190, R191: a port takes the gates of the entry of its list, or INIT_GATES where the list does not run; an entry of an earlier
list stays until its end. R193: verification ends with ACTIVE as it succeeded. R196: a recovery
function that sees no frame for RESET_MS starts afresh and counts a reset. R206: a port takes the link its PHY
reports; P26 follows the Uloft link instead. -/
def Obligations.SwitchTimers : Prop :=
  (∀ (t : Nat) (port : Fin 27) (g : GateSeg), Effect t (.gateEntryChange t port) (fun b => b.oldEntry port = false ∧
      b.gateNow port = some g) (fun b n => (n.port port).running = true ∧ (n.port port).entry = g.index ∧ (n.port
      port).gates = g.gates ∧ (n.port port).hold = (if g.op = 1 then true else if g.op = 2 then false else (b.port
      port).hold)))
  ∧ (∀ (t : Nat) (port : Fin 27) (g : Nat), Effect t (.gateEntryChange t port) (fun b => b.oldEntry port = false ∧
      b.gateNow port = none ∧ g = b.initGates port) (fun _ n => (n.port port).running = false ∧ (n.port port).gates = g
      ∧ (n.port port).hold = false))
  ∧ (∀ (t : Nat) (port : Fin 27), Effect t (.gateEntryChange t port) (fun b => b.oldEntry port = true) (fun b n =>
      n.port port = b.port port))
  ∧ (∀ (t : Nat) (port : Fin 27) (ok : Bool), Effect t (.preemptVerifyDone t port ok) (fun b => (b.port port).verify =
      .verifying) (fun b n => n.port port =
      { b.port port with verify := if ok then .succeeded else .failed, active := ok }))
  ∧ (∀ (t : Nat) (f : Fin 512), Effect t (.recoveryReset t f) (fun b => bit (b.regionWord 50 (0x30310000 + 32 * f)) 31
      = true ∧ (b.recov f).fresh = false ∧ (b.recov f).lastFrame + max 1 (fld (b.regionWord 50 (0x30310000 + 32 * f)) 23
      8) * 1000000 ≤ b.clk.lt) (fun b n => n.recov f =
      { b.recov f with fresh := true, last := 0, history := [], lastFrame := b.clk.lt, resets := satAdd 32 (b.recov f).resets 1 }
      ∧ n.regB (R.EVT_STATUS 55) 0 = true))
  ∧ (∀ (t : Nat) (port : Fin 27) (up : Bool) (rate : Fin 7) (role : Bool) (sqi : Fin 8) (plca : Bool), Effect t
      (.ethLinkChange t port up rate role sqi plca) (fun _ => port ≠ 26) (fun b n => (n.port port).up = (up && b.portEn
      port) ∧ (n.port port).rate = rate ∧ (n.port port).role = role ∧ (n.port port).sqi = (if port.val < 22 then sqi.val
      else 0) ∧ ((b.port port).up ≠ (up && b.portEn port) → n.regB (R.EVT_STATUS (57 + port)) 0 = true) ∧ ((b.port
      port).up = true ∧ (up && b.portEn port) = false → (n.port port).fw = (b.port port).fwNext.getD (b.port port).fw ∧
      (n.port port).fwNext = none)))
  ∧ (∀ (t : Nat) (port : Fin 27) (up : Bool) (rate : Fin 7) (role : Bool) (sqi : Fin 8) (plca : Bool), Effect t
      (.ethLinkChange t port up rate role sqi plca) (fun _ => port = 26) (fun b n => n.port port = b.port port))

/-- R184, R205: a write of SWC_POL_SEL copies the counts of a meter to its registers, and with ZERO or CLEAR_RED also clears
the counts or its RED flag. R196, R205: SWC_FRER_SEL does the same for a recovery or a generation function; RESET starts
a recovery function afresh and a generation function at INIT_SEQ. -/
def Obligations.MetersAndSequences : Prop :=
  (∀ (a : Acc) (index : Fin 1024), WriteEffect a (R.SWC_POL_SEL) (.polSelect a index) (fun _ => True) (fun b n =>
      n.eth.polSel = (word (b.meter index).greenCount, word (b.meter index).yellowCount, word (b.meter index).redCount,
      (b.meter index).red) ∧ n.meter index = b.meter index))
  ∧ (∀ (a : Acc) (index : Fin 1024), WriteEffect a (R.SWC_POL_SEL) (.polZero a index) (fun _ => True) (fun b n =>
      n.eth.polSel = (word (b.meter index).greenCount, word (b.meter index).yellowCount, word (b.meter index).redCount,
      (b.meter index).red) ∧ n.meter index = { b.meter index with greenCount := 0, yellowCount := 0, redCount := 0 }))
  ∧ (∀ (a : Acc) (index : Fin 1024), WriteEffect a (R.SWC_POL_SEL) (.clearRed a index) (fun _ => True) (fun b n =>
      n.eth.polSel = (word (b.meter index).greenCount, word (b.meter index).yellowCount, word (b.meter index).redCount,
      false) ∧ n.meter index = { b.meter index with red := false }))
  ∧ (∀ (a : Acc) (gen : Bool) (index : Fin 512), WriteEffect a (R.SWC_FRER_SEL) (.frerSelect a gen index) (fun _ =>
      True) (fun b n => (n.eth.frerSel = if gen then [word (b.genFn index).numbered, 0, 0, 0, 0, word (b.genFn
      index).next] else [word (b.recov index).passed, word (b.recov index).discarded, word (b.recov index).outOfOrder,
      word (b.recov index).lost, word (b.recov index).resets, 0]) ∧ n.recov index = b.recov index ∧ n.genFn index =
      b.genFn index))
  ∧ (∀ (a : Acc) (gen : Bool) (index : Fin 512), WriteEffect a (R.SWC_FRER_SEL) (.frerZero a gen index) (fun _ => True)
      (fun b n => if gen then n.genFn index = { b.genFn index with numbered := 0 } else n.recov index =
      { b.recov index with passed := 0, discarded := 0, outOfOrder := 0, lost := 0, resets := 0 }))
  ∧ (∀ (a : Acc) (gen : Bool) (index : Fin 512), WriteEffect a (R.SWC_FRER_SEL) (.frerReset a gen index) (fun _ =>
      True) (fun b n => if gen then n.genFn index = { b.genFn index with next := b.initSeq index } else n.recov index =
      { b.recov index with fresh := true, last := 0, history := [], lastFrame := b.clk.lt }))

/-- R210 to R213, R215, R219: a word written to WR_DATA joins the open packet of its writer; COMMIT makes it visible at the
tail with the gap before it, or without an open packet is an empty commit; REWIND drops it; a read of RD_WORD gives the next word of the head
packet with its tag, or the EMPTY tag, and a read within the word gives what was latched; SKIP
drops the head packet, FLUSH every packet that no consumer has claimed but for one of this cycle; no packet that is too old outlasts ageing. R212, R230: an uncorrectable error in
a read word sets ERR in its tag. -/
def Obligations.QueueAccess : Prop :=
  (∀ (a : Acc) (q : Fin 4096) (off : Fin 2016) (val : Nat) (p : Packet), Effect a.t (.wrData a q off val 4) (fun b =>
      b.apCheck a q off 4 = none ∧ KMap.get? (b.queue q).opens a.req = some p ∧ p.dead = false ∧ p.data.length < 131072
      ∧ p.data.length % 256 ≠ 0) (fun b n => n.resp = .ok 0 ∧ KMap.get? (n.queue q).opens a.req = some
      { p with data := p.data ++ leBytes 4 val } ∧ (n.queue q).visible = (b.queue q).visible))
  ∧ (∀ (a : Acc) (q : Fin 4096) (val : Word) (p : Packet), Effect a.t (.wrCommit a q val) (fun b => b.apCheck a q 0x7E0
      4 = none ∧ KMap.get? (b.queue q).opens a.req = some p ∧ p.dead = false ∧ p.data.length < 131072) (fun b n =>
      n.resp = .ok 0 ∧ b.queueLeft n q ((b.queue q).visible ++
      [{ p with data := p.data.take (p.data.length - 4 + (if val.toNat % 8 = 0 ∨ 4 < val.toNat % 8 then 4 else val.toNat % 8)), gap := min 65535 (b.queue q).gap, seen := some b.clk.lt }])
      ∧ KMap.get? (n.queue q).opens a.req = none ∧ (n.queue q).gap = 0))
  ∧ (∀ (a : Acc) (q : Fin 4096) (p : Packet), Effect a.t (.wrRewind a q) (fun b => b.apCheck a q 0x7E4 4 = none ∧
      KMap.get? (b.queue q).opens a.req = some p ∧ p.dead = false) (fun b n => n.resp = .ok 0 ∧ KMap.get? (n.queue
      q).opens a.req = none ∧ KMap.get (n.queue q).results .none a.req = .rewound ∧ (n.queue q).visible = (b.queue
      q).visible))
  ∧ (∀ (a : Acc) (q : Fin 4096) (val : Word), Effect a.t (.wrCommit a q val) (fun b => b.apCheck a q 0x7E0 4 = none ∧
      KMap.get? (b.queue q).opens a.req = none) (fun b n => n.resp = .ok 0 ∧ KMap.get (n.queue q).results .none a.req =
      .emptyCommit ∧ (n.queue q).visible = (b.queue q).visible))
  ∧ (∀ (a : Acc) (q : Fin 4096) (size : Nat) (p : Packet) (rest : List Packet) (ecc : EccFound), Effect a.t (.rdWord a
      q 0 size ecc) (fun b => b.apCheck a q 0x800 size = none ∧ (b.queue q).visible = p :: rest ∧ b.readable q = true ∧
      p.copy.all (fun m => m.txMirror.isNone || m.mirror) = true ∧ ecc ≠ .uncorrectable) (fun b n => n.resp = .ok (leVal
      ((p.word32 p.popped).take size)) ∧ KMap.get (n.queue q).latches {} a.req = ⟨p.word32 p.popped, p.tag p.popped⟩ ∧
      (p.popped + 1 < p.readWords → (n.queue q).visible.length = rest.length + 1) ∧ (p.readWords ≤ p.popped + 1 →
      b.queueLeft n q rest ∧ (∀ m : CopyMeta, p.copy = some m → (n.port (q / 8)).txBytes = ((b.port (q / 8)).txBytes +
      m.len) % 2 ^ 64))))
  ∧ (∀ (a : Acc) (q : Fin 4096) (size : Nat) (p : Packet) (rest : List Packet), Effect a.t (.rdWord a q 0 size
      .uncorrectable) (fun b => b.apCheck a q 0x800 size = none ∧ (b.queue q).visible = p :: rest ∧ b.readable q = true)
      (fun b n => (KMap.get (n.queue q).latches {} a.req).tag.getLsbD 12 = true ∧ n.regF R.QMGR_ECC 31 16 = min 65535
      (b.regF R.QMGR_ECC 31 16 + 1) ∧ n.regB (R.EVT_STATUS 84) 4 = true))
  ∧ (∀ (a : Acc) (q : Fin 4096) (size : Nat) (ecc : EccFound), Effect a.t (.rdWord a q 0 size ecc) (fun b => b.apCheck
      a q 0x800 size = none ∧ ((b.queue q).visible = [] ∨ b.readable q = false)) (fun b n => n.resp = .ok 0 ∧ KMap.get
      (n.queue q).latches {} a.req = ⟨List.replicate 32 0, 0x800⟩ ∧ (n.queue q).visible = (b.queue q).visible))
  ∧ (∀ (a : Acc) (q : Fin 4096) (off : Fin 32) (size : Nat) (ecc : EccFound), Effect a.t (.rdWord a q off size ecc)
      (fun b => b.apCheck a q (0x800 + off) size = none ∧ off ≠ 0) (fun b n => n.resp = .ok (leVal (((KMap.get (b.queue
      q).latches {} a.req).data.drop off).take size)) ∧ n.pool = b.pool))
  ∧ (∀ (a : Acc) (q : Fin 4096), Effect a.t (.rdSkip a q 1) (fun b => b.apCheck a q 0x828 4 = none) (fun b n => n.resp
      = .ok 0 ∧ b.queueLeft n q ((b.queue q).visible.drop 1)))
  ∧ (∀ (a : Acc) (q : Fin 4096), Effect a.t (.rdSkip a q 0) (fun b => b.apCheck a q 0x828 4 = none) (fun b n => n.resp
      = .ok 0 ∧ b.sameBut n [.resp]))
  ∧ (∀ (a : Acc) (q : Fin 4096), Effect a.t (.qFlush a q 1) (fun b => b.apCheck a q 0xFE0 4 = none) (fun b n => n.resp
      = .ok 0 ∧ b.queueLeft n q ((b.queue q).visible.filter (fun p => p.claimed || (p.copy.map (·.begun)).getD false ||
      p.seen == some b.clk.lt))))
  ∧ (∀ (t : Nat) (q : Fin 4096), Effect t (.msgAgeOut t q) (fun _ => isMsgQueue q = true) (fun b n => (∀ p ∈ (n.queue
      q).visible, b.tooOld q p = false) ∧ n.regF R.QMGR_AGED 31 0 = min (2 ^ 32 - 1) (b.regF R.QMGR_AGED 31 0 + (b.queue
      q).visible.countP (b.tooOld q))))

/-- R223, R224: a DRAINING bank is PAUSED while its pool is below the reserve, drains again 512 cells above it, and is OFF
once empty. R226, R228: the recorder takes the packets of its slots in turn; FREEZE counts down to FROZEN, UNFREEZE ends
it, CLEAR empties the ring. -/
def Obligations.BanksAndTrace : Prop :=
  (∀ (t : Nat) (bank : Fin 32), Effect t (.bankPaused t bank) (fun b => (b.pbank bank).state = .draining ∧ b.poolF
      (16 ≤ bank.val) < b.poolReserve (16 ≤ bank.val)) (fun b n => n.bankRaw bank =
      { b.bankRaw bank with state := .paused } ∧ n.regB (R.EVT_STATUS 84) 3 = true))
  ∧ (∀ (t : Nat) (bank : Fin 32), Effect t (.bankUnpaused t bank) (fun b => (b.pbank bank).state = .paused ∧
      b.poolReserve (16 ≤ bank.val) + 512 ≤ b.poolF (16 ≤ bank.val)) (fun b n => n.bankRaw bank =
      { b.bankRaw bank with state := .draining }))
  ∧ (∀ (t : Nat) (bank : Fin 32), Effect t (.bankDone t bank) (fun b => (b.pbank bank).state = .draining ∧ (b.pbank
      bank).used = 0) (fun b n => n.bankRaw bank = { b.bankRaw bank with state := .off } ∧ n.reg (R.EVT_STATUS 84) =
      setBit (b.reg (R.EVT_STATUS 84)) 2 true))
  ∧ (∀ (t : Nat) (slot q : Nat) (ecc : EccFound), Effect t (.traceRecord t ecc) (fun b => b.traceOn = true ∧ b.nextSlot
      = some slot ∧ b.slotQueue slot = some q ∧ b.pool.trace.posting = none ∧ b.pool.trace.frozen = false) (fun b n =>
      n.pool.trace.next = (slot + 1) % 8 ∧ b.queueLeft n q ((b.queue q).visible.drop 1) ∧ n.pool.trace.records ≠ []))
  ∧ (∀ (a : Acc) , WriteEffect a (R.QMGR_TRACE_CMD) (.freeze a) (fun b => b.pool.trace.frozen = false ∧
      b.pool.trace.posting = none) (fun b n => n.pool.trace =
      { b.pool.trace with posting := some (b.regF R.QMGR_TRACE_CTRL 15 0 * 1024) }))
  ∧ (∀ (t : Nat), Effect t (.traceFrozen t) (fun b => b.pool.trace.posting = some 0) (fun b n => n.pool.trace =
      { b.pool.trace with frozen := true, posting := none } ∧ n.regB (R.EVT_STATUS 84) 5 = true))
  ∧ (∀ (a : Acc) , WriteEffect a (R.QMGR_TRACE_CMD) (.unfreeze a) (fun _ => True) (fun b n => n.pool.trace =
      { b.pool.trace with frozen := false, posting := none }))
  ∧ (∀ (a : Acc) , WriteEffect a (R.QMGR_TRACE_CMD) (.clear a) (fun _ => True) (fun b n => n.pool.trace =
      { b.pool.trace with wptr := 0, records := [], wrapped := false }))

/-- R234, R245: START runs an IDLE or HALTED channel at its PC, STOP halts a channel at a boundary, CLEAR takes FAULT to HALTED; in any other
state the command is refused. A write of DMA_TRIG sets the trigger flags of its mask. A removed channel at rest, with no transaction in flight,
turns OFF. -/
def Obligations.DmaChannelCommands : Prop :=
  (∀ (a : Acc) (ch pc : Fin 64), WriteEffect a (R.DMA_CMD ch) (.dmaStart a ch pc) (fun b => ((b.dchan ch).state =
      .idle ∨ (b.dchan ch).state = .halted) ∧ (b.dchan ch).removing = false ∧ (b.page (101 + ch / 8)).mode = .active ∧
      b.resetDrains (101 + ch / 8) = false) (fun b n => n.dchan ch =
      { b.dchan ch with state := .running, pc := pc, lc0 := 0, lc1 := 0, pace := false, squashed := false, ringDone := 0, prefetch := 0, stop := false }))
  ∧ (∀ (a : Acc) (ch pc : Fin 64), WriteEffect a (R.DMA_CMD ch) (.dmaStart a ch pc) (fun b => ((b.dchan ch).state ≠
      .idle ∧ (b.dchan ch).state ≠ .halted) ∨ (b.dchan ch).removing = true) (fun b n => n.dchan ch =
      { b.dchan ch with refused := true }))
  ∧ (∀ (a : Acc) (ch : Fin 64), WriteEffect a (R.DMA_CMD ch) (.stop a ch) (fun b => (b.dchan ch).runs = false) (fun b n
      => n.dchan ch = { b.dchan ch with refused := true }))
  ∧ (∀ (a : Acc) (ch : Fin 64), WriteEffect a (R.DMA_CMD ch) (.dmaClear a ch) (fun b => (b.dchan ch).state ≠ .fault)
      (fun b n => n.dchan ch = { b.dchan ch with refused := true }))
  ∧ (∀ (a : Acc) (ch : Fin 64), WriteEffect a (R.DMA_CMD ch) (.stop a ch) (fun b => (b.dchan ch).runs = true ∧ (b.dchan
      ch).inStep = false) (fun b n => n.dchan ch = { b.dchan ch with state := .halted, stop := false, prefetch := 0 }))
  ∧ (∀ (a : Acc) (ch : Fin 64), WriteEffect a (R.DMA_CMD ch) (.dmaClear a ch) (fun b => (b.dchan ch).state = .fault)
      (fun b n => n.dchan ch = { b.dchan ch with state := .halted }))
  ∧ (∀ (a : Acc) (page : Fin 8) (mask : Byte), WriteEffect a (R.DMA_TRIG page) (.dmaTrig a page mask) (fun _ => True)
      (fun b n => ∀ k : Fin 8, n.dchan (8 * page + k) = if mask.toNat.testBit k then
      { b.dchan (8 * page + k) with trig := true } else b.dchan (8 * page + k)))
  ∧ (∀ (t : Nat) (ch : Fin 64), Effect t (.chOff t ch) (fun b => (b.dchan ch).removing = true ∧ (b.dchan ch).rests =
      true ∧ b.chanReads ch = 0) (fun b n => n.dchan ch = { b.dchan ch with state := .off, removing := false } ∧ n.reg
      (R.EVT_STATUS (101 + ch / 8)) = setBit (b.reg (R.EVT_STATUS (101 + ch / 8))) 9 true))

/-- R244 to R247, R252: HALT halts; FENCE goes on when no mirrored write waits, or when its acknowledgement has come; LOOP
counts one of two counters and jumps back until it is 0, or always with COUNT = 0; WAIT for an instant, a time or a trigger goes on where it
is met and waits where it is not, and has no further kinds; SIGNAL raises its event, and writes its word to memory; an opcode that is none is a
fault at its own address, and an uncorrectable error of DRAM under a move one at its address. A channel that waits for a packet runs again when
one has come, and one that waits for a time goes on once it has passed. -/
def Obligations.DmaControlInstructions : Prop :=
  (∀ (t : Nat) (ch : Fin 64), Effect t (.halt t ch) (fun b => (b.dchan ch).state = .running ∧ fld (b.dmaWord ch 0) 31
      28 = 0 ∧ (b.dchan ch).stop = false ∧ (b.page (101 + ch / 8)).mode = .active ∧ b.resetDrains (101 + ch / 8) = false
      ∧ (b.dchan ch).pc < 63 ∧ (b.dchan ch).fencing = false ∧ b.needsFence ch = false) (fun b n => (n.dchan ch).state =
      .halted ∧ (n.dchan ch).pc = (b.dchan ch).pc ∧ n.resp = b.resp))
  ∧ (∀ (t : Nat) (ch : Fin 64), Effect t (.fence t ch) (fun b => (b.dchan ch).state = .running ∧ fld (b.dmaWord ch 0)
      31 28 = 6 ∧ (b.dchan ch).stop = false ∧ (b.page (101 + ch / 8)).mode = .active ∧ b.resetDrains (101 + ch / 8) =
      false ∧ (b.dchan ch).pc < 63 ∧ (b.dchan ch).fencing = false ∧ b.needsFence ch = false) (fun b n => (n.dchan
      ch).state = .running ∧ (n.dchan ch).pc = (b.dchan ch).pc + 1))
  ∧ (∀ (t : Nat) (ch : Fin 64), Effect t (.fenceComplete t ch) (fun b => (b.dchan ch).state = .running ∧ fld (b.dmaWord
      ch 0) 31 28 = 6 ∧ (b.dchan ch).stop = false ∧ (b.page (101 + ch / 8)).mode = .active ∧ b.resetDrains (101 + ch /
      8) = false ∧ (b.dchan ch).pc < 63 ∧ (b.dchan ch).fencing = true ∧ (b.dchan ch).acked = true) (fun b n => (n.dchan
      ch).state = .running ∧ (n.dchan ch).pc = (b.dchan ch).pc + 1 ∧ (n.dchan ch).fencing = false))
  ∧ (∀ (t : Nat) (ch : Fin 64), Effect t (.loop t ch) (fun b => (b.dchan ch).state = .running ∧ fld (b.dmaWord ch 0) 31
      28 = 2 ∧ (b.dchan ch).stop = false ∧ (b.page (101 + ch / 8)).mode = .active ∧ b.resetDrains (101 + ch / 8) = false
      ∧ (b.dchan ch).pc < 63 ∧ bit (b.dmaWord ch 0) 27 = false) (fun b n => (n.dchan ch).lc0 = (if (b.dchan ch).lc0 = 0
      then fld (b.dmaWord ch 0) 15 0 else (b.dchan ch).lc0) - (if fld (b.dmaWord ch 0) 15 0 = 0 then 0 else 1) ∧
      (n.dchan ch).lc1 = (b.dchan ch).lc1 ∧ (n.dchan ch).pc = (if (n.dchan ch).lc0 ≠ 0 ∨ fld (b.dmaWord ch 0) 15 0 = 0
      then fld (b.dmaWord ch 0) 21 16 else (b.dchan ch).pc + 1) ∧ (n.dchan ch).state = .running))
  ∧ (∀ (t : Nat) (ch : Fin 64), Effect t (.loop t ch) (fun b => (b.dchan ch).state = .running ∧ fld (b.dmaWord ch 0) 31
      28 = 2 ∧ (b.dchan ch).stop = false ∧ (b.page (101 + ch / 8)).mode = .active ∧ b.resetDrains (101 + ch / 8) = false
      ∧ (b.dchan ch).pc < 63 ∧ bit (b.dmaWord ch 0) 27 = true) (fun b n => (n.dchan ch).lc1 = (if (b.dchan ch).lc1 = 0
      then fld (b.dmaWord ch 0) 15 0 else (b.dchan ch).lc1) - (if fld (b.dmaWord ch 0) 15 0 = 0 then 0 else 1) ∧
      (n.dchan ch).lc0 = (b.dchan ch).lc0 ∧ (n.dchan ch).pc = (if (n.dchan ch).lc1 ≠ 0 ∨ fld (b.dmaWord ch 0) 15 0 = 0
      then fld (b.dmaWord ch 0) 21 16 else (b.dchan ch).pc + 1) ∧ (n.dchan ch).state = .running))
  ∧ (∀ (t : Nat) (ch : Fin 64), Effect t (.wait t ch) (fun b => (b.dchan ch).state = .running ∧ fld (b.dmaWord ch 0) 31
      28 = 3 ∧ (b.dchan ch).stop = false ∧ (b.page (101 + ch / 8)).mode = .active ∧ b.resetDrains (101 + ch / 8) = false
      ∧ (b.dchan ch).pc < 63 ∧ fld (b.dmaWord ch 0) 27 24 = 2 ∧ bit (b.dmaWord ch 0) 23 = false) (fun b n => if
      (b.dmaWord ch 1).toNat + (b.dmaWord ch 2).toNat * 2 ^ 32 ≤ b.clk.lt then (n.dchan ch).state = .running ∧ (n.dchan
      ch).pc = (b.dchan ch).pc + 1 else (n.dchan ch).state = .waiting ∧ (n.dchan ch).pc = (b.dchan ch).pc))
  ∧ (∀ (t : Nat) (ch : Fin 64), Effect t (.wait t ch) (fun b => (b.dchan ch).state = .running ∧ fld (b.dmaWord ch 0) 31
      28 = 3 ∧ (b.dchan ch).stop = false ∧ (b.page (101 + ch / 8)).mode = .active ∧ b.resetDrains (101 + ch / 8) = false
      ∧ (b.dchan ch).pc < 63 ∧ fld (b.dmaWord ch 0) 27 24 = 3 ∧ (b.dmaWord ch 1).toNat ≠ 0) (fun b n => (n.dchan
      ch).state = .waiting ∧ (n.dchan ch).pc = (b.dchan ch).pc ∧ (n.dchan ch).waitSince = b.clk.lt))
  ∧ (∀ (t : Nat) (ch : Fin 64), Effect t (.wait t ch) (fun b => (b.dchan ch).state = .running ∧ fld (b.dmaWord ch 0) 31
      28 = 3 ∧ (b.dchan ch).stop = false ∧ (b.page (101 + ch / 8)).mode = .active ∧ b.resetDrains (101 + ch / 8) = false
      ∧ (b.dchan ch).pc < 63 ∧ fld (b.dmaWord ch 0) 27 24 = 4) (fun b n => (n.dchan ch).trig = false ∧ (if (b.dchan
      ch).trig = true then (n.dchan ch).state = .running ∧ (n.dchan ch).pc = (b.dchan ch).pc + 1 else (n.dchan ch).state
      = .waiting ∧ (n.dchan ch).pc = (b.dchan ch).pc)))
  ∧ (∀ (t : Nat) (ch : Fin 64), Effect t (.wait t ch) (fun b => (b.dchan ch).state = .running ∧ fld (b.dmaWord ch 0) 31
      28 = 3 ∧ 5 ≤ fld (b.dmaWord ch 0) 27 24) (fun b n => (n.dchan ch).state = .fault ∧ (n.dchan ch).cause = .badOpcode
      ∧ (n.dchan ch).faultAddr = b.dmaPcAddr ch ∧ n.regB (R.EVT_STATUS (101 + ch / 8)) 8 = true))
  ∧ (∀ (t : Nat) (ch : Fin 64) (q : Nat), Effect t (.dmaWaitMet t ch) (fun b => (b.dchan ch).state = .waiting ∧
      (b.dchan ch).waitQ = some q ∧ (b.queue q).visible ≠ [] ∧ (b.dchan ch).stop = false ∧ (b.page (101 + ch / 8)).mode
      = .active ∧ b.resetDrains (101 + ch / 8) = false) (fun b n => n.dchan ch = { b.dchan ch with state := .running }))
  ∧ (∀ (t : Nat) (ch : Fin 64), Effect t (.dmaWaitMet t ch) (fun b => (b.dchan ch).state = .waiting ∧ (b.dchan
      ch).waitQ = none ∧ fld (b.dmaWord ch 0) 31 28 = 3 ∧ fld (b.dmaWord ch 0) 27 24 = 3 ∧ bit (b.dmaWord ch 0) 23 =
      false ∧ (b.dchan ch).waitSince + (b.dmaWord ch 1).toNat ≤ b.clk.lt ∧ (b.dchan ch).stop = false ∧ (b.page (101 + ch
      / 8)).mode = .active ∧ b.resetDrains (101 + ch / 8) = false ∧ (b.dchan ch).pc < 63) (fun b n => (n.dchan ch).state
      = .running ∧ (n.dchan ch).pc = (b.dchan ch).pc + 1))
  ∧ (∀ (t : Nat) (ch : Fin 64), Effect t (.dmaWaitMet t ch) (fun b => (b.dchan ch).state = .waiting ∧ (b.dchan
      ch).waitQ = none ∧ fld (b.dmaWord ch 0) 31 28 = 3 ∧ fld (b.dmaWord ch 0) 27 24 = 3 ∧ b.clk.lt < (b.dchan
      ch).waitSince + (b.dmaWord ch 1).toNat) (fun b n => n.dchan ch = b.dchan ch))
  ∧ (∀ (t : Nat) (ch : Fin 64), Effect t (.signal t ch) (fun b => (b.dchan ch).state = .running ∧ fld (b.dmaWord ch 0)
      31 28 = 4 ∧ (b.dchan ch).stop = false ∧ (b.page (101 + ch / 8)).mode = .active ∧ b.resetDrains (101 + ch / 8) =
      false ∧ (b.dchan ch).pc < 63 ∧ b.dmaTurn ch = true ∧ bit (b.dmaWord ch 0) 22 = false ∧ bit (b.dmaWord ch 0) 26 =
      true ∧ (rangeOf (b.signalAddr ch)).isMem = true ∧ b.memCheck b.pt.active (b.dmaAcc ch b.pt.active).part 9
      (b.signalAddr ch) 4 .write = none ∧ b.mirrorClosed (b.dmaAcc ch b.pt.active).part (b.signalAddr ch) 4 = false)
      (fun b n => (n.dchan ch).state = .running ∧ (n.dchan ch).pc = (b.dchan ch).pc + 1 ∧ n.readNum (b.signalAddr ch) 4
      = (b.dmaWord ch 3).toNat ∧ (n.dchan ch).bytes = ((b.dchan ch).bytes + 4) % 2 ^ 64 ∧ n.resp = b.resp))
  ∧ (∀ (t : Nat) (ch : Fin 64), Effect t (.signal t ch) (fun b => (b.dchan ch).state = .running ∧ fld (b.dmaWord ch 0)
      31 28 = 4 ∧ (b.dchan ch).stop = false ∧ (b.page (101 + ch / 8)).mode = .active ∧ b.resetDrains (101 + ch / 8) =
      false ∧ (b.dchan ch).pc < 63 ∧ bit (b.dmaWord ch 0) 22 = false ∧ bit (b.dmaWord ch 0) 26 = false ∧ bit (b.dmaWord
      ch 0) 27 = true) (fun b n => (n.dchan ch).state = .running ∧ (n.dchan ch).pc = (b.dchan ch).pc + 1 ∧ n.reg
      (R.EVT_STATUS (101 + ch / 8)) = setBit (b.reg (R.EVT_STATUS (101 + ch / 8))) (ch % 8) true))
  ∧ (∀ (t : Nat) (ch : Fin 64), Effect t (.dmaFault t ch none) (fun b => (b.dchan ch).state = .running ∧ 7 ≤ fld
      (b.dmaWord ch 0) 31 28) (fun b n => (n.dchan ch).state = .fault ∧ (n.dchan ch).cause = .badOpcode ∧ (n.dchan
      ch).faultAddr = b.dmaPcAddr ch ∧ (n.dchan ch).pc = (b.dchan ch).pc ∧ n.regB (R.EVT_STATUS (101 + ch / 8)) 8 =
      true))
  ∧ (∀ (t : Nat) (ch : Fin 64) (addr : Nat), Effect t (.dmaFault t ch (some addr)) (fun b => (b.dchan ch).state =
      .running ∧ inDram addr 1 = true ∧ (b.dchan ch).move.isSome = true) (fun b n => (n.dchan ch).state = .fault ∧
      (n.dchan ch).cause = .busError ∧ (n.dchan ch).faultAddr = addr ∧ n.regF R.DRAMC_ECC 31 16 = min 65535 (b.regF
      R.DRAMC_ECC 31 16 + 1)))

/-- R250: a ready channel issues when it is its turn. R236, R240, R243: a MOVE that fills a queue with at most 64 bytes of its pattern completes with its instruction. R248: a
RING whose next descriptor is not owned, with EMPTY = 0, goes on. R249: a completed ring step is written back with OWN = 0
and the ring index moves on. -/
def Obligations.DmaMovesAndRings : Prop :=
  (∀ (t : Nat) (ch : Fin 64) (ecc : EccFound) (m : DmaMove), Effect t (.move t ch ecc) (fun b => (b.dchan ch).state =
      .running ∧ fld (b.dmaWord ch 0) 31 28 = 1 ∧ (b.dchan ch).stop = false ∧ (b.page (101 + ch / 8)).mode = .active ∧
      b.resetDrains (101 + ch / 8) = false ∧ (b.dchan ch).pc < 63 ∧ b.dmaTurn ch = true ∧ (b.dchan ch).move = none ∧ m =
      (b.dchan ch).moveOf (b.dmaWord ch 0) (b.dmaWord ch 1) (b.dmaWord ch 2) (b.dmaWord ch 3) none ∧ b.moveRefused ch m
      = none ∧ m.skind = 2 ∧ m.dkind = 1 ∧ m.len ≤ 64) (fun b n => (n.dchan ch).state = .running ∧ (n.dchan ch).pc =
      (b.dchan ch).pc + 1 ∧ (n.dchan ch).move = none ∧ ((n.dchan ch).lastResult = .ok ∨ (n.dchan ch).lastResult =
      .destDropped) ∧ n.resp = b.resp))
  ∧ (∀ (t : Nat) (ch : Fin 64), Effect t (.ring t ch .clean) (fun b => (b.dchan ch).state = .running ∧ fld (b.dmaWord
      ch 0) 31 28 = 5 ∧ (b.dchan ch).stop = false ∧ (b.page (101 + ch / 8)).mode = .active ∧ b.resetDrains (101 + ch /
      8) = false ∧ (b.dchan ch).pc < 63 ∧ b.dmaTurn ch = true ∧ (b.dchan ch).back = none ∧ (b.dchan ch).move = none ∧
      fld (b.dmaWord ch 0) 27 24 ≠ 0 ∧ fld (b.dmaWord ch 1) 4 0 = 0 ∧ (rangeOf (b.dmaRingBase ch + 32 * (b.dchan
      ch).ringIdx)).isMem = true ∧ b.memCheck b.pt.active (b.dmaAcc ch b.pt.active).part 9 (b.dmaRingBase ch + 32 *
      (b.dchan ch).ringIdx) 32 .read = none ∧ bit (word (b.readNum (b.dmaRingBase ch + 32 * (b.dchan ch).ringIdx) 4)) 31
      = false ∧ b.ringEmpty ch = 0) (fun b n => (n.dchan ch).state = .running ∧ (n.dchan ch).pc = (b.dchan ch).pc + 1 ∧
      (n.dchan ch).ringIdx = (b.dchan ch).ringIdx))
  ∧ (∀ (t : Nat) (ch : Fin 64) (d : WriteBack), Effect t (.ringWriteback t ch) (fun b => (b.dchan ch).state = .running
      ∧ fld (b.dmaWord ch 0) 31 28 = 5 ∧ (b.dchan ch).stop = false ∧ (b.page (101 + ch / 8)).mode = .active ∧
      b.resetDrains (101 + ch / 8) = false ∧ (b.dchan ch).pc < 63 ∧ b.dmaTurn ch = true ∧ (b.dchan ch).back = some d ∧
      (rangeOf (d.desc + 0x18)).isMem = true ∧ (rangeOf d.desc).isMem = true ∧ b.memCheck b.pt.active (b.dmaAcc ch
      b.pt.active).part 9 (d.desc + 0x18) 8 .write = none ∧ b.memCheck b.pt.active (b.dmaAcc ch b.pt.active).part 9
      d.desc 4 .write = none ∧ b.mirrorClosed (b.dmaAcc ch b.pt.active).part (d.desc + 0x18) 8 = false ∧ b.mirrorClosed
      (b.dmaAcc ch b.pt.active).part d.desc 4 = false) (fun b n => (n.dchan ch).back = none ∧ (n.dchan ch).ringIdx =
      ((b.dchan ch).ringIdx + 1) % b.dmaRingSize ch ∧ n.readNum d.desc 4 = (setBit d.word0 31 false).toNat ∧ n.resp =
      b.resp))

/-- R261 to R266: the gateway admits the event at the head of its queue under its source entry, and its route jobs follow those
already waiting, one for each entry of the chain. R270 to R272: a SIGNAL route writes the value of a load channel.
R273: a container's frame closes at the end of its window, and is discarded where P25 is not enabled or its page not active. R274, R212: the
frames of P25 are read from its highest queue, and count as sent; nothing is taken from one with an uncorrectable error.
R264, R265: a draining group is done with its last job; GW_SLOT_CLR clears one slot or all. R288: an event or a job whose
tables fail their ECC is dropped with reason ECC and ECC_UNCORR. -/
def Obligations.GatewayJobs : Prop :=
  (∀ (t : Nat) (e : GwEvent) (rest : List GwEvent) (i : Nat) (ecc : EccFound), Effect t (.gwEventAdmit t ecc) (fun b
      => ecc ≠ .uncorrectable ∧ b.gway.queue = e :: rest ∧ b.regB R.GW_CTRL 0 = true ∧ b.pageActive 109 = true ∧
      gwLookup b.gwSet.active e = some i ∧ b.groupOn (gwGroup b.gwSet.active i) = true ∧ (b.groupOwner (gwGroup
      b.gwSet.active i) = 0 ∨ b.ownsSource (b.groupOwner (gwGroup b.gwSet.active i)) e = true) ∧ (b.trigger (gwEntry
      b.gwSet.active i 3) e).1 = true) (fun b n => n.gway.queue = rest ∧ n.gway.jobs.map (·.entry) = b.gway.jobs.map
      (·.entry) ++ (chainOf b.gwSet.active 64 (fld (gwEntry b.gwSet.active i 2) 16 0)).1))
  ∧ (∀ (t : Nat) (e : GwEvent) (rest : List GwEvent), Effect t (.gwEventAdmit t .uncorrectable) (fun b => b.gway.queue
      = e :: rest ∧ b.regB R.GW_CTRL 0 = true ∧ b.pageActive 109 = true) (fun b n => n.gway.queue = rest ∧ n.gway.jobs =
      b.gway.jobs ∧ n.gway.lastReason = some .ecc ∧ n.regB (R.EVT_STATUS 109) 2 = true))
  ∧ (∀ (t : Nat) (j : RouteJob) (rest : List RouteJob) (w0 w1 w2 w3 : Word) (y : Int) (ecc : EccFound), Effect t
      (.gwRouteJob t ecc) (fun b => ecc ≠ .uncorrectable ∧ b.gway.jobs = j :: rest ∧ b.jobMayRun j = true ∧ j.rights =
      true ∧ w0 = gwEntry (b.gwSet.copyOf j.colour) j.entry 0 ∧ w1 = gwEntry (b.gwSet.copyOf j.colour) j.entry 1 ∧ w2 =
      gwEntry (b.gwSet.copyOf j.colour) j.entry 2 ∧ w3 = gwEntry (b.gwSet.copyOf j.colour) j.entry 3 ∧ fld w1 29 28 = 1
      ∧ routeValid 1 j.event.kind w2 = true ∧ sinkKind w2 = 3 ∧ (fieldBits (fld w0 8 0) (fld w0 13 9 + 1) (bit w0
      14)).any (fun k => 8 * j.event.data.length ≤ k) = false ∧ bit w0 23 = false ∧ y = convert w0 w3 (fld w0 13 9 + 1)
      (fieldValue j.event.data (fieldBits (fld w0 8 0) (fld w0 13 9 + 1) (bit w0 14)))) (fun b n => n.gway.jobs = rest ∧
      (n.chan (sinkIdx w2)).gwWrites = ((b.chan (sinkIdx w2)).gwWrites + 1) % 256 ∧ (n.chan (sinkIdx w2)).gwValue = (if
      65535 ≤ y then (b.chan (sinkIdx w2)).gwValue else y.toNat)))
  ∧ (∀ (t : Nat) (j : RouteJob) (rest : List RouteJob), Effect t (.gwRouteJob t .uncorrectable) (fun b => b.gway.jobs =
      j :: rest ∧ b.jobMayRun j = true) (fun _ n => n.gway.jobs = rest ∧ n.gway.lastReason = some .ecc ∧
      n.gway.lastEntry = j.entry ∧ n.regB (R.EVT_STATUS 109) 2 = true))
  ∧ (∀ (t : Nat) (c : Fin 32) (f : OpenFrame), Effect t (.containerClose t c) (fun b => (b.container c).open' = some f
      ∧ f.opened + fld f.batch 17 0 * 1000 ≤ b.clk.lt ∧ b.portEn 25 = true ∧ b.pageActive 82 = true) (fun b n =>
      (n.container c).open' = none ∧ (n.container c).seq = (if (b.container c).seen then ((b.container c).seq + 1) % 256
      else 0) ∧ (n.container c).seen = true ∧ n.regF (R.TUN_CNT c) 15 0 = min 65535 (b.regF (R.TUN_CNT c) 15 0 + 1)))
  ∧ (∀ (t : Nat) (c : Fin 32) (f : OpenFrame), Effect t (.containerClose t c) (fun b => (b.container c).open' = some f
      ∧ f.opened + fld f.batch 17 0 * 1000 ≤ b.clk.lt ∧ (b.portEn 25 = false ∨ b.pageActive 82 = false)) (fun b n =>
      n.container c = { b.container c with open' := none } ∧ n.regB (R.EVT_STATUS 110) 1 = true))
  ∧ (∀ (t : Nat) (p : Packet) (rest : List Packet) (ecc : EccFound), Effect t (.gwP25FrameIn t ecc) (fun b => (b.queue
      207).visible = p :: rest ∧ b.p25Ready 207 = true ∧ p.copy.all (fun m => m.txMirror.isNone || m.mirror) = true)
      (fun b n => (n.queue 207).visible = rest ∧ (n.port 25).txBytes = (if p.copy.isSome then ((b.port 25).txBytes +
      (p.copy.map (·.len)).getD 0) % 2 ^ 64 else (b.port 25).txBytes)))
  ∧ (∀ (t : Nat), Effect t (.gwP25FrameIn t .uncorrectable) (fun b => b.p25Ready 207 = true) (fun b n => n.gway =
      b.gway ∧ n.regF R.QMGR_ECC 31 16 = min 65535 (b.regF R.QMGR_ECC 31 16 + 1)))
  ∧ (∀ (t : Nat) (g : Fin 256), Effect t (.groupDone t g) (fun b => b.gway.draining.contains g.val = true ∧
      b.allJobs.any (fun j => j.group == g.val) = false) (fun b n => n.gway =
      { b.gway with draining := b.gway.draining.erase g } ∧ n.regB (R.EVT_STATUS 109) 1 = true))
  ∧ (∀ (a : Acc) (all : Bool) (slot : Fin 4096), WriteEffect a (R.GW_SLOT_CLR) (.gwSlotClr a all slot) (fun _ => True)
      (fun b n => if all then n.gway.slots = [] else n.slot slot = 0 ∧ ∀ k, k ≠ slot.val → n.slot k = b.slot k))

/-- R278, R279: a valid transmit request opens a sending session in the lowest free slot, and its packet leaves the queue; one that
is not valid is discarded and noted with LOCAL = 1. R276, R281: an RTS of 9 to 1,785 bytes opens a receiving session, and one of another size opens
none. R277, R280: a CTS that has been sent starts T2; a timer that expires aborts its session with reason 3, but a BAM session ends in silence; a
gap ends. -/
def Obligations.TransportSessions : Prop :=
  (∀ (t : Nat) (ch : Fin 12) (ecc : EccFound) (p : Packet) (sa da size k : Nat), Effect t (.tpeTxRequest t ch ecc)
      (fun b => b.tpeServes ch = true ∧ b.pageActive 111 = true ∧ b.stopsWork (b.queueOwner (b.tpeTxq ch)) = false ∧
      b.freeSlot = some k ∧ b.tpe.sessions.any (fun x => x.2.state != .free && x.2.ch == ch && x.2.tx && x.2.own == sa
      && (if da = 255 then x.2.mode == .bam else x.2.mode != .bam && x.2.peer == da)) = false ∧ (b.queue (b.tpeTxq
      ch)).visible.head? = some p ∧ sa = leVal ((p.data.drop 12).take 1) ∧ da = leVal ((p.data.drop 13).take 1) ∧ size =
      leVal ((p.data.drop 16).take 4) % 2 ^ 17 ∧ p.data.length = size + 24 ∧ 9 ≤ size ∧ size ≤ 65536 ∧ b.ownAddr ch sa =
      true ∧ (da = 255 → size ≤ 1785)) (fun b n => (n.sess k).state = .sending ∧ (n.sess k).tx = true ∧ (n.sess k).ch =
      ch ∧ (n.sess k).own = sa ∧ (n.sess k).peer = da ∧ (n.sess k).size = size ∧ (n.sess k).mode = (if da = 255 then
      .bam else if size ≤ 1785 then .rts else .etp) ∧ b.queueLeft n (b.tpeTxq ch) ((b.queue (b.tpeTxq ch)).visible.drop
      1)))
  ∧ (∀ (t : Nat) (ch : Fin 12) (ecc : EccFound) (p : Packet) (da : Nat), Effect t (.tpeTxRequest t ch ecc) (fun b =>
      b.tpeServes ch = true ∧ b.pageActive 111 = true ∧ b.stopsWork (b.queueOwner (b.tpeTxq ch)) = false ∧ (b.queue
      (b.tpeTxq ch)).visible.head? = some p ∧ da = leVal ((p.data.drop 13).take 1) ∧ (p.data.length ≠ leVal
      ((p.data.drop 16).take 4) % 2 ^ 17 + 24 ∨ leVal ((p.data.drop 16).take 4) % 2 ^ 17 < 9 ∨ 65536 < leVal
      ((p.data.drop 16).take 4) % 2 ^ 17 ∨ b.ownAddr ch (leVal ((p.data.drop 12).take 1)) = false ∨ (da = 255 ∧ 1785 <
      leVal ((p.data.drop 16).take 4) % 2 ^ 17))) (fun b n => n.tpe.sessions = b.tpe.sessions ∧ fld n.tpe.lastAbort 21
      20 = 2 ∧ fld n.tpe.lastAbort 15 0 = da * 256 ∧ n.regB (R.EVT_STATUS 111) 2 = true ∧ b.queueLeft n (b.tpeTxq ch)
      ((b.queue (b.tpeTxq ch)).visible.drop 1)))
  ∧ (∀ (t : Nat) (ch : Fin 12) (frame : CanFrame) (stamp own k : Nat), Effect t (.tpeFrameRx t ch frame stamp) (fun b
      => own = frame.id / 256 % 256 ∧ b.tpeServes ch = true ∧ b.pageActive 111 = true ∧ b.freeSlot = some k ∧ b.findSess
      ch own (frame.id % 256) false (fun m => m != .bam) = none ∧ frame.ide = true ∧ frame.rtr = false ∧ frame.fdf =
      false ∧ frame.xlf = false ∧ frame.data.length = 8 ∧ frame.id / 2 ^ 16 % 2 ^ 10 = 0xEC ∧ own ≠ 255 ∧ b.ownAddr ch
      own = true ∧ leVal (frame.data.take 1) = 16 ∧ 9 ≤ leVal ((frame.data.drop 1).take 2) ∧ leVal ((frame.data.drop
      1).take 2) ≤ 1785) (fun _ n => (n.sess k).state = .receiving ∧ (n.sess k).mode = .rts ∧ (n.sess k).ch = ch ∧
      (n.sess k).own = own ∧ (n.sess k).peer = frame.id % 256 ∧ (n.sess k).size = leVal ((frame.data.drop 1).take 2) ∧
      (n.sess k).pgn = leVal ((frame.data.drop 5).take 3) % 2 ^ 18))
  ∧ (∀ (t : Nat) (ch : Fin 12) (frame : CanFrame) (stamp : Nat), Effect t (.tpeFrameRx t ch frame stamp) (fun b =>
      b.tpe.sessions = [] ∧ b.tpe.extra = [] ∧ b.pageActive 111 = true ∧ frame.id / 2 ^ 16 % 2 ^ 10 = 0xEC ∧ frame.id /
      256 % 256 ≠ 255 ∧ leVal (frame.data.take 1) = 16 ∧ (leVal ((frame.data.drop 1).take 2) < 9 ∨ 1785 < leVal
      ((frame.data.drop 1).take 2))) (fun b n => n.tpe = b.tpe))
  ∧ (∀ (t : Nat) (ch : Fin 12) (k count next : Nat) (x : Session), Effect t (.tpeTxFrameDone t ch) (fun b => KMap.get?
      b.tpe.flight ch = some ⟨some k, .cts count next⟩ ∧ (b.mb ch (b.regF (R.TPE_CHCFG ch) 6 0)).code = .txDone ∧
      b.tpe.sessions.filter (fun e => e.1 == k) = [(k, x)]) (fun b n => (n.sess k).timer = .t2 ∧ (n.sess k).since =
      b.clk.lt ∧ (n.sess k).state = x.state))
  ∧ (∀ (t : Nat) (slot : Fin 256) (x : Session), Effect t (.tpeTimerExpiry t slot) (fun b => b.tpe.sessions.filter (fun
      e => e.1 == slot.val) = [(slot.val, x)] ∧ x.state ≠ .free ∧ x.timer ≠ .none ∧ x.since + x.timer.ns ≤ b.clk.lt ∧
      x.mode ≠ .bam) (fun _ n => (n.sess slot).state = .free ∧ (n.sess slot).reason = 3 ∧ n.tpe.lastPgn = x.pgn % 2 ^ 18
      ∧ n.tpe.lastAbort = word (slot.val % 256 * 2 ^ 24 + 2 ^ 20 + x.ch * 2 ^ 16 + x.peer % 256 * 256 + 3) ∧ n.regB
      (R.EVT_STATUS 111) 2 = true))
  ∧ (∀ (t : Nat) (slot : Fin 256) (x : Session), Effect t (.tpeTimerExpiry t slot) (fun b => b.tpe.sessions.filter (fun
      e => e.1 == slot.val) = [(slot.val, x)] ∧ x.state ≠ .free ∧ x.timer ≠ .none ∧ x.since + x.timer.ns ≤ b.clk.lt ∧
      x.mode = .bam) (fun b n => (n.sess slot).state = .free ∧ n.tpe.lastAbort = b.tpe.lastAbort ∧ n.reg
      R.TPE_ABORT_SENT = b.reg R.TPE_ABORT_SENT))
  ∧ (∀ (t : Nat) (slot : Fin 256) (x : Session) (g : Nat), Effect t (.tpeGapExpiry t slot) (fun b =>
      b.tpe.sessions.filter (fun e => e.1 == slot.val) = [(slot.val, x)] ∧ x.gapUntil = some g ∧ g ≤ b.clk.lt) (fun _ n
      => (n.sess slot).gapUntil = none ∧ (n.sess slot).state = x.state))

/-- R322, R326 to R329: PART_CMD with its key resets a RUNNING partition, starts a STOPPED one, or resets one so that it runs
again, and says ACCEPTED; one that does not run is reset at once; a wrong key, partition 0 and a partition in the wrong state are
refused. The cluster restarts with every partition that ran on it. R314: a stopped pair 0 resets partition 0, and a stopped pair 1 the partitions
1 to 3 that ran. -/
def Obligations.PartitionCommands : Prop :=
  (∀ (a : Acc) (target : Fin 32), WriteEffect a (R.PART_CMD) (.partReset a 0xA5 target) (fun b => target ≠ 0 ∧
      (b.part target).state = .running) (fun b n => (n.part target).state = .resetting ∧ (n.part target).cause =
      .command ∧ (n.part target).restart = false ∧ (n.part target).start = b.clk.lt ∧ (n.part target).scope =
      b.pt.active ∧ n.parts.cmdTarget = target ∧ n.parts.cmdResult = .accepted))
  ∧ (∀ (a : Acc) (target : Fin 32), WriteEffect a (R.PART_CMD) (.restart a 0xA5 target) (fun b => target ≠ 0 ∧ (b.part
      target).state = .running) (fun _ n => (n.part target).state = .resetting ∧ (n.part target).cause = .command ∧
      (n.part target).restart = true ∧ n.parts.cmdResult = .accepted))
  ∧ (∀ (a : Acc) (target : Fin 32), WriteEffect a (R.PART_CMD) (.partStart a 0xA5 target) (fun b => target ≠ 0 ∧
      (b.part target).state = .stopped) (fun b n => n.part target = { b.part target with state := .running } ∧
      n.parts.cmdTarget = target ∧ n.parts.cmdResult = .accepted))
  ∧ (∀ (a : Acc) (target : Fin 32) (key : Byte), WriteEffect a (R.PART_CMD) (.partReset a key target) (fun _ => key ≠
      0xA5) (fun b n => n.parts = { b.parts with cmdTarget := target, cmdResult := .refusedKey }))
  ∧ (∀ (a : Acc) (target : Fin 32), WriteEffect a (R.PART_CMD) (.partReset a 0xA5 target) (fun _ => target = 0) (fun b
      n => n.parts = { b.parts with cmdTarget := target, cmdResult := .refusedTarget }))
  ∧ (∀ (a : Acc) (target : Fin 32), WriteEffect a (R.PART_CMD) (.partReset a 0xA5 target) (fun b => target ≠ 0 ∧
      (b.part target).state = .resetting) (fun b n => n.parts =
      { b.parts with cmdTarget := target, cmdResult := .refusedState }))
  ∧ (∀ (a : Acc) (target : Fin 32) (key : Byte), WriteEffect a (R.PART_CMD) (.restart a key target) (fun _ => key ≠
      0xA5) (fun b n => n.parts = { b.parts with cmdTarget := target, cmdResult := .refusedKey }))
  ∧ (∀ (a : Acc) (target : Fin 32), WriteEffect a (R.PART_CMD) (.restart a 0xA5 target) (fun _ => target = 0) (fun b n
      => n.parts = { b.parts with cmdTarget := target, cmdResult := .refusedTarget }))
  ∧ (∀ (a : Acc) (target : Fin 32), WriteEffect a (R.PART_CMD) (.restart a 0xA5 target) (fun b => target ≠ 0 ∧ (b.part
      target).state = .resetting) (fun b n => n.parts =
      { b.parts with cmdTarget := target, cmdResult := .refusedState }))
  ∧ (∀ (a : Acc) (target : Fin 32) (key : Byte), WriteEffect a (R.PART_CMD) (.partStart a key target) (fun _ => key ≠
      0xA5) (fun b n => n.parts = { b.parts with cmdTarget := target, cmdResult := .refusedKey }))
  ∧ (∀ (a : Acc) (target : Fin 32), WriteEffect a (R.PART_CMD) (.partStart a 0xA5 target) (fun _ => target = 0) (fun b
      n => n.parts = { b.parts with cmdTarget := target, cmdResult := .refusedTarget }))
  ∧ (∀ (a : Acc) (target : Fin 32), WriteEffect a (R.PART_CMD) (.partStart a 0xA5 target) (fun b => target ≠ 0 ∧
      (b.part target).state = .resetting) (fun b n => n.parts =
      { b.parts with cmdTarget := target, cmdResult := .refusedState }))
  ∧ (∀ (a : Acc) (target : Fin 32), WriteEffect a (R.PART_CMD) (.partStart a 0xA5 target) (fun b => target ≠ 0 ∧
      ((b.part target).state = .running ∨ (b.part target).state = .off)) (fun b n => n.parts =
      { b.parts with cmdTarget := target, cmdResult := .refusedState }))
  ∧ (∀ (a : Acc) (target : Fin 32), WriteEffect a (R.PART_CMD) (.partReset a 0xA5 target) (fun b => target ≠ 0 ∧
      ((b.part target).state = .stopped ∨ (b.part target).state = .off)) (fun b n => (n.part target).state = (if
      (ptValid b.pt.active).contains target.val then .stopped else .off) ∧ (n.part target).cause = .command ∧
      n.parts.lastPart = target ∧ n.parts.cmdResult = .accepted ∧ n.regB (R.EVT_STATUS 10) 0 = true))
  ∧ (∀ (a : Acc) (target : Fin 32), WriteEffect a (R.PART_CMD) (.restart a 0xA5 target) (fun b => target ≠ 0 ∧ ((b.part
      target).state = .stopped ∨ (b.part target).state = .off)) (fun b n => (n.part target).state = (if (ptValid
      b.pt.active).contains target.val then .running else .off) ∧ (n.part target).cause = .command ∧ n.parts.lastPart =
      target ∧ n.parts.cmdResult = .accepted ∧ n.regB (R.EVT_STATUS 10) 0 = true))
  ∧ (∀ (t : Nat), Effect t (.cluster t none) (fun _ => True) (fun b n => n.parts.clusterDown = true ∧ (∀ p : Fin 32, 4
      ≤ p.val → (b.part p).state = .running → (n.part p).state = .resetting ∧ (n.part p).cause = .cluster) ∧ n.regB
      (R.EVT_STATUS 10) 3 = true))
  ∧ (∀ (a : Acc) (t : Nat), WriteEffect a (R.PART_CMD) (.cluster t (some (a, 0xA5))) (fun _ => True) (fun b n =>
      n.parts.clusterDown = true ∧ n.parts.cmdResult = .accepted ∧ n.parts.cmdTarget = 0 ∧ (∀ p : Fin 32, 4 ≤ p.val →
      (b.part p).state = .running → (n.part p).state = .resetting ∧ (n.part p).cause = .cluster) ∧ n.regB (R.EVT_STATUS
      10) 3 = true))
  ∧ (∀ (a : Acc) (t : Nat) (key : Byte), WriteEffect a (R.PART_CMD) (.cluster t (some (a, key))) (fun _ => key ≠ 0xA5)
      (fun b n => n.parts = { b.parts with cmdTarget := 0, cmdResult := .refusedKey }))
  ∧ (∀ (t : Nat), Effect t (.lockstep t 1) (fun _ => True) (fun b n => (∀ p : Fin 4, p.val ≠ 0 → (b.part p).state =
      .running → (n.part p).state = .resetting ∧ (n.part p).cause = .lockstep ∧ (n.part p).restart = false) ∧ n.regB
      (R.EVT_STATUS 10) 2 = true))
  ∧ (∀ (t : Nat), Effect t (.lockstep t 0) (fun b => (b.part 0).state = .running) (fun b n => (n.part 0).state =
      .resetting ∧ (n.part 0).cause = .lockstep ∧ (n.part 0).restart = true ∧ (n.part 0).start = b.clk.lt))

/-- R323 to R325: a drain with nothing left in flight, and then a squash with no item left, end in CLEAN. R322: a completed
reset leaves RESETTING for RUNNING, STOPPED or OFF and is recorded. R328: a reloaded monitor ends the resets of the
cluster. R313: at the end of a slice the next running partition follows. R330: the scrubber goes on to its next granule
when that is due, and records an uncorrectable error there as requester 31; a pop frees the error record. -/
def Obligations.PartitionResets : Prop :=
  (∀ (t : Nat) (p : Fin 32), Effect t (.partDrainEnd t p) (fun b => (b.part p).state = .resetting ∧ (b.part p).phase
      = .drain ∧ b.partInflight p = 0) (fun b n => (n.part p).state = .resetting ∧ (n.part p).phase = .squash ∧ (n.part
      p).cause = (b.part p).cause))
  ∧ (∀ (t : Nat) (p : Fin 32), Effect t (.partDrainEnd t p) (fun b => (b.part p).state = .resetting ∧ (b.part p).phase
      = .drain ∧ b.partInflight p ≠ 0 ∧ (b.part p).drainEnd ≤ b.clk.lt) (fun _ n => (n.part p).state = .resetting ∧
      (n.part p).phase = .squash ∧ (n.part p).timeout = true))
  ∧ (∀ (t : Nat) (p : Fin 32), Effect t (.partSquashDone t p) (fun b => (b.part p).state = .resetting ∧ (b.part
      p).phase = .squash ∧ b.partItems p true = 0) (fun b n => n.part p = { b.part p with phase := .clean }))
  ∧ (∀ (t : Nat) (p : Fin 32), Effect t (.resetDone t p) (fun b => (b.part p).state = .resetting ∧ (b.part p).phase =
      .clean ∧ b.partXacts p = 0 ∧ b.hostReady p = true) (fun b n => (n.part p).state = (if p = 0 then .running else if
      (ptValid b.pt.active).contains p.val = false then .off else if (b.part p).restart = true ∨ ((b.part p).cause.auto
      = true ∧ b.autoStart p = true) then .running else .stopped) ∧ (n.part p).cause = (b.part p).cause ∧
      n.parts.lastPart = p ∧ n.parts.lastTime = (b.part p).start ∧ n.regB (R.EVT_STATUS 10) 0 = true))
  ∧ (∀ (t : Nat), Effect t (.clusterReload t) (fun b => b.parts.clusterDown = true ∧ b.clusterParts.all (fun p =>
      (b.part p).phase == .clean && b.partXacts p == 0) = true) (fun b n => n.parts.clusterDown = false ∧ ∀ p ∈
      b.clusterParts, (n.part p).state ≠ .resetting))
  ∧ (∀ (t : Nat) (core : Fin 10) (p since : Nat), Effect t (.sliceEnd t core) (fun b => KMap.get? b.parts.current core
      = some (p, since) ∧ since + b.sliceNs p ≤ b.clk.lt) (fun b n => KMap.get? n.parts.current core = (b.nextOn core
      p).map (fun q => (q, b.clk.lt)) ∧ n.parts.table = b.parts.table))
  ∧ (∀ (t : Nat), Effect t (.scrubStep t .clean) (fun b => b.scrubbing = true ∧ b.dramc.due ≤ b.clk.lt * 2 ^ 28) (fun b
      n => n.dramc.pos = (b.dramc.pos + 1) % 268435456 ∧ n.dramc.errValid = b.dramc.errValid ∧ b.clk.lt * 2 ^ 28 <
      n.dramc.due))
  ∧ (∀ (t : Nat), Effect t (.scrubStep t .uncorrectable) (fun b => b.scrubbing = true ∧ b.dramc.due ≤ b.clk.lt * 2 ^
      28) (fun b n => n.dramc.pos = (b.dramc.pos + 1) % 268435456 ∧ n.dramc.errValid = true ∧ n.regF R.DRAMC_ECC 31 16 =
      min 65535 (b.regF R.DRAMC_ECC 31 16 + 1) ∧ n.regB (R.EVT_STATUS 116) 0 = true ∧ (b.dramc.errValid = false →
      n.dramc.errAddr = 0x800000000 + 64 * b.dramc.pos ∧ n.dramc.errReq = 31 ∧ n.dramc.errPart = 0 ∧ n.dramc.errTime =
      b.clk.lt)))
  ∧ (∀ (t : Nat) (found : EccFound), Effect t (.scrubStep t found) (fun b => b.scrubbing = false ∨ b.clk.lt * 2 ^ 28 <
      b.dramc.due) (fun b n => n.dramc = b.dramc))
  ∧ (∀ (a : Acc) , WriteEffect a (R.DRAMC_ERR_POP) (.dramcErrPop a) (fun _ => True) (fun b n => n.dramc =
      { b.dramc with errValid := false, errMore := false }))

/-- R331, R338, R339: Encke's choice of a deeper state begins its entry, which completes after the entry time; at the exit
timer the exit begins, and at its end the module is in RUN; the load-stage clock stops in DORMANT alone, and an exit from DORMANT reads the
straps and starts afresh at the LOCAL_TIME reached (R439). R335: a high load of the fabric takes DROWSE to NAP for 100
ms. R337, R351: a write of PWR_NEXT_NEED_HI puts the need in effect; R344: a need that falls due can end READY. -/
def Obligations.PowerStates : Prop :=
  (∀ (t : Nat) (executing : Bool) (timers : List (Fin 32 × Nat)) (st1 : PwrState), Effect t (.enckeChoose t executing
      timers) (fun b => b.pwr.target = none ∧ b.pwr.exiting = false ∧ b.pwr.zsp.state ≠ .asleep ∧ (b.setPwr
      { b.pwr with executing := executing }).encke ((b.setPwr { b.pwr with executing := executing }).knownEvents timers)
      = st1 ∧ b.pwr.state.code < st1.code) (fun b n => n.pwr.target = some st1 ∧ n.pwr.began = b.clk.lt ∧ n.pwr.state =
      b.pwr.state ∧ n.pwr.executing = executing))
  ∧ (∀ (t : Nat) (st1 : PwrState), Effect t (.powerStateEntered t) (fun b => b.pwr.target = some st1 ∧ b.pwr.began +
      st1.entryNs ≤ b.clk.lt) (fun b n => n.pwr.state = st1 ∧ n.pwr.target = none ∧ (st1 = .park ∨ st1 = .dormant →
      n.clk.parkAt = b.clk.lt) ∧ (st1 = .dormant → n.load.clockOn = false)))
  ∧ (∀ (t : Nat) (x : Nat), Effect t (.enckeExitTimer t) (fun b => b.pwr.exitAt = some x ∧ x ≤ b.clk.lt ∧ b.pwr.target
      = none ∧ b.pwr.exiting = false ∧ b.pwr.state ≠ .run ∧ b.pwr.zsp.state ≠ .asleep) (fun b n => n.pwr.exiting = true
      ∧ n.pwr.exitAt = none ∧ n.pwr.began = b.clk.lt))
  ∧ (∀ (t : Nat) (paired : Bool) (unit : Fin 2), Effect t (.powerStateExited t paired unit) (fun b => b.pwr.exiting =
      true ∧ b.pwr.state ≠ .dormant) (fun b n => n.pwr.state = .run ∧ n.pwr.exiting = false ∧ n.pwr.executing = true ∧
      n.hw = b.hw ∧ n.regs = b.regs ∧ n.mem = b.mem ∧ n.load.clockOn = b.load.clockOn))
  ∧ (∀ (t : Nat) (paired : Bool) (unit : Fin 2), Effect t (.powerStateExited t paired unit) (fun b => b.pwr.exiting =
      true ∧ b.pwr.state = .dormant) (fun b n => n.pwr.state = .run ∧ n.pwr.exiting = false ∧ n.hw.paired = paired ∧
      n.hw.unitId = unit.val ∧ n.clk.lt = b.clk.lt ∧ n.staged = []))
  ∧ (∀ (t : Nat), Effect t (.fabricLoadHigh t) (fun b => b.pwr.state = .drowse ∧ b.pwr.slow = true) (fun b n =>
      n.pwr.state = .nap ∧ n.pwr.slow = false ∧ n.pwr.noDrowse = b.clk.lt + 100000000))
  ∧ (∀ (a : Acc) (val : Word), WriteEffect a (R.PWR_NEXT_NEED_HI) (.needDeclare a val) (fun _ => True) (fun b n =>
      (n.need (State.accPart a)).time = pairVal (b.need (State.accPart a)).lo val))
  ∧ (∀ (t : Nat) (p : Fin 32), Effect t (.needDue t p) (fun b => b.isRunning p = true ∧ (b.need p).time ≤ b.clk.lt ∧
      b.pwr.zsp.state = .ready ∧ b.notReady ≠ 0) (fun b n => n.pwr.zsp.state = .notReady ∧ n.pwr.zsp.reason =
      b.notReady))

/-- R341, R343, R345, R348: a QUERY of the coordinator starts a round and is answered READY or NOT_READY; a COMMIT sets T_c;
an ABORT of a round returns to AWAKE; an ANSWER of another node says whether it blocks. R346: at T_c the module falls
silent, and its LIN masters are asked for their go-to-sleep frames. R350: SLEEP commits the module without the protocol. -/
def Obligations.SleepProtocol : Prop :=
  (∀ (t : Nat) (eth : Bool) (ecc : EccFound) (body : List Byte) (stamp : Nat) (out : State), Effect t (.zspQuery t
      eth ecc) (fun b => b.zspTake eth ecc = some (body, stamp, out) ∧ body ≠ [] ∧ zspByte body 0 = 1 ∧ zspByte body 2 =
      b.regF R.PWR_ZSP_CFG 13 8 ∧ out.pwr.zsp.seen ≠ some (body, !eth) ∧ out.pwr.zsp.state.awakeLike = true) (fun _ n =>
      n.pwr.zsp.round = zspByte body 1 ∧ (n.pwr.zsp.state = .ready ∨ n.pwr.zsp.state = .notReady) ∧ n.regB (R.EVT_STATUS
      5) 0 = true))
  ∧ (∀ (t : Nat) (eth : Bool) (ecc : EccFound) (body : List Byte) (stamp : Nat) (out : State), Effect t (.zspCommit t
      eth ecc) (fun b => b.zspTake eth ecc = some (body, stamp, out) ∧ body ≠ [] ∧ zspByte body 0 = 3 ∧ zspByte body 2 =
      b.regF R.PWR_ZSP_CFG 13 8 ∧ out.pwr.zsp.seen ≠ some (body, !eth) ∧ out.pwr.zsp.state.awakeLike = true) (fun _ n =>
      n.pwr.zsp.state = .committed ∧ n.pwr.zsp.round = zspByte body 1 ∧ n.pwr.zsp.tc = stamp + max (zspByte body 4 + 256
      * zspByte body 5) 20 * 1000000 ∧ n.regB (R.EVT_STATUS 5) 1 = true))
  ∧ (∀ (t : Nat) (eth : Bool) (ecc : EccFound) (body : List Byte) (stamp : Nat) (out : State), Effect t (.zspAbort t
      eth ecc) (fun b => b.zspTake eth ecc = some (body, stamp, out) ∧ body ≠ [] ∧ zspByte body 0 = 4 ∧ zspByte body 2 =
      b.regF R.PWR_ZSP_CFG 13 8 ∧ out.pwr.zsp.seen ≠ some (body, !eth) ∧ (out.pwr.zsp.state = .ready ∨ out.pwr.zsp.state
      = .notReady)) (fun _ n => n.pwr.zsp.state = .awake ∧ n.regB (R.EVT_STATUS 5) 2 = true))
  ∧ (∀ (t : Nat) (eth : Bool) (ecc : EccFound) (body : List Byte) (stamp : Nat) (out : State), Effect t (.zspAnswer t
      eth ecc) (fun b => b.zspTake eth ecc = some (body, stamp, out) ∧ body ≠ [] ∧ zspByte body 0 = 2 ∧ zspByte body 1 =
      out.pwr.zsp.round ∧ zspByte body 2 < 64) (fun _ n => n.pwr.zsp.block.testBit (zspByte body 2) = decide (zspByte
      body 3 ≠ 0) ∧ n.pwr.zsp.state = out.pwr.zsp.state))
  ∧ (∀ (t : Nat), Effect t (.zspTc t) (fun b => b.pwr.zsp.state = .committed ∧ b.pwr.zsp.tc ≤ b.clk.lt) (fun b n =>
      n.pwr.zsp = { b.pwr.zsp with state := .asleep, silent := true } ∧ (∀ l : Fin 8, b.linMode l = 1 → (b.lin l).state
      = .awake → (n.lin l).sleepAsked = true)))
  ∧ (∀ (a : Acc) (delay : Fin 65536), WriteEffect a (R.PWR_CMD) (.localSleep a delay) (fun b => b.regB R.PWR_CFG 4 =
      false ∧ b.pwr.zsp.state.awakeLike = true) (fun b n => n.pwr.zsp =
      { b.pwr.zsp with state := .committed, tc := b.clk.lt + max delay.val 20 * 1000000 }))

/-- R344, R346, R347: a wake request before T_c is latched; WAKE asks by software; an active WAKE line wakes the module; the
lines are driven from their time for DRIVE_MS; WAKE_REASON is sent once on each bearer. R348, R349: the stay-awake log is
armed STAY_S after the first READY answer, and MAX_AWAKE ends a long wake. -/
def Obligations.NetworkWake : Prop :=
  (∀ (t : Nat) (cause : WakeCause) (index : Fin 256), Effect t (.wakeRequest t cause index) (fun b => cause.requests
      = true ∧ b.wakeKnown cause index = false ∧ b.pwr.zsp.state = .committed ∧ b.pwr.zsp.latched = none) (fun _ n =>
      n.pwr.zsp.latched = some (cause, index.val) ∧ n.pwr.zsp.state = .committed ∧ n.regB (R.EVT_STATUS 5) 4 = true))
  ∧ (∀ (a : Acc) , WriteEffect a (R.PWR_CMD) (.pwrWake a) (fun b => b.pwr.zsp.state = .awake) (fun b n =>
      n.pwr.zsp.request = some (b.pwr.zsp.request.getD (.software, 0)) ∧ n.pwr.zsp.state = .awake))
  ∧ (∀ (t : Nat) (lines : Fin 4), Effect t (.wakeLine t lines) (fun b => fld (word lines &&& (b.reg R.PWR_WAKE_CFG >>>
      16)) 1 0 ≠ 0 ∧ b.pwr.zsp.driving = none ∧ b.pwr.zsp.state = .asleep ∧ b.pwr.zsp.latched = none) (fun b n =>
      n.pwr.zsp.state = .awake ∧ n.pwr.zsp.cause = .wakeLine ∧ n.pwr.zsp.silent = false ∧ n.pwr.zsp.wakeLt = b.clk.lt ∧
      n.regB (R.EVT_STATUS 5) 3 = true))
  ∧ (∀ (t : Nat) (f : Nat), Effect t (.wakeDriveStart t) (fun b => b.pwr.zsp.latched = none ∧ b.pwr.zsp.driveFrom =
      some f ∧ f ≤ b.clk.lt) (fun b n => n.pwr.zsp = { b.pwr.zsp with driveFrom := none, driving := some b.clk.lt }))
  ∧ (∀ (t : Nat) (d : Nat), Effect t (.wakeDriveEnd t) (fun b => b.pwr.zsp.driving = some d ∧ d + b.driveNs ≤ b.clk.lt)
      (fun b n => n.pwr.zsp = { b.pwr.zsp with driving := none }))
  ∧ (∀ (t : Nat), Effect t (.wakeReasonSend t false) (fun b => b.pwr.zsp.silent = false ∧ b.pwr.zsp.reasonCan = true)
      (fun b n => n.pwr.zsp = { b.pwr.zsp with reasonCan := false }))
  ∧ (∀ (t : Nat), Effect t (.wakeReasonSend t true) (fun b => b.pwr.zsp.silent = false ∧ b.pwr.zsp.reasonEth = true)
      (fun b n => n.pwr.zsp = { b.pwr.zsp with reasonEth := false }))
  ∧ (∀ (t : Nat) (r : Nat), Effect t (.stayAwake t) (fun b => b.pwr.zsp.firstReady = some r ∧ b.regF R.PWR_ZSP_CTRL 15
      8 ≠ 0 ∧ b.pwr.zsp.salDone = false ∧ r + b.regF R.PWR_ZSP_CTRL 15 8 * 1000000000 ≤ b.clk.lt) (fun b n => n.pwr.zsp
      = { b.pwr.zsp with salDone := true } ∧ n.regB (R.EVT_STATUS 5) 5 = true ∧ ∀ c : Fin 12, b.regB R.PWR_ZSP_CTRL (16
      + c) = true → (n.can c).salArmed = true))
  ∧ (∀ (t : Nat), Effect t (.maxAwake t) (fun b => b.regF R.PWR_CFG 31 24 ≠ 0 ∧ b.regF R.PWR_CFG 31 24 * 60 ≤ b.awakeS
      ∧ b.regB R.PWR_ZSP_CTRL 0 = true ∧ b.pwr.zsp.maxDone = false ∧ b.pwr.zsp.state.awakeLike = true) (fun b n =>
      n.pwr.zsp = (if b.regB R.PWR_CFG 6 then
      { b.pwr.zsp with maxDone := true, state := .committed, tc := b.clk.lt + 20000000 } else
      { b.pwr.zsp with maxDone := true }) ∧ n.regB (R.EVT_STATUS 5) 6 = true))

/-- R356: the states of Uloft. A link that is DOWN trains every 1 ms; lanes in lock bring PARAM, and 1 ms without them
DOWN; a PARAM flit that passes R358 brings UP, and one that fails sets ID_CONFLICT or MODE_MISMATCH and bars an attempt for
1,000 ms; a lost lane or RETRAIN of ULF_CMD brings RETRAIN, from which locked lanes bring UP, unless
a flit is then sent for the eighth time (R363), and 200 µs DOWN. Entry into UP, RETRAIN and DOWN raises its event. -/
def Obligations.LinkTraining : Prop :=
  (∀ (t : Nat), Effect t (.ulfTrainStart t) (fun b => b.ulf.state = .down ∧ b.ulf.holdoff ≤ b.clk.lt ∧ b.ulf.since +
      1000000 ≤ b.clk.lt) (fun b n => n.ulf = { b.ulf with state := .train, since := b.clk.lt }))
  ∧ (∀ (t : Nat), Effect t (.ulfLanesLocked t) (fun b => b.ulf.state = .train ∧ b.clk.lt ≤ b.ulf.since + 1000000) (fun
      b n => n.ulf = { b.ulf with state := .param, since := b.clk.lt, lock := 3 }))
  ∧ (∀ (t : Nat), Effect t (.ulfTrainTimeout t) (fun b => b.ulf.state = .train ∧ b.ulf.since + 1000000 ≤ b.clk.lt) (fun
      b n => n.ulf = { b.ulf with state := .down, since := b.clk.lt, lock := 0 }))
  ∧ (∀ (t : Nat) (unit : Fin 2) (paired : Bool) (major p np c tun prc : Byte), Effect t (.ulfParamRx t unit paired
      major p np c tun prc) (fun b => b.ulf.state = .param ∧ unit.val ≠ b.hw.unitId ∧ paired = true ∧ b.hw.paired = true
      ∧ major = 1) (fun b n => n.ulf.state = .up ∧ (b.ulf.waitNp = [] → n.ulf.credNp = min 32 np.toNat) ∧ (b.ulf.waitC =
      [] → n.ulf.credC = min 96 c.toNat) ∧ (b.ulf.waitT = [] → n.ulf.credT = min 160 tun.toNat) ∧ n.ulf.ack = 0 ∧
      n.ulf.idConflict = false ∧ n.ulf.modeMismatch = false ∧ n.regB (R.EVT_STATUS 112) 0 = true))
  ∧ (∀ (t : Nat) (unit : Fin 2) (paired : Bool) (major p np c tun prc : Byte), Effect t (.ulfParamRx t unit paired
      major p np c tun prc) (fun b => b.ulf.state = .param ∧ ¬ (unit.val ≠ b.hw.unitId ∧ paired = true ∧ b.hw.paired =
      true ∧ major = 1)) (fun b n => n.ulf.state = .down ∧ n.ulf.holdoff = b.clk.lt + 1000000000 ∧ (if unit.val =
      b.hw.unitId then n.ulf.idConflict = true else n.ulf.modeMismatch = true)))
  ∧ (∀ (t : Nat) (lock : Fin 4), Effect t (.ulfLinkFailure t lock) (fun b => b.ulf.state = .up ∧ (lock ≠ 3 ∨
      b.ulf.lastGood + 1000 ≤ b.clk.lt)) (fun b n => n.ulf =
      { b.ulf with state := .retrain, since := b.clk.lt, lock := lock } ∧ n.reg R.ULF_RETRAINS = word (satAdd 32 (b.reg
      R.ULF_RETRAINS).toNat 1)))
  ∧ (∀ (a : Acc) , WriteEffect a (R.ULF_CMD) (.ulfRetrain a) (fun b => b.ulf.state = .up) (fun b n => n.ulf =
      { b.ulf with state := .retrain, since := b.clk.lt } ∧ n.reg R.ULF_RETRAINS = word (satAdd 32 (b.reg
      R.ULF_RETRAINS).toNat 1)))
  ∧ (∀ (t : Nat), Effect t (.ulfRetrainDone t) (fun b => b.ulf.state = .retrain ∧ b.clk.lt ≤ b.ulf.since + 200000 ∧
      b.ulf.replay.any (fun x => x.sends == 7) = false) (fun b n => n.ulf.state = .up ∧ n.ulf.lock = 3 ∧ n.ulf.since =
      b.clk.lt ∧ n.regB (R.EVT_STATUS 112) 0 = true))
  ∧ (∀ (t : Nat), Effect t (.ulfRetrainDone t) (fun b => b.ulf.state = .retrain ∧ b.clk.lt ≤ b.ulf.since + 200000 ∧
      b.ulf.replay.any (fun x => x.sends == 7) = true) (fun b n => n.ulf.state = .retrain ∧ n.ulf.since = b.clk.lt ∧
      n.regB (R.EVT_STATUS 112) 2 = true))
  ∧ (∀ (t : Nat), Effect t (.ulfRetrainTimeout t) (fun b => b.ulf.state = .retrain ∧ b.ulf.since + 200000 ≤ b.clk.lt)
      (fun b n => n.ulf.state = .down ∧ n.ulf.replay = [] ∧ n.ulf.posted = [] ∧ n.ulf.fences = [] ∧ n.ulf.reads = [] ∧
      n.ulf.comb = none ∧ n.ulf.downs = satAdd 32 b.ulf.downs 1 ∧ n.regB (R.EVT_STATUS 112) 1 = true))

/-- R359, R362: the 72 bytes of a flit hold its header, field by field, and its payload filled up with zeros; a flit that fails its CRC, or
is no flit, is discarded and sets NAK, one out of sequence leaves ACK, and a FENCE in sequence is taken; NAK is set again after 2 µs. R367: 16 quiet fabric cycles close the combiner. R374, R377: a FENCE is
answered with the WF_LOST of its partition, which starts again. R375: LER_POP discards the oldest late error. R43, R370: a read of the
partner page view leaves as an RD and waits; its CPL completes it with the data or the error of its STATUS, and is discarded for a core of a partition that
is being reset (R323); after READ_TO_US it
fails with PARTNER_DOWN, as it does at once while the link cannot carry it. -/
def Obligations.LinkTransfers : Prop :=
  (∀ (t : Nat) (flit : List Byte) (crc : Word) (bad : List Nat), Effect t (.ulfFlitRx t flit crc bad) (fun b =>
      b.ulf.state = .up ∧ (crc32c flit ≠ crc.toNat ∨ flit.length ≠ 72 ∨ 12 ≤ leVal (flit.take 8) % 16)) (fun b n =>
      n.ulf = { b.ulf with nak := true, nakSince := b.clk.lt } ∧ n.reg R.ULF_CRC_ERR = word (satAdd 32 (b.reg
      R.ULF_CRC_ERR).toNat 1)))
  ∧ (∀ (t : Nat) (flit : List Byte) (crc : Word) (bad : List Nat), Effect t (.ulfFlitRx t flit crc bad) (fun b =>
      b.ulf.state = .up ∧ flit.length = 72 ∧ crc32c flit = crc.toNat ∧ 2 ≤ leVal (flit.take 8) % 16 ∧ leVal (flit.take
      8) % 16 < 12 ∧ leVal (flit.take 8) / 2 ^ 12 % 4096 ≠ (b.ulf.ack + 1) % 4096) (fun b n => n.ulf.ack = b.ulf.ack ∧
      n.ulf.lastGood = b.clk.lt ∧ n.mem = b.mem ∧ n.ulf.msgs = b.ulf.msgs))
  ∧ (∀ (t : Nat) (flit : List Byte) (crc : Word) (bad : List Nat), Effect t (.ulfFlitRx t flit crc bad) (fun b =>
      b.ulf.state = .up ∧ flit.length = 72 ∧ crc32c flit = crc.toNat ∧ leVal (flit.take 8) % 16 = 4 ∧ leVal (flit.take
      8) / 2 ^ 12 % 4096 = (b.ulf.ack + 1) % 4096) (fun b n => n.ulf.ack = (b.ulf.ack + 1) % 4096 ∧ n.ulf.nak = false ∧
      n.ulf.fencesIn = b.ulf.fencesIn ++ [(leVal (flit.take 8) / 2 ^ 48, leVal ((flit.drop 8).take 8) / 2 ^ 36 % 32)]))
  ∧ (∀ (x : SentFlit) (ack credClass credCount : Nat) (nak : Bool), x.flit.type < 16 → x.flit.payload.length ≤ 64 →
      x.seq < 4096 → ack < 4096 → credClass < 8 → credCount < 32 → x.flit.tag < 65536 → (x.bytes ack nak credClass
      credCount).length = 72 ∧ (x.bytes ack nak credClass credCount).drop 8 = padTo 64 x.flit.payload ∧ ∀ h, h = leVal
      ((x.bytes ack nak credClass credCount).take 8) → h % 16 = x.flit.type ∧ h / 2 ^ 4 % 256 = x.flit.payload.length ∧
      h / 2 ^ 12 % 4096 = x.seq ∧ h / 2 ^ 24 % 4096 = ack ∧ h.testBit 36 = nak ∧ h / 2 ^ 37 % 8 = credClass ∧ h / 2 ^ 40
      % 32 = credCount ∧ h / 2 ^ 48 = x.flit.tag)
  ∧ (∀ (t : Nat), Effect t (.ulfNakTimeout t) (fun b => b.ulf.nak = true ∧ b.ulf.nakSince + 2000 ≤ b.clk.lt) (fun b n
      => n.ulf = { b.ulf with nakSince := b.clk.lt }))
  ∧ (∀ (t : Nat) (tag part : Nat) (l : List (Nat × Nat)), Effect t (.fenceAck t) (fun b => b.ulf.fencesIn = (tag, part)
      :: l) (fun _ n => n.ulf.fencesIn = l ∧ KMap.get n.ulf.wfLost 0 part = 0))
  ∧ (∀ (t : Nat) (x : Combined), Effect t (.combinerTimeout t) (fun b => b.ulf.comb = some x ∧ b.ulf.combAt + 16 *
      b.cycleNs ≤ b.clk.lt) (fun b n => n.ulf.comb = none ∧ n.ulf.tag = (b.ulf.tag + 1) % 65536 ∧ n.ulf.posted =
      b.ulf.posted ++ [⟨b.ulf.tag, x.part, x.addr, false⟩]))
  ∧ (∀ (a : Acc) , WriteEffect a (R.ULF_CMD) (.lerPop a) (fun _ => True) (fun b n => n.ler (b.regF R.ULF_LER_SEL 4 0) =
      (b.ler (b.regF R.ULF_LER_SEL 4 0)).drop 1))
  ∧ (∀ (a : Acc) (addr : Nat), Effect a.t (.partnerViewRead a addr 4) (fun b => rangeOf addr = .partner ∧ addr % 4 = 0
      ∧ a.req.val ≠ 19 ∧ b.hw.paired = true ∧ b.ulf.state = .up) (fun b n => n.resp = .none ∧ n.ulf.reads = b.ulf.reads
      ++ [⟨b.ulf.closeComb.tag, State.accPart a, a.req.val, addr - 0x1000000, b.clk.lt, none⟩] ∧ n.mem = b.mem))
  ∧ (∀ (a : Acc) (addr : Nat), Effect a.t (.partnerViewRead a addr 4) (fun b => rangeOf addr = .partner ∧ addr % 4 = 0
      ∧ a.req.val ≠ 19 ∧ b.ulf.state = .down) (fun b n => n.resp = .busError .partnerDown ∧ n.ulf = b.ulf))
  ∧ (∀ (t : Nat) (c : CplRx) (l : List CplRx) (r : ViewRead), Effect t (.partnerReadComplete t) (fun b => b.ulf.cplIn =
      c :: l ∧ b.ulf.reads.find? (fun r => r.tag == c.tag) = some r ∧ r.chan = none ∧ c.status = 0 ∧ (b.part
      r.part).state ≠ .resetting) (fun b n => n.resp = .ok c.data ∧ n.ulf =
      { b.ulf with cplIn := l, reads := b.ulf.reads.erase r }))
  ∧ (∀ (t : Nat) (c : CplRx) (l : List CplRx) (r : ViewRead), Effect t (.partnerReadComplete t) (fun b => b.ulf.cplIn =
      c :: l ∧ b.ulf.reads.find? (fun r => r.tag == c.tag) = some r ∧ r.chan = none ∧ c.status = 1) (fun b n => n.resp =
      .busError .notOwner ∧ n.ulf = { b.ulf with cplIn := l, reads := b.ulf.reads.erase r }))
  ∧ (∀ (t : Nat) (c : CplRx) (l : List CplRx) (r : ViewRead), Effect t (.partnerReadComplete t) (fun b => b.ulf.cplIn =
      c :: l ∧ b.ulf.reads.find? (fun r => r.tag == c.tag) = some r ∧ r.chan = none ∧ c.status = 0 ∧ (b.part
      r.part).state = .resetting) (fun b n => n.resp = b.resp ∧ n.ulf =
      { b.ulf with cplIn := l, reads := b.ulf.reads.erase r }))
  ∧ (∀ (t : Nat) (c : CplRx) (l : List CplRx) (r : ViewRead), Effect t (.partnerReadComplete t) (fun b => b.ulf.cplIn =
      c :: l ∧ b.ulf.reads.find? (fun r => r.tag == c.tag) = some r ∧ r.chan = none ∧ 2 ≤ c.status) (fun b n => n.resp =
      .busError .unmapped ∧ n.ulf = { b.ulf with cplIn := l, reads := b.ulf.reads.erase r }))
  ∧ (∀ (t : Nat) (r : ViewRead), Effect t (.partnerReadTimeout t) (fun b => b.ulf.reads.find? (fun r => decide (r.since
      + b.readTimeUs * 1000 ≤ b.clk.lt)) = some r ∧ r.chan = none) (fun b n => n.resp = .busError .partnerDown ∧ n.ulf =
      { b.ulf with reads := b.ulf.reads.erase r }))

/-- R382, R383, R389, R390: HELLOs with equal masks bring contact, unequal ones CONFIG_MISMATCH. R384, R386: in contact a
LEASE is sent at every multiple of 100 µs. An accepted lease gives the partner's masks; a unit yields what it has offered;
a split is decided by the claims and the preference; where neither unit acts, the preferred healthy one does. R381, R385:
heartbeats and the AUTH input. -/
def Obligations.PairContact : Prop :=
  (∀ (t : Nat) (diverged : Word) (m : PairMsg) (out : State), Effect t (.helloRx t diverged) (fun b => b.takeMsg 2 =
      some (m, out) ∧ b.pairOn = true ∧ b.pair.left = false ∧ word m.word0 = b.pairedMask ∧ word m.word1 = b.prefMask)
      (fun b n => n.pair.contact = true ∧ n.pair.mismatch = false ∧ n.pair.pClaimed = word m.word2 ∧ ∀ p : Fin 32,
      b.isPaired p = true → b.pair.contact = false → b.roleOf p = .solo → n.roleOf p = .active))
  ∧ (∀ (t : Nat) (diverged : Word) (m : PairMsg) (out : State), Effect t (.helloRx t diverged) (fun b => b.takeMsg 2 =
      some (m, out) ∧ b.pairOn = true ∧ b.pair.left = false ∧ ¬ (word m.word0 = b.pairedMask ∧ word m.word1 =
      b.prefMask)) (fun b n => n.pair.contact = false ∧ n.pair.mismatch = true ∧ n.pair.parts = b.pair.parts))
  ∧ (∀ (t : Nat), Effect t (.leaseSend t) (fun b => b.pair.contact = true ∧ b.clk.lt % 100000 = 0 ∧ b.ulf.state = .up ∧
      b.ulf.replay.length < 256 ∧ 1 ≤ b.ulf.credPr ∧ b.ulf.waitP = [] ∧ b.ulf.waitNp = [] ∧ b.ulf.waitC = [] ∧
      b.ulf.waitT = [] ∧ b.ulf.waitPr = []) (fun b n => n.ulf.replay = b.ulf.replay ++ [⟨(b.ulf.seq + 1) % 4096,
      { type := 11, need := 1, payload := PairMsg.bytes { kind := 1, flags := b.pairFlags, word0 := b.activeMask.toNat, word1 := b.healthyMask.toNat, word2 := b.syncedMask.toNat } },
      1⟩]))
  ∧ (∀ (t : Nat) (m : PairMsg) (out : State), Effect t (.leaseRx t) (fun b => b.takeMsg 1 = some (m, out) ∧
      b.pair.contact = true ∧ b.pair.leaving = false) (fun b n => n.pair.leaseAt = some b.clk.lt ∧ n.pair.pActive = word
      m.word0 ∧ n.pair.pHealthy = word m.word1 ∧ n.pair.pSynced = word m.word2 ∧ n.pair.leased = true ∧ n.pair.pSleep =
      m.flags.testBit 0))
  ∧ (∀ (t : Nat) (part : Fin 32) (m : PairMsg) (out : State), Effect t (.leaseRx t) (fun b => b.takeMsg 1 = some (m,
      out) ∧ b.pair.contact = true ∧ b.pairOn = true ∧ b.isPaired part = true ∧ b.holds part = true ∧ bit (word m.word0)
      part = true ∧ (b.pp part).offered = true ∧ b.pair.handover = none) (fun _ n => n.roleOf part = .joining ∧ (n.pp
      part).claimed = false))
  ∧ (∀ (t : Nat) (part : Fin 32) (m : PairMsg) (out : State), Effect t (.leaseRx t) (fun b => b.takeMsg 1 = some (m,
      out) ∧ b.pair.contact = true ∧ b.pair.leased = false ∧ b.pairOn = true ∧ b.isPaired part = true ∧ b.holds part =
      true ∧ bit (word m.word0) part = true ∧ (b.pp part).offered = false ∧ (b.pp part).split = false) (fun b n =>
      n.roleOf part = (if b.keeps part then b.roleOf part else .joining) ∧ (n.pp part).claimed = false))
  ∧ (∀ (t : Nat) (part : Fin 32) (m : PairMsg) (out : State), Effect t (.leaseRx t) (fun b => b.takeMsg 1 = some (m,
      out) ∧ b.pair.contact = true ∧ b.pairOn = true ∧ b.isPaired part = true ∧ b.holds part = false ∧ b.roleOf part ≠
      .none ∧ bit (word m.word0) part = false ∧ b.pair.left = false ∧ b.healthy part = true ∧ (b.regF (R.PAIR_PCFG part)
      30 30 = b.hw.unitId % 2 ∨ bit (word m.word1) part = false)) (fun _ n => n.roleOf part = .active ∧ n.holds part =
      true))
  ∧ (∀ (t : Nat), Effect t (.leaseSend t) (fun b => b.pair.contact = false ∨ b.clk.lt % 100000 ≠ 0) (fun b n => n.pair
      = b.pair ∧ n.ulf = b.ulf))
  ∧ (∀ (t : Nat) (m : PairMsg) (out : State), Effect t (.leaseRx t) (fun b => b.takeMsg 1 = some (m, out) ∧
      b.pair.contact = false) (fun b n => n.pair = b.pair ∧ n.ulf = { b.ulf with msgs := b.ulf.msgs.drop 1 }))
  ∧ (∀ (t : Nat) (diverged : Word) (m : PairMsg) (out : State), Effect t (.helloRx t diverged) (fun b => b.takeMsg 2 =
      some (m, out) ∧ (b.pairOn = false ∨ b.pair.left = true)) (fun b n => n.pair = b.pair ∧ n.ulf =
      { b.ulf with msgs := b.ulf.msgs.drop 1 }))
  ∧ (∀ (t : Nat) (part : Fin 32), Effect t (.heartbeatExpired t part) (fun _ => True) (fun b n => b.sameBut n []))
  ∧ (∀ (t : Nat) (level : Bool), Effect t (.authInChange t level) (fun _ => True) (fun b n => n.pair =
      { b.pair with authIn := level }))
  ∧ (∀ (a : Acc) , WriteEffect a (R.PAIR_HEART) (.pairHeart a) (fun _ => True) (fun b n => (n.pp (State.accPart
      a)).heart = some b.clk.lt ∧ n.roleOf (State.accPart a) = b.roleOf (State.accPart a)))
  ∧ (∀ (t : Nat) (part : Fin 32) (h : Nat), Effect t (.heartbeatExpired t part) (fun b => b.regF (R.PAIR_PCFG part) 23
      16 ≠ 0 ∧ (b.pp part).heart = some h ∧ h + b.regF (R.PAIR_PCFG part) 23 16 * 1000000 < b.clk.lt) (fun b n =>
      n.healthy part = false ∧ n.pair = b.pair))

/-- R387, R388: a healthy STANDBY or JOINING copy claims at RELEASE, at 320 µs without a lease with AUTH_IN low (FAST), and
at 10 ms without lease or backbone message (SLOW); R402: not while both units sleep or for a while after. R400, R401:
HANDOVER holds the partition until RELEASE follows its last mirrored write; LEAVE, CANCEL_LEAVE and BYE. -/
def Obligations.PairTakeover : Prop :=
  (∀ (t : Nat) (part : Fin 32) (m : PairMsg) (out : State), Effect t (.takeover t part) (fun b => b.msgFor 3 part =
      some (m, out) ∧ b.mayClaim part = true) (fun b n => n.roleOf part = (if b.pair.contact then .active else .solo) ∧
      n.pair.lastCause = .release ∧ n.pair.lastPart = part ∧ n.pair.lastLt = b.clk.lt ∧ n.reg R.PAIR_TAKEOVERS = word
      (satAdd 32 (b.reg R.PAIR_TAKEOVERS).toNat 1)))
  ∧ (∀ (t : Nat) (part : Fin 32), Effect t (.takeover t part) (fun b => (b.msgFor 3 part).isNone = true ∧ b.mayClaim
      part = true ∧ b.claimsSuspended = false ∧ 320 ≤ b.ageUs b.pair.leaseAt ∧ b.pair.authIn = false) (fun b n =>
      n.roleOf part = (if b.pair.contact then .active else .solo) ∧ n.pair.lastCause = .fast ∧ n.pair.lastPart = part ∧
      n.pair.lastLt = b.clk.lt ∧ n.reg R.PAIR_TAKEOVERS = word (satAdd 32 (b.reg R.PAIR_TAKEOVERS).toNat 1) ∧ (n.pp
      part).claimed = true))
  ∧ (∀ (t : Nat) (part : Fin 32), Effect t (.takeover t part) (fun b => (b.msgFor 3 part).isNone = true ∧ b.mayClaim
      part = true ∧ b.claimsSuspended = false ∧ b.pair.authIn = true ∧ b.reg R.PAIR_BB_PORTS ≠ 0 ∧ 10000 ≤ b.ageUs
      b.pair.leaseAt ∧ 10000 ≤ b.ageUs b.pair.bbAt) (fun b n => n.roleOf part = (if b.pair.contact then .active else
      .solo) ∧ n.pair.lastCause = .slow ∧ n.pair.lastPart = part ∧ n.pair.lastLt = b.clk.lt ∧ n.reg R.PAIR_TAKEOVERS =
      word (satAdd 32 (b.reg R.PAIR_TAKEOVERS).toNat 1) ∧ (n.pp part).claimed = true))
  ∧ (∀ (t : Nat) (part : Fin 32), Effect t (.takeover t part) (fun b => (b.msgFor 3 part).isNone = true ∧
      b.claimsSuspended = true) (fun b n => n.pair = b.pair ∧ n.regs = b.regs))
  ∧ (∀ (t : Nat) (part : Fin 32), Effect t (.takeover t part) (fun b => (b.msgFor 3 part).isNone = true ∧ (b.mayClaim
      part = false ∨ b.fastClaim = false ∧ b.slowClaim = false)) (fun b n => n.pair = b.pair ∧ n.regs = b.regs))
  ∧ (∀ (t : Nat) (part : Fin 32) (m : PairMsg) (out : State), Effect t (.takeover t part) (fun b => b.msgFor 3 part =
      some (m, out) ∧ b.mayClaim part = false) (fun b n => n.pair = b.pair ∧ n.ulf =
      { b.ulf with msgs := b.ulf.msgs.drop 1 }))
  ∧ (∀ (t : Nat) (x : Nat), Effect t (.sleepSuspendEnd t) (fun b => b.pair.suspend = some x ∧ x ≤ b.clk.lt) (fun b n =>
      n.pair = { b.pair with suspend := none }))
  ∧ (∀ (a : Acc) (target : Fin 32), WriteEffect a (R.PAIR_CMD) (.handover a 0x96 target) (fun b => b.roleOf target =
      .active ∧ b.pair.contact = true ∧ b.partnerReady target = true ∧ (b.bank target).pending = none ∧ b.pair.handover
      = none) (fun _ n => n.pair.handover = some { part := target } ∧ n.pair.cmdResult = .accepted ∧ n.roleOf target =
      .active ∧ n.pairHeld target = true))
  ∧ (∀ (a : Acc) (target : Fin 32), WriteEffect a (R.PAIR_CMD) (.handover a 0x96 target) (fun b => ¬ (b.roleOf target =
      .active ∧ b.pair.contact = true ∧ b.partnerReady target = true ∧ (b.bank target).pending = none ∧ b.pair.handover
      = none)) (fun b n => n.pair = { b.pair with cmdTarget := target, cmdResult := .refusedState }))
  ∧ (∀ (a : Acc) (key : Byte), WriteEffect a (R.PAIR_CMD) (.leave a key) (fun _ => key ≠ 0x96) (fun b n => n.pair =
      { b.pair with cmdTarget := 0, cmdResult := .refusedKey }))
  ∧ (∀ (a : Acc) (key : Byte), WriteEffect a (R.PAIR_CMD) (.cancelLeave a key) (fun _ => key ≠ 0x96) (fun b n => n.pair
      = { b.pair with cmdTarget := 0, cmdResult := .refusedKey }))
  ∧ (∀ (a : Acc) , WriteEffect a (R.PAIR_CMD) (.leave a 0x96) (fun b => b.pairOn = false ∨ b.pair.leaving = true ∨
      b.pair.left = true) (fun b n => n.pair = { b.pair with cmdTarget := 0, cmdResult := .refusedState }))
  ∧ (∀ (a : Acc) , WriteEffect a (R.PAIR_CMD) (.cancelLeave a 0x96) (fun b => b.pair.leaving = false ∧ b.pair.left =
      false) (fun b n => n.pair = { b.pair with cmdTarget := 0, cmdResult := .refusedState }))
  ∧ (∀ (a : Acc) , WriteEffect a (R.PAIR_CMD) (.cancelLeave a 0x96) (fun b => b.pair.left = true) (fun b n =>
      n.pair.left = false ∧ n.pair.leaving = false ∧ n.pair.cmdResult = .accepted ∧ (b.pairOn = true → b.ulf.state = .up
      → n.pair.greeted = true)))
  ∧ (∀ (a : Acc) (key : Byte) (target : Fin 32), WriteEffect a (R.PAIR_CMD) (.handover a key target) (fun _ => key ≠
      0x96) (fun b n => n.pair = { b.pair with cmdTarget := target, cmdResult := .refusedKey }))
  ∧ (∀ (t : Nat) (h : Handover), Effect t (.pairReleaseSend t) (fun b => b.pair.handover = some h ∧ h.released = false
      ∧ b.ulf.postedDone = true) (fun b n => n.pair.handover = some { h with released := true } ∧ (n.pp h.part).offered
      = true ∧ n.roleOf h.part = b.roleOf h.part))
  ∧ (∀ (a : Acc) , WriteEffect a (R.PAIR_CMD) (.leave a 0x96) (fun b => b.pairOn = true ∧ b.pair.leaving = false ∧
      b.pair.left = false ∧ b.pair.handover = none ∧ ∀ p : Fin 32, b.holds p = false) (fun _ n => n.pair.left = true ∧
      n.pair.leaving = false ∧ n.pair.contact = false ∧ n.pair.cmdResult = .done))
  ∧ (∀ (a : Acc) (p : Nat), WriteEffect a (R.PAIR_CMD) (.leave a 0x96) (fun b => b.pair.leaving = false ∧ b.pair.left =
      false ∧ b.pair.handover = none ∧ b.pairedParts.find? (fun p => b.holds p) = some p ∧ b.partnerReady p = false)
      (fun _ n => n.pair.leaving = true ∧ n.pair.left = false ∧ n.pair.cmdResult = .paused ∧ n.pair.handover = none))
  ∧ (∀ (a : Acc) , WriteEffect a (R.PAIR_CMD) (.cancelLeave a 0x96) (fun b => b.pair.leaving = true ∧ b.pair.left =
      false) (fun b n => n.pair = { b.pair with cmdTarget := 0, leaving := false, cmdResult := .accepted }))
  ∧ (∀ (t : Nat) (m : PairMsg) (out : State), Effect t (.byeRx t) (fun b => b.takeMsg 10 = some (m, out) ∧
      b.pair.contact = true) (fun b n => n.pair.contact = false ∧ n.pair.leased = false ∧ ∀ p : Fin 32, b.pairOn = true
      → b.isPaired p = true → b.roleOf p = .active → n.roleOf p = .solo))

/-- R397, R398: the exchange of a pair-coherent commit: PREPARE is accepted or rejected, the verdicts are taken at T − 250 µs,
GO is decided at T − 100 µs and taken before T, refused after it; of two PREPAREs that cross unit 0's stands; REJECT, ABORT and the drain verdict end it with their results. R399: MEMORY
is followed by TABLES, and SYNC_DONE makes the partner's copy STANDBY. -/
def Obligations.PairCommit : Prop :=
  (∀ (t : Nat) (part : Fin 32) (m : PairMsg) (out : State), Effect t (.prepareRx t part) (fun b => b.msgFor 4 part =
      some (m, out) ∧ b.pair.contact = true ∧ b.pairOn = true ∧ b.isPaired part = true ∧ b.roleOf part = .standby ∧
      b.partnerRole part = .active ∧ (b.bank part).pending = none ∧ b.timeOk m.time = true) (fun _ n => (n.bank
      part).pending = some
      { time := m.time, all := false, pairMode := true, stage := .accepted, fromPartner := true, count := m.word0 }))
  ∧ (∀ (t : Nat) (part : Fin 32) (m : PairMsg) (out : State), Effect t (.prepareRx t part) (fun b => b.msgFor 4 part =
      some (m, out) ∧ b.pair.contact = false ∧ (b.bank part).pending = none) (fun b n => n.coh = b.coh))
  ∧ (∀ (t : Nat) (part : Fin 32) (m : PairMsg) (out : State), Effect t (.prepareRx t part) (fun b => b.msgFor 4 part =
      some (m, out) ∧ (b.exchange part = none ∨ b.hw.unitId ≠ 1) ∧ b.prepareReason part m ≠ 0) (fun b n => n.coh =
      b.coh))
  ∧ (∀ (t : Nat) (part : Fin 32) (m : PairMsg) (out : State) (c : PendingCommit), Effect t (.prepareRx t part) (fun b
      => b.msgFor 4 part = some (m, out) ∧ b.exchange part = some c ∧ b.hw.unitId = 0 ∧ c.stage = .prepared ∧ b.pairOn =
      true ∧ b.isPaired part = true) (fun b n => n.coh = b.coh))
  ∧ (∀ (t : Nat) (part : Fin 32) (m : PairMsg) (out : State) (c : PendingCommit), Effect t (.prepareRx t part) (fun b
      => b.msgFor 4 part = some (m, out) ∧ b.exchange part = some c ∧ b.hw.unitId = 1 ∧ c.stage = .prepared ∧ b.pairOn =
      true ∧ b.isPaired part = true ∧ b.pair.contact = true ∧ b.roleOf part = .standby ∧ b.partnerRole part = .active ∧
      b.timeOk m.time = true) (fun _ n => (n.bank part).pending = some
      { time := m.time, all := false, pairMode := true, stage := .accepted, fromPartner := true, count := m.word0 } ∧
      (n.bank part).result = .refusedPair))
  ∧ (∀ (t : Nat) (part : Fin 32) (m : PairMsg) (out : State) (c : PendingCommit), Effect t (.prepareRx t part) (fun b
      => b.msgFor 4 part = some (m, out) ∧ b.exchange part = some c ∧ b.hw.unitId = 1 ∧ c.stage = .prepared ∧
      (b.pair.contact = false ∨ b.roleOf part ≠ .standby ∨ b.partnerRole part ≠ .active) ∧ b.pairOn = true ∧ b.isPaired
      part = true) (fun _ n => (n.bank part).pending = none ∧ (n.bank part).result = .refusedPair))
  ∧ (∀ (t : Nat) (part : Fin 32) (m : PairMsg) (out : State) (c : PendingCommit), Effect t (.prepareRx t part) (fun b
      => b.msgFor 4 part = some (m, out) ∧ b.exchange part = some c ∧ b.hw.unitId ≠ 0 ∧ c.stage = .none ∧ (b.isPaired
      part && b.pairOn) = false ∧ b.pair.contact = true ∧ c.time = m.time ∧ b.timeOk m.time = true) (fun _ n => (n.bank
      part).pending = some
      { time := m.time, all := c.all, pairMode := true, stage := .accepted, fromPartner := true, count := m.word0 }))
  ∧ (∀ (t : Nat) (part : Fin 32) (m : PairMsg) (out : State) (c : PendingCommit), Effect t (.acceptRx t part) (fun b =>
      b.msgFor 5 part = some (m, out) ∧ b.exchange part = some c ∧ (c.fromPartner = true ∨ c.stage ≠ .prepared)) (fun _
      n => (n.bank part).pending = some c))
  ∧ (∀ (t : Nat) (part : Fin 32) (c : PendingCommit), Effect t (.verdictCheck t part) (fun b => b.exchange part = some
      c ∧ c.time ≤ b.syncNs + 250000 ∧ c.ownDrain = none ∧ c.fromPartner = false ∧ c.stage = .prepared) (fun _ n =>
      (n.bank part).pending = none ∧ (n.bank part).result = .refusedPair))
  ∧ (∀ (t : Nat) (part : Fin 32) (c : PendingCommit), Effect t (.verdictCheck t part) (fun b => b.exchange part = some
      c ∧ (b.syncNs + 250000 < c.time ∨ c.ownDrain.isSome = true)) (fun b n => n.coh = b.coh))
  ∧ (∀ (t : Nat) (part : Fin 32) (c : PendingCommit), Effect t (.goDecision t part) (fun b => b.exchange part = some c
      ∧ c.time ≤ b.syncNs + 100000 ∧ c.fromPartner = false ∧ c.stage = .accepted ∧ c.verdict = some 6 ∧ c.ownDrain ≠
      some true) (fun _ n => (n.bank part).pending = none ∧ (n.bank part).result = .refusedDrain))
  ∧ (∀ (t : Nat) (part : Fin 32) (c : PendingCommit), Effect t (.goDecision t part) (fun b => b.exchange part = some c
      ∧ c.time ≤ b.syncNs + 100000 ∧ c.fromPartner = false ∧ (c.stage = .prepared ∧ c.verdict ≠ some 6 ∨ c.stage =
      .accepted ∧ c.verdict ≠ some 0 ∧ c.verdict ≠ some 6) ∧ c.ownDrain ≠ some true) (fun _ n => (n.bank part).pending =
      none ∧ (n.bank part).result = .refusedPair))
  ∧ (∀ (t : Nat) (part : Fin 32) (c : PendingCommit), Effect t (.goDecision t part) (fun b => b.exchange part = some c
      ∧ (b.syncNs + 100000 < c.time ∨ c.fromPartner = true)) (fun b n => n.coh = b.coh))
  ∧ (∀ (t : Nat) (part : Fin 32) (m : PairMsg) (out : State) (c : PendingCommit), Effect t (.goRx t part) (fun b =>
      b.msgFor 8 part = some (m, out) ∧ b.exchange part = some c ∧ c.fromPartner = true ∧ c.time ≤ b.syncNs) (fun b n =>
      (n.bank part).pending = none ∧ (n.bank part).result = .refusedPair ∧ n.reg R.PAIR_PC_SPLIT = word (satAdd 32
      (b.reg R.PAIR_PC_SPLIT).toNat 1) ∧ (b.roleOf part = .standby → n.roleOf part = .joining)))
  ∧ (∀ (t : Nat) (part : Fin 32) (m : PairMsg) (out : State), Effect t (.goRx t part) (fun b => b.msgFor 8 part = some
      (m, out) ∧ b.exchange part = none) (fun b n => n.coh = b.coh ∧ n.reg R.PAIR_PC_SPLIT = word (satAdd 32 (b.reg
      R.PAIR_PC_SPLIT).toNat 1) ∧ (b.roleOf part = .standby → n.roleOf part = .joining)))
  ∧ (∀ (t : Nat) (part : Fin 32) (m : PairMsg) (out : State), Effect t (.acceptRx t part) (fun b => b.msgFor 5 part =
      some (m, out) ∧ b.exchange part = none ∧ m.reason ≠ 7) (fun b n => n.coh = b.coh))
  ∧ (∀ (t : Nat) (part : Fin 32) (m : PairMsg) (out : State), Effect t (.rejectRx t part) (fun b => b.msgFor 6 part =
      some (m, out) ∧ b.exchange part = none ∧ m.reason ≠ 7) (fun b n => n.coh = b.coh))
  ∧ (∀ (t : Nat) (part : Fin 32) (m : PairMsg) (out : State), Effect t (.verdictRx t part) (fun b => b.msgFor 7 part =
      some (m, out) ∧ b.exchange part = none ∧ m.reason ≠ 7) (fun b n => n.coh = b.coh))
  ∧ (∀ (t : Nat) (part : Fin 32) (m : PairMsg) (out : State), Effect t (.pairAbortRx t part) (fun b => b.msgFor 9 part
      = some (m, out) ∧ b.exchange part = none ∧ m.reason ≠ 7) (fun b n => n.coh = b.coh))
  ∧ (∀ (t : Nat), Effect t (.memoryPhaseDone t) (fun b => b.pair.sync = none) (fun b n => n.pair = b.pair ∧ n.ulf =
      b.ulf))
  ∧ (∀ (t : Nat) (part : Fin 32), Effect t (.syncDone t part) (fun b => b.roleOf part = .joining ∧ b.partnerRole part =
      .active ∧ (b.bank part).pending = none ∧ b.commitDrains part false = true) (fun b n => n.pair = b.pair ∧ n.coh =
      b.coh ∧ n.staged = b.staged))
  ∧ (∀ (t : Nat) (part : Fin 32) (m : PairMsg) (out : State) (c : PendingCommit), Effect t (.acceptRx t part) (fun b =>
      b.msgFor 5 part = some (m, out) ∧ b.exchange part = some c ∧ c.fromPartner = false ∧ c.stage = .prepared) (fun _ n
      => (n.bank part).pending = some { c with stage := .accepted }))
  ∧ (∀ (t : Nat) (part : Fin 32) (m : PairMsg) (out : State) (c : PendingCommit), Effect t (.rejectRx t part) (fun b =>
      b.msgFor 6 part = some (m, out) ∧ b.exchange part = some c ∧ c.fromPartner = false ∧ m.reason ≠ 7) (fun _ n =>
      (n.bank part).pending = none ∧ (n.bank part).result = .refusedPair))
  ∧ (∀ (t : Nat) (part : Fin 32) (m : PairMsg) (out : State), Effect t (.rejectRx t part) (fun b => b.msgFor 6 part =
      some (m, out) ∧ m.reason = 7) (fun b n => n.coh = b.coh ∧ n.reg R.PAIR_PC_SPLIT = word (satAdd 32 (b.reg
      R.PAIR_PC_SPLIT).toNat 1)))
  ∧ (∀ (t : Nat) (part : Fin 32) (c : PendingCommit), Effect t (.verdictCheck t part) (fun b => b.exchange part = some
      c ∧ c.time ≤ b.syncNs + 250000 ∧ c.ownDrain = none ∧ c.fromPartner = false ∧ c.stage = .accepted) (fun b n =>
      (n.bank part).pending = some { c with ownDrain := some (b.commitDrains part c.all) }))
  ∧ (∀ (t : Nat) (part : Fin 32) (c : PendingCommit), Effect t (.verdictCheck t part) (fun b => b.exchange part = some
      c ∧ c.time ≤ b.syncNs + 250000 ∧ c.ownDrain = none ∧ c.fromPartner = true) (fun b n => (n.bank part).pending =
      some { c with ownDrain := some (decide (b.ownVerdict part c = 6)), stage := .verdictGiven }))
  ∧ (∀ (t : Nat) (part : Fin 32) (m : PairMsg) (out : State) (c : PendingCommit), Effect t (.verdictRx t part) (fun b
      => b.msgFor 7 part = some (m, out) ∧ b.exchange part = some c ∧ c.fromPartner = false) (fun _ n => (n.bank
      part).pending = some { c with verdict := some m.reason }))
  ∧ (∀ (t : Nat) (part : Fin 32) (c : PendingCommit), Effect t (.goDecision t part) (fun b => b.exchange part = some c
      ∧ c.time ≤ b.syncNs + 100000 ∧ c.fromPartner = false ∧ c.stage = .accepted ∧ c.verdict = some 0 ∧ c.ownDrain =
      some false) (fun _ n => (n.bank part).pending = some { c with stage := .go }))
  ∧ (∀ (t : Nat) (part : Fin 32) (c : PendingCommit), Effect t (.goDecision t part) (fun b => b.exchange part = some c
      ∧ c.time ≤ b.syncNs + 100000 ∧ c.fromPartner = false ∧ c.stage = .accepted ∧ c.ownDrain = some true) (fun _ n =>
      (n.bank part).pending = none ∧ (n.bank part).result = .refusedDrain))
  ∧ (∀ (t : Nat) (part : Fin 32) (m : PairMsg) (out : State) (c : PendingCommit), Effect t (.goRx t part) (fun b =>
      b.msgFor 8 part = some (m, out) ∧ b.exchange part = some c ∧ c.fromPartner = true ∧ b.syncNs < c.time) (fun _ n =>
      (n.bank part).pending = some { c with stage := .go }))
  ∧ (∀ (t : Nat) (part : Fin 32) (m : PairMsg) (out : State) (c : PendingCommit), Effect t (.pairAbortRx t part) (fun b
      => b.msgFor 9 part = some (m, out) ∧ b.exchange part = some c ∧ m.reason = 0) (fun _ n => (n.bank part).pending =
      none ∧ (n.bank part).result = .cancelled))
  ∧ (∀ (t : Nat) (part : Fin 32) (m : PairMsg) (out : State) (c : PendingCommit), Effect t (.pairAbortRx t part) (fun b
      => b.msgFor 9 part = some (m, out) ∧ b.exchange part = some c ∧ m.reason ≠ 0) (fun _ n => (n.bank part).pending =
      none ∧ (n.bank part).result = .refusedPair))
  ∧ (∀ (t : Nat) (p : Nat), Effect t (.memoryPhaseDone t) (fun b => b.pair.sync = some (p, .memory [])) (fun b n =>
      n.pair = { b.pair with sync := some (p, .tables) }))
  ∧ (∀ (t : Nat) (part : Fin 32), Effect t (.syncDone t part) (fun b => b.roleOf part = .joining ∧ b.partnerRole part =
      .active ∧ (b.bank part).pending = none ∧ b.commitDrains part false = false) (fun _ n => n.roleOf part = .standby ∧
      (n.pp part).diverged = false ∧ n.pair.lastCause = .synced))
  ∧ (∀ (t : Nat) (part : Fin 32), Effect t (.syncDone t part) (fun b => b.roleOf part = .active ∧ b.pair.sync = some
      (part.val, .tables)) (fun _ n => n.roleOf part = .active ∧ (n.pp part).diverged = false))

/-- R414, R415, R416, R421, R430: the ACTIONs of UPD_CMD: OPEN takes a manifest and begins staging, STAGE begins the copy of
a part, ACTIVATE stages UPD_ACT_REC once every part is staged, RESTART starts the trial, CONFIRM and ABORT end it; a wrong
KEY and a wrong state are refused. -/
def Obligations.UpdateCommands : Prop :=
  (∀ (a : Acc) (m : List Byte), WriteEffect a (R.UPD_CMD) (.updOpen a 0x5C) (fun b => (b.rec'.state = .idle ∨
      b.rec'.state = .confirmed ∨ b.rec'.state = .staging) ∧ b.readBytes (b.regPair R.UPD_MAN_ADDR_LO R.UPD_MAN_ADDR_HI
      % 2 ^ 36) 0x4000 = m ∧ manValid m = true) (fun b n => n.upd.result = .accepted ∧ n.rec'.state = .staging ∧
      n.newManifest = m ∧ n.upd.staged = 0 ∧ n.upd.need = (unitEntries m b.hw.unitId).foldl (fun n k => n + 2 ^ k) 0))
  ∧ (∀ (a : Acc) (m : List Byte), WriteEffect a (R.UPD_CMD) (.updOpen a 0x5C) (fun b => b.rec'.state = .idle ∧
      b.readBytes (b.regPair R.UPD_MAN_ADDR_LO R.UPD_MAN_ADDR_HI % 2 ^ 36) 0x4000 = m ∧ manValid m = false) (fun b n =>
      n.upd = { b.upd with result := .badManifest }))
  ∧ (∀ (a : Acc) (key : Byte), WriteEffect a (R.UPD_CMD) (.updOpen a key) (fun _ => key ≠ 0x5C) (fun b n => n.upd =
      { b.upd with result := .refusedKey }))
  ∧ (∀ (a : Acc) (part : Fin 64), WriteEffect a (R.UPD_CMD) (.stage a 0x5C part) (fun b => b.rec'.state = .staging ∧
      b.upd.need.testBit part = true ∧ ¬ ((le (manEntry b.newManifest part) 2 1 = 1) = (b.rec'.runSet = true)) ∧
      b.upd.copying = none) (fun b n => n.upd = { b.upd with copying := some part, result := .accepted }))
  ∧ (∀ (t : Nat) (k : Nat), Effect t (.stageDone t) (fun b => b.upd.copying = some k) (fun b n => n.upd.copying = none
      ∧ n.upd.staged.testBit k = true ∧ KMap.get? n.upd.parts (partKey (!b.rec'.runSet) (manEntry b.newManifest k)) =
      some (b.readBytes (b.regPair R.UPD_SRC_LO R.UPD_SRC_HI % 2 ^ 36) (le (manEntry b.newManifest k) 0xC 4))))
  ∧ (∀ (a : Acc) , WriteEffect a (R.UPD_CMD) (.activate a 0x5C) (fun b => b.rec'.state = .staging ∧ b.upd.staged =
      b.upd.need ∧ b.pageSeal updIdx 0 = none) (fun b n => n.upd.result = .accepted ∧ KMap.get? n.staged R.UPD_ACT_REC =
      some (mkF 31 16 (manActId b.newManifest) ||| mkF 8 8 (!b.rec'.runSet).toNat ||| 1) ∧ n.rec' = b.rec'))
  ∧ (∀ (a : Acc) , WriteEffect a (R.UPD_CMD) (.activate a 0x5C) (fun b => b.rec'.state = .staging ∧ b.upd.staged ≠
      b.upd.need) (fun b n => n.upd = { b.upd with result := .notStaged } ∧ n.staged = b.staged))
  ∧ (∀ (a : Acc) , WriteEffect a (R.UPD_CMD) (.updRestart a 0x5C) (fun b => b.rec'.state = .pending) (fun b n =>
      n.upd.result = .accepted ∧ n.rec'.state = .trial ∧ n.rec'.tries = 1 ∧ n.rec'.runSet = b.rec'.nextSet))
  ∧ (∀ (a : Acc) , WriteEffect a (R.UPD_CMD) (.confirm a 0x5C) (fun b => b.rec'.state = .booted ∧ (b.hw.paired = false
      ∨ b.upd.peerValid = true ∧ b.upd.peerId = b.rec'.actId ∧ (b.upd.peerState = 4 ∨ b.upd.peerState = 5))) (fun b n =>
      n.upd.result = .accepted ∧ n.rec'.state = .confirmed ∧ n.rec'.runSet = b.rec'.runSet ∧ ∀ i : Fin 256, KMap.get
      b.sec.counters 0 i ≤ KMap.get n.sec.counters 0 i))
  ∧ (∀ (a : Acc) , WriteEffect a (R.UPD_CMD) (.updAbort a 0x5C) (fun b => b.rec'.state = .staging) (fun _ n =>
      n.upd.result = .accepted ∧ n.rec'.state = .idle ∧ n.upd.copying = none))
  ∧ (∀ (a : Acc) , WriteEffect a (R.UPD_CMD) (.updAbort a 0x5C) (fun b => b.rec'.state = .pending) (fun b n =>
      n.upd.result = .accepted ∧ n.rec'.state = .abandoned ∧ n.rec'.nextSet = b.rec'.runSet))

/-- R411, R414, R417: TRIAL ends in BOOTED where every check of R410 passes; a check that fails abandons it and restarts into
the previous set. A partner that reports another activation, or ABANDONED, abandons it too. R419: a start whose LOADSTAGE part
passes loads it into the spare bank of the load stage controller, and its PHY part into every external PHY at a cold boot, else
before the next loss of link; a part passes where Config's opaque hash and signature checks pass it. R443: POWER_ON_RESET gives every
block its reset values and holds them; its release reads the straps and begins the cold boot. R105, R455: RESET_N is
recognised, holds the security unit in reset, and is released. -/
def Obligations.Activation : Prop :=
  (∀ (t : Nat), Effect t (.trialPassed t) (fun b => b.rec'.state = .trial) (fun b n => if (b.setFault b.rec'.runSet
      none).isNone then n.rec' = { b.rec' with state := .booted, tries := 0, seq := n.rec'.seq } else n.upd = b.upd))
  ∧ (∀ (t : Nat) (bad : Option (Fin 64)), Effect t (.trialFailed t bad) (fun b => b.rec'.state = .trial ∧ (b.setFault
      b.rec'.runSet (bad.map Fin.val)).isSome = true) (fun b n => n.rec'.state = .abandoned ∧ n.rec'.nextSet =
      !b.rec'.runSet ∧ n.rec'.runSet = !b.rec'.runSet ∧ n.rec'.tries = 0))
  ∧ (∀ (t : Nat) (actId : Fin 65536) (x : Fin 8), Effect t (.peerReport t actId x) (fun b => b.rec'.state = .booted ∧
      (actId.val ≠ b.rec'.actId ∨ x = 6)) (fun b n => n.upd.peerValid = true ∧ n.upd.peerId = actId ∧ n.upd.peerState =
      x ∧ n.rec'.state = .abandoned ∧ n.rec'.nextSet = !b.rec'.runSet))
  ∧ (∀ (t : Nat) (actId : Fin 65536) (x : Fin 8), Effect t (.peerReport t actId x) (fun b => b.rec'.state = .idle) (fun
      b n => n.upd = { b.upd with peerValid := true, peerId := actId, peerState := x }))
  ∧ (∀ (t : Nat), Effect t (.pinReset t) (fun b => b.parts.pinHeld = false) (fun b n => n.parts.pinHeld = true ∧ n.sec
      = { b.sec.restart with ready := false }))
  ∧ (∀ (t : Nat), Effect t (.pinResetRelease t) (fun b => b.parts.pinHeld = true) (fun b n => n.parts.pinHeld = false ∧
      n.sec = { b.sec with ready := true } ∧ (b.rec'.state = .pending → n.rec'.state = .trial ∧ n.rec'.tries = 1 ∧
      n.rec'.runSet = b.rec'.nextSet) ∧ b.startLoads n false))
  ∧ (∀ t s, ∃ n, exec (.powerOnReset t) s = .next n ∧ n.atPowerOn ∧ n.clk.held = true ∧ n.pending = s.pending)
  ∧ (∀ t paired (unit : Fin 2) s, s.clk.held = true → ∃ n, exec (.powerOnRelease t paired unit) s = .next n ∧
      n.clk.held = false ∧ n.hw.paired = paired ∧ n.hw.unitId = unit ∧ n.dramc.ready = true ∧ n.pending = s.pending ∧
      ((s.rec'.state = .idle ∨ s.rec'.state = .booted ∨ s.rec'.state = .confirmed ∨ s.rec'.state = .abandoned) ∧
      s.rec'.runSet = s.rec'.nextSet → n.regs = s.regs ∧ n.rec' = s.rec') ∧ (s.rec'.state = .pending → n.rec'.state =
      .trial ∧ n.rec'.tries = 1 ∧ n.rec'.runSet = s.rec'.nextSet) ∧ s.startLoads n true)

/-- R423, R424, R426: ATTEST begins a report into DRAM, which its last write ends; KEY_LOAD fills a traffic key slot and clears
the key registers, KEY_ERASE empties it, and neither acts on a slot in use; OTP_KEY burns a hash in a service session, read
back at its end; the unit does not answer while RESET_N is held (notes/assumptions/58.md). R425: the service challenge, its answer, three failures and the 60 s lock. R427: READ and WRITE of STOR_CMD begin a transfer between DRAM and the UFS blocks they may reach, refused
elsewhere and while one is in progress; its end moves the blocks. R428: the journal takes the 128-byte packets of its queue. -/
def Obligations.SecurityAndStorage : Prop :=
  (∀ (a : Acc) (key : Byte), WriteEffect a (R.SEC_CMD) (.attest a key) (fun b => b.parts.pinHeld = true) (fun b n =>
      n.sec = b.sec ∧ n.regs = b.regs))
  ∧ (∀ (a : Acc) (key : Byte) (slot : Fin 64), WriteEffect a (R.SEC_CMD) (.keyLoad a key slot) (fun b =>
      b.parts.pinHeld = true) (fun b n => n.sec = b.sec ∧ n.regs = b.regs))
  ∧ (∀ (a : Acc) (key : Byte) (slot : Fin 64), WriteEffect a (R.SEC_CMD) (.keyErase a key slot) (fun b =>
      b.parts.pinHeld = true) (fun b n => n.sec = b.sec ∧ n.regs = b.regs))
  ∧ (∀ (a : Acc) (key : Byte), WriteEffect a (R.SEC_CMD) (.svcClose a key) (fun b => b.parts.pinHeld = true) (fun b n
      => n.sec = b.sec ∧ n.regs = b.regs))
  ∧ (∀ (a : Acc) (key : Byte) (slot : Fin 64), WriteEffect a (R.SEC_CMD) (.otpKey a key slot) (fun b => b.parts.pinHeld
      = true) (fun b n => n.sec = b.sec ∧ n.regs = b.regs))
  ∧ (∀ (a : Acc) , WriteEffect a (R.SEC_CMD) (.attest a 0x3C) (fun b => b.parts.pinHeld = false ∧ b.sec.job = none ∧
      inDram (b.regPair R.SEC_ATT_ADDR_LO R.SEC_ATT_ADDR_HI % 2 ^ 36 / 64 * 64) attestLen = true ∧ b.memCheck
      b.pt.active 0 2 (b.regPair R.SEC_ATT_ADDR_LO R.SEC_ATT_ADDR_HI % 2 ^ 36 / 64 * 64) attestLen .write = none) (fun b
      n => n.sec =
      { b.sec with slot := 0, result := .none, job := some (.attest (b.regPair R.SEC_ATT_ADDR_LO R.SEC_ATT_ADDR_HI % 2 ^ 36 / 64 * 64) b.clk.lt) }))
  ∧ (∀ (a : Acc) (key : Byte), WriteEffect a (R.SEC_CMD) (.attest a key) (fun b => b.parts.pinHeld = false ∧ key ≠
      0x3C) (fun b n => n.sec = { b.sec with slot := 0, result := .refusedKey }))
  ∧ (∀ (t : Nat) (addr lt : Nat), Effect t (.attestDone t) (fun b => b.sec.job = some (.attest addr lt)) (fun b n =>
      n.sec = { b.sec with job := none, result := .done } ∧ n.mem = (b.writeBytes addr (b.report lt)).mem ∧ n.regB
      (R.EVT_STATUS 114) 0 = true))
  ∧ (∀ (a : Acc) (slot : Fin 64), WriteEffect a (R.SEC_CMD) (.keyLoad a 0x3C slot) (fun b => b.parts.pinHeld = false ∧
      b.sec.job = none ∧ b.slotUsed slot = false) (fun b n => KMap.get? n.sec.keys slot = some
      { sak := b.regBytes (R.SEC_KDATA 0) 8, salt := b.regBytes (R.SEC_KSALT 0) 3, ssci := (b.reg R.SEC_KSSCI).toNat, sci := b.regPair R.SEC_KSCI_LO R.SEC_KSCI_HI }
      ∧ n.sec.result = .done ∧ n.sec.slot = slot ∧ ∀ k : Fin 14, n.reg (R.SEC_KDATA 0 + 4 * k) = 0))
  ∧ (∀ (a : Acc) (slot : Fin 64), WriteEffect a (R.SEC_CMD) (.keyLoad a 0x3C slot) (fun b => b.parts.pinHeld = false ∧
      b.sec.job = none ∧ b.slotUsed slot = true) (fun b n => n.sec = { b.sec with slot := slot, result := .keyBusy } ∧
      n.regs = b.regs))
  ∧ (∀ (a : Acc) (key : Byte) (slot : Fin 64), WriteEffect a (R.SEC_CMD) (.keyLoad a key slot) (fun b =>
      b.parts.pinHeld = false ∧ key ≠ 0x3C) (fun b n => n.sec = { b.sec with slot := slot, result := .refusedKey } ∧
      n.regs = b.regs))
  ∧ (∀ (a : Acc) (key : Byte) (slot : Fin 64), WriteEffect a (R.SEC_CMD) (.keyErase a key slot) (fun b =>
      b.parts.pinHeld = false ∧ key ≠ 0x3C) (fun b n => n.sec = { b.sec with slot := slot, result := .refusedKey } ∧
      n.regs = b.regs))
  ∧ (∀ (a : Acc) (key : Byte) (slot : Fin 64), WriteEffect a (R.SEC_CMD) (.otpKey a key slot) (fun b => b.parts.pinHeld
      = false ∧ key ≠ 0x3C) (fun b n => n.sec = { b.sec with slot := slot, result := .refusedKey } ∧ n.regs = b.regs))
  ∧ (∀ (a : Acc) (slot : Fin 64), WriteEffect a (R.SEC_CMD) (.keyLoad a 0x3C slot) (fun b => b.parts.pinHeld = false ∧
      b.sec.job.isSome = true) (fun b n => n.sec = { b.sec with slot := slot, result := .busy } ∧ n.regs = b.regs))
  ∧ (∀ (a : Acc) (slot : Fin 64), WriteEffect a (R.SEC_CMD) (.keyErase a 0x3C slot) (fun b => b.parts.pinHeld = false ∧
      b.sec.job.isSome = true) (fun b n => n.sec = { b.sec with slot := slot, result := .busy } ∧ n.regs = b.regs))
  ∧ (∀ (a : Acc) (slot : Fin 64), WriteEffect a (R.SEC_CMD) (.otpKey a 0x3C slot) (fun b => b.parts.pinHeld = false ∧
      b.sec.job.isSome = true) (fun b n => n.sec = { b.sec with slot := slot, result := .busy } ∧ n.regs = b.regs))
  ∧ (∀ (a : Acc) (slot : Fin 64), WriteEffect a (R.SEC_CMD) (.keyErase a 0x3C slot) (fun b => b.parts.pinHeld = false ∧
      b.sec.job = none ∧ b.slotUsed slot = false) (fun _ n => KMap.get? n.sec.keys slot = none ∧ n.sec.result = .done))
  ∧ (∀ (a : Acc) , WriteEffect a (R.SEC_CMD) (.svcClose a 0x3C) (fun b => b.parts.pinHeld = false ∧ b.sec.job = none)
      (fun b n => n.sec = { b.sec with slot := 0, result := .done, svcOpen := false }))
  ∧ (∀ (a : Acc) (slot : Fin 64), WriteEffect a (R.SEC_CMD) (.keyErase a 0x3C slot) (fun b => b.parts.pinHeld = false ∧
      b.sec.job = none ∧ b.slotUsed slot = true) (fun b n => n.sec = { b.sec with slot := slot, result := .keyBusy }))
  ∧ (∀ (a : Acc) (slot : Fin 64), WriteEffect a (R.SEC_CMD) (.otpKey a 0x3C slot) (fun b => b.parts.pinHeld = false ∧
      b.sec.job = none ∧ (b.sec.svcOpen = false ∨ a.req ≠ 19 ∨ slot = 0 ∨ 3 < slot.val ∨ bit b.sec.programmed slot =
      true)) (fun b n => n.sec = { b.sec with slot := slot, result := .refusedSlot } ∧ n.regs = b.regs))
  ∧ (∀ (a : Acc) (slot : Fin 64), WriteEffect a (R.SEC_CMD) (.otpKey a 0x3C slot) (fun b => b.parts.pinHeld = false ∧
      b.sec.job = none ∧ b.sec.svcOpen = true ∧ a.req = 19 ∧ 1 ≤ slot.val ∧ slot.val ≤ 3 ∧ bit b.sec.programmed slot =
      false) (fun b n => n.sec =
      { b.sec with slot := slot, result := .none, job := some (.burn slot (b.regBytes (R.SEC_KHASH 0) 16)) } ∧ ∀ k : Fin
      16, n.reg (R.SEC_KHASH k) = 0))
  ∧ (∀ (t : Nat) (k : Nat) (h : List Byte), Effect t (.keyDone t true) (fun b => b.sec.job = some (.burn k h)) (fun b n
      => n.sec =
      { b.sec with job := none, programmed := setBit b.sec.programmed k true, hashes := KMap.put b.sec.hashes k h, result := .done }
      ∧ n.regB (R.EVT_STATUS 114) 1 = true))
  ∧ (∀ (t : Nat) (k : Nat) (h : List Byte), Effect t (.keyDone t false) (fun b => b.sec.job = some (.burn k h)) (fun b
      n => n.sec = { b.sec with job := none, revoked := setBit b.sec.revoked k true, result := .otpFail } ∧ n.regB
      (R.EVT_STATUS 114) 1 = true))
  ∧ (∀ (t : Nat), Effect t (.svcChallenge t) (fun b => b.parts.pinHeld = false ∧ b.sec.lockUntil = none) (fun b n =>
      n.sec = { b.sec with nonce := n.sec.nonce } ∧ ∃ x, n.sec.nonce = some x ∧ x.length = 32))
  ∧ (∀ (t : Nat) (block sigEc sigMl x : List Byte), Effect t (.svcAnswer t block sigEc sigMl) (fun b => b.parts.pinHeld
      = false ∧ b.sec.nonce = some x ∧ b.sec.lockUntil = none) (fun b n => n.sec = (if (List.range 4).any (fun k =>
      b.keyOk k block) && Config.ecVerify (block.take 133) x sigEc && Config.mlVerify (block.drop 133) x sigMl then
      { b.sec with nonce := none, svcOpen := true, fails := 0 } else if b.sec.fails = 2 then
      { b.sec with nonce := none, fails := 0, lockUntil := some (b.clk.lt + 60000000000) } else
      { b.sec with nonce := none, fails := b.sec.fails + 1 })))
  ∧ (∀ (t : Nat) (u : Nat), Effect t (.svcLockEnd t) (fun b => b.sec.lockUntil = some u ∧ u ≤ b.clk.lt) (fun b n =>
      n.sec = { b.sec with lockUntil := none }))
  ∧ (∀ (a : Acc) (count : Fin 65536), WriteEffect a (R.STOR_CMD) (.storRead a count) (fun b => b.stor.job = none ∧ 1 ≤
      count.val ∧ journalBlock ≤ b.regF R.STOR_LBA 21 0 ∧ b.regF R.STOR_LBA 21 0 + count ≤ ufsBlocks ∧ inDram (b.regPair
      R.STOR_ADDR_LO R.STOR_ADDR_HI % 2 ^ 36 / 4096 * 4096) (count * 4096) = true ∧ b.memCheck b.pt.active 0 2
      (b.regPair R.STOR_ADDR_LO R.STOR_ADDR_HI % 2 ^ 36 / 4096 * 4096) (count * 4096) .write = none) (fun b n => n.stor
      =
      { b.stor with result := .none, job := some { write := false, lba := b.regF R.STOR_LBA 21 0, count := count, addr := b.regPair R.STOR_ADDR_LO R.STOR_ADDR_HI % 2 ^ 36 / 4096 * 4096 } }))
  ∧ (∀ (a : Acc) (count : Fin 65536), WriteEffect a (R.STOR_CMD) (.storWrite a count) (fun b => b.stor.job = none ∧ 1 ≤
      count.val ∧ ownerBlock ≤ b.regF R.STOR_LBA 21 0 ∧ b.regF R.STOR_LBA 21 0 + count ≤ ufsBlocks ∧ inDram (b.regPair
      R.STOR_ADDR_LO R.STOR_ADDR_HI % 2 ^ 36 / 4096 * 4096) (count * 4096) = true ∧ b.memCheck b.pt.active 0 2
      (b.regPair R.STOR_ADDR_LO R.STOR_ADDR_HI % 2 ^ 36 / 4096 * 4096) (count * 4096) .read = none) (fun b n => n.stor =
      { b.stor with result := .none, job := some { write := true, lba := b.regF R.STOR_LBA 21 0, count := count, addr := b.regPair R.STOR_ADDR_LO R.STOR_ADDR_HI % 2 ^ 36 / 4096 * 4096 } }))
  ∧ (∀ (a : Acc) (count : Fin 65536), WriteEffect a (R.STOR_CMD) (.storWrite a count) (fun b => b.stor.job = none ∧
      b.regF R.STOR_LBA 21 0 < ownerBlock) (fun b n => n.stor = { b.stor with result := .refusedArea }))
  ∧ (∀ (a : Acc) (count : Fin 65536), WriteEffect a (R.STOR_CMD) (.storRead a count) (fun b => b.stor.job.isSome =
      true) (fun b n => n.stor = { b.stor with result := .busy }))
  ∧ (∀ (t : Nat) (second : Nat) (j : StorJob), Effect t (.cmdDone t second none) (fun b => b.stor.job = some j ∧
      j.write = false) (fun b n => n.stor = { b.stor with job := none, result := .done } ∧ n.mem = (b.writeBytes j.addr
      (b.ufsRead (j.lba * 4096) (j.count * 4096))).mem ∧ n.regF R.STOR_ERR 15 0 = satAdd 16 (b.regF R.STOR_ERR 15 0)
      second))
  ∧ (∀ (t : Nat) (second : Nat) (failed : Option (Fin 65536)) (j : StorJob), Effect t (.cmdDone t second failed) (fun b
      => b.stor.job = some j ∧ j.write = true) (fun b n => n.stor =
      { b.stor with job := none, result := .done, ufs := ufsPut b.stor.ufs (j.lba * 4096) (b.readBytes j.addr (j.count * 4096)) }
      ∧ n.mem = b.mem))
  ∧ (∀ (t : Nat) (second : Nat) (f : Fin 65536) (j : StorJob), Effect t (.cmdDone t second (some f)) (fun b =>
      b.stor.job = some j ∧ j.write = false ∧ f.val < j.count) (fun b n => n.stor =
      { b.stor with job := none, result := .media } ∧ n.mem = (b.writeBytes j.addr (b.ufsRead (j.lba * 4096) (f *
      4096))).mem))
  ∧ (∀ (t : Nat) (ecc : EccFound) (p : Packet) (out : State), Effect t (.journalAppend t ecc) (fun b => b.regB
      R.STOR_JCFG 31 = true ∧ isMsgQueue (b.regF R.STOR_JCFG 11 0) = true ∧ b.queueOwner (b.regF R.STOR_JCFG 11 0) = 0 ∧
      b.popPacket (b.regF R.STOR_JCFG 11 0) = some (p, out) ∧ p.data.length = 128 ∧ b.stor.index < 8388608) (fun b n =>
      n.stor =
      { b.stor with ufs := ufsPut b.stor.ufs (journalBlock * 4096 + 128 * b.stor.index) p.data, index := (b.stor.index + 1) % 8388608, wrapped := b.stor.wrapped || decide (b.stor.index = 8388607) }
      ∧ b.queueLeft n (b.regF R.STOR_JCFG 11 0) (out.queue (b.regF R.STOR_JCFG 11 0)).visible))
  ∧ (∀ (t : Nat) (ecc : EccFound) (p : Packet) (out : State), Effect t (.journalAppend t ecc) (fun b => b.regB
      R.STOR_JCFG 31 = true ∧ isMsgQueue (b.regF R.STOR_JCFG 11 0) = true ∧ b.queueOwner (b.regF R.STOR_JCFG 11 0) = 0 ∧
      b.popPacket (b.regF R.STOR_JCFG 11 0) = some (p, out) ∧ p.data.length ≠ 128) (fun b n => n.stor = b.stor ∧ n.regF
      R.STOR_ERR 15 0 = satAdd 16 (b.regF R.STOR_ERR 15 0) 1))
  ∧ (∀ (t : Nat) (ecc : EccFound), Effect t (.journalAppend t ecc) (fun b => b.regB R.STOR_JCFG 31 = false ∨ (b.queue
      (b.regF R.STOR_JCFG 11 0)).visible = []) (fun b n => n.stor = b.stor ∧ n.regs = b.regs ∧ n.pool = b.pool))
  ∧ (∀ (t : Nat), Effect t (.svcChallenge t) (fun b => b.parts.pinHeld = true ∨ b.sec.lockUntil.isSome = true) (fun b n
      => n.sec = b.sec))

/-- R2, R4, R5, R8, R9, R42, R44: accesses by address. A refused access ends in a bus error, is recorded where R44 says so, and
changes nothing else. A write that is let through: EVT_ENABLE, EVT_STATUS (W1C) and EVT_FORCE (W1S) of a page, banked on COH; a
plain RW or WO register takes its named bits; COH_COMMIT_TIME; an ST register takes a staged value; an RO or RC register, a
shadow address and an unnamed register are left alone. A read returns the value shown and changes nothing but an RC register,
which it clears, or, held by a snapshot, lessens once by the held value or clears where the extreme is not the newer one (R32;
notes/assumptions/66.md). R318, R330: memory is written, read and fetched where the access is permitted and ECC lets it pass.
R43: no write goes through the partner view. R52, R44: event bits are cleared and forced, and the oldest violation is
discarded. -/
def Obligations.SoftwareAccess : Prop :=
  (∀ (a : Acc) (addr size : Nat) (val : Word) (c : BusCause), Effect a.t (.registerWrite a addr val size) (fun b =>
      rangeOf addr = .pages ∧ (leBytes size val.toNat).length = size ∧ b.checkPage a addr true size = some c) (fun b n
      => b.violated n a addr true c))
  ∧ (∀ (a : Acc) (addr size : Nat) (val : Word), Effect a.t (.registerWrite a addr val size) (fun _ => rangeOf addr =
      .partner) (fun b n => b.violated n a addr true .partnerWrite))
  ∧ (∀ (a : Acc) (page : Fin 118) (val : Word), Effect a.t (.registerWrite a (R.EVT_ENABLE page) val 4) (fun b => page
      ≠ 0 ∧ b.checkPage a (R.EVT_ENABLE page) true 4 = none) (fun b n => n.resp = .ok 0 ∧ n.reg (R.EVT_ENABLE page) =
      val &&& eventMask page ∧ n.reg (R.EVT_STATUS page) = b.reg (R.EVT_STATUS page)))
  ∧ (∀ (a : Acc) (page : Fin 118) (val : Word), Effect a.t (.registerWrite a (R.EVT_STATUS page) val 4) (fun b => page
      ≠ 0 ∧ b.checkPage a (R.EVT_STATUS page) true 4 = none) (fun b n => n.resp = .ok 0 ∧ n.reg (R.EVT_STATUS page) =
      b.reg (R.EVT_STATUS page) &&& ~~~val ∧ n.reg (R.EVT_ENABLE page) = b.reg (R.EVT_ENABLE page)))
  ∧ (∀ (a : Acc) (page : Fin 118) (val : Word), Effect a.t (.registerWrite a (R.EVT_FORCE page) val 4) (fun b => page ≠
      0 ∧ b.checkPage a (R.EVT_FORCE page) true 4 = none) (fun b n => n.resp = .ok 0 ∧ n.reg (R.EVT_STATUS page) = b.reg
      (R.EVT_STATUS page) ||| (val &&& eventMask page) ∧ n.reg (R.EVT_ENABLE page) = b.reg (R.EVT_ENABLE page)))
  ∧ (∀ (a : Acc) (val : Word), Effect a.t (.registerWrite a (R.EVT_ENABLE 0) val 4) (fun b => b.checkPage a
      (R.EVT_ENABLE 0) true 4 = none) (fun b n => n.resp = .ok 0 ∧ n.coh = (b.setBank (State.accPart a)
      { b.bank (State.accPart a) with evEnable := val &&& eventMask 0 }).coh ∧ n.regs = b.regs))
  ∧ (∀ (a : Acc) (val : Word), Effect a.t (.registerWrite a R.COH_COMMIT_TIME_LO val 4) (fun b => b.checkPage a
      R.COH_COMMIT_TIME_LO true 4 = none) (fun b n => n.resp = .ok 0 ∧ n.coh = (b.setBank (State.accPart a)
      { b.bank (State.accPart a) with timeLo := val }).coh ∧ n.regs = b.regs ∧ n.staged = b.staged))
  ∧ (∀ (a : Acc) (val : Word), Effect a.t (.registerWrite a R.COH_COMMIT_TIME_HI val 4) (fun b => b.checkPage a
      R.COH_COMMIT_TIME_HI true 4 = none) (fun b n => n.resp = .ok 0 ∧ n.coh = (b.setBank (State.accPart a)
      { b.bank (State.accPart a) with timeHi := val }).coh ∧ n.regs = b.regs ∧ n.staged = b.staged))
  ∧ (∀ (a : Acc) (addr idx : Nat) (r : RegRow) (val : Word), Effect a.t (.registerWrite a addr val 4) (fun b => rangeOf
      addr = .pages ∧ pageAt addr = some idx ∧ regRowAt idx (addr % 0x1000 % 0x800) = some r ∧ b.checkPage a addr true 4
      = none ∧ addr % 0x1000 < 0x800 ∧ 0x40 ≤ addr % 0x1000 ∧ (r.access = .rw ∧ (idx = 84 ∨ idx = 112 ∨ idx = 114 ∨ idx
      = 115 ∨ idx = 117) ∨ r.access = .wo ∧ idx = 114 ∧ addr % 0x1000 ≠ 0x54)) (fun b n => n.resp = .ok 0 ∧ n.reg
      (pageBase idx + addr % 0x1000) = val &&& r.mask ∧ (∀ x, x ≠ pageBase idx + addr % 0x1000 → n.reg x = b.reg x) ∧
      b.sameBut n [.resp, .regs]))
  ∧ (∀ (a : Acc) (addr idx : Nat) (r : RegRow) (val : Word), Effect a.t (.registerWrite a addr val 4) (fun b => rangeOf
      addr = .pages ∧ pageAt addr = some idx ∧ regRowAt idx (addr % 0x1000 % 0x800) = some r ∧ b.checkPage a addr true 4
      = none ∧ r.access = .st ∧ indirectReg (lowerHalf addr) = false ∧ lowerHalf addr ≠ R.UPD_ACT_REC ∧ b.pageSeal idx
      (State.accPart a) = none ∧ (pageMirrored idx && b.isPaired (State.accPart a) && b.pairHeld (State.accPart a)) =
      false) (fun b n => n.resp = .ok 0 ∧ KMap.get? n.staged (lowerHalf addr) = some (val &&& r.mask) ∧ n.regs = b.regs))
  ∧ (∀ (a : Acc) (addr idx : Nat) (r : RegRow) (val : Word), Effect a.t (.registerWrite a addr val 4) (fun b => rangeOf
      addr = .pages ∧ pageAt addr = some idx ∧ regRowAt idx (addr % 0x1000 % 0x800) = some r ∧ b.checkPage a addr true 4
      = none ∧ 0x40 ≤ addr % 0x1000 ∧ r.access ≠ .st ∧ ¬ (idx = 113 ∧ addr % 0x1000 = 0x44) ∧ (0x800 ≤ addr % 0x1000 ∨
      r.access = .rc ∨ r.access = .ro ∧ mixedReg idx (addr % 0x1000) = false)) (fun b n => n.resp = .ok 0 ∧ b.sameBut n
      [.resp]))
  ∧ (∀ (a : Acc) (addr idx : Nat) (val : Word), Effect a.t (.registerWrite a addr val 4) (fun b => rangeOf addr =
      .pages ∧ b.checkPage a addr true 4 = none ∧ pageAt addr = some idx ∧ regRowAt idx (addr % 0x1000 % 0x800) = none)
      (fun b n => n.resp = .ok 0 ∧ b.sameBut n [.resp]))
  ∧ (∀ (a : Acc) (addr size : Nat) (c : BusCause), Effect a.t (.readToClear a addr size) (fun b => rangeOf addr =
      .pages ∧ b.checkPage a addr false size = some c) (fun b n => b.violated n a addr false c))
  ∧ (∀ (a : Acc) (addr size idx : Nat) (r : RegRow), Effect a.t (.readToClear a addr size) (fun b => rangeOf addr =
      .pages ∧ pageAt addr = some idx ∧ regRowAt idx (addr % 0x1000 % 0x800) = some r ∧ b.checkPage a addr false size =
      none ∧ r.access = .rc ∧ addr % 0x1000 < 0x800 ∧ idx ≠ 0 ∧ (b.page idx).held = false ∧ pageBase idx + addr % 0x1000
      ≠ R.QMGR_FREE_MIN) (fun b n => n.resp = .ok (b.live (State.accPart a) idx (addr % 0x1000)).toNat ∧ n.reg (pageBase
      idx + addr % 0x1000) = 0 ∧ (∀ x, x ≠ pageBase idx + addr % 0x1000 → n.reg x = b.reg x) ∧ b.sameBut n [.resp,
      .regs]))
  ∧ (∀ (a : Acc) (addr size idx : Nat) (r : RegRow), Effect a.t (.readToClear a addr size) (fun b => rangeOf addr =
      .pages ∧ pageAt addr = some idx ∧ regRowAt idx (addr % 0x1000 % 0x800) = some r ∧ b.checkPage a addr false size =
      none ∧ r.access = .rc ∧ addr % 0x1000 < 0x800 ∧ idx ≠ 0 ∧ (b.page idx).held = false ∧ pageBase idx + addr % 0x1000
      = R.QMGR_FREE_MIN) (fun b n => n.resp = .ok (b.live (State.accPart a) idx (addr % 0x1000)).toNat ∧ n.reg
      R.QMGR_FREE_MIN = word (b.poolFree false) ∧ b.sameBut n [.resp, .regs]))
  ∧ (∀ (a : Acc) (addr size idx : Nat) (r : RegRow) (h : Word), Effect a.t (.readToClear a addr size) (fun b => rangeOf
      addr = .pages ∧ pageAt addr = some idx ∧ regRowAt idx (addr % 0x1000 % 0x800) = some r ∧ b.checkPage a addr false
      size = none ∧ r.access = .rc ∧ addr % 0x1000 < 0x800 ∧ idx ≠ 0 ∧ b.heldValue idx (addr % 0x1000) = some h ∧
      extremeReg (pageBase idx + addr % 0x1000) = none ∧ packedCount (pageBase idx + addr % 0x1000) = false) (fun b n =>
      n.resp = .ok h.toNat ∧ n.reg (pageBase idx + addr % 0x1000) = (if b.heldRead.contains (pageBase idx + addr %
      0x1000) then b.reg (pageBase idx + addr % 0x1000) else word ((b.reg (pageBase idx + addr % 0x1000)).toNat -
      h.toNat)) ∧ n.heldRead.contains (pageBase idx + addr % 0x1000) = true ∧ n.held = b.held))
  ∧ (∀ (a : Acc) (addr size idx : Nat) (r : RegRow) (h : Word), Effect a.t (.readToClear a addr size) (fun b => rangeOf
      addr = .pages ∧ pageAt addr = some idx ∧ regRowAt idx (addr % 0x1000 % 0x800) = some r ∧ b.checkPage a addr false
      size = none ∧ r.access = .rc ∧ addr % 0x1000 < 0x800 ∧ idx ≠ 0 ∧ b.heldValue idx (addr % 0x1000) = some h ∧
      extremeReg (pageBase idx + addr % 0x1000) = none ∧ packedCount (pageBase idx + addr % 0x1000) = true ∧
      b.heldRead.contains (pageBase idx + addr % 0x1000) = false) (fun b n => n.resp = .ok h.toNat ∧ n.regF (pageBase
      idx + addr % 0x1000) 31 16 = b.regF (pageBase idx + addr % 0x1000) 31 16 - fld h 31 16 ∧ n.regF (pageBase idx +
      addr % 0x1000) 15 0 = b.regF (pageBase idx + addr % 0x1000) 15 0 - fld h 15 0 ∧ n.heldRead.contains (pageBase idx
      + addr % 0x1000) = true ∧ n.held = b.held))
  ∧ (∀ (a : Acc) (addr size idx : Nat) (r : RegRow) (h : Word), Effect a.t (.readToClear a addr size) (fun b => rangeOf
      addr = .pages ∧ pageAt addr = some idx ∧ regRowAt idx (addr % 0x1000 % 0x800) = some r ∧ b.checkPage a addr false
      size = none ∧ r.access = .rc ∧ addr % 0x1000 < 0x800 ∧ idx ≠ 0 ∧ b.heldValue idx (addr % 0x1000) = some h ∧
      extremeReg (pageBase idx + addr % 0x1000) = some false) (fun b n => n.resp = .ok h.toNat ∧ n.reg (pageBase idx +
      addr % 0x1000) = (if extremeOf (pageBase idx + addr % 0x1000) h < extremeOf (pageBase idx + addr % 0x1000) (b.reg
      (pageBase idx + addr % 0x1000)) then b.reg (pageBase idx + addr % 0x1000) else 0) ∧ n.held = b.held ∧ n.heldRead =
      b.heldRead))
  ∧ (∀ (a : Acc) (addr size idx : Nat) (r : RegRow), Effect a.t (.readToClear a addr size) (fun b => rangeOf addr =
      .pages ∧ pageAt addr = some idx ∧ regRowAt idx (addr % 0x1000 % 0x800) = some r ∧ b.checkPage a addr false size =
      none ∧ ¬ (idx = 0 ∧ 0x200 ≤ addr % 0x1000 ∧ addr % 0x1000 < 0x300) ∧ (r.access ≠ .rc ∨ 0x800 ≤ addr % 0x1000))
      (fun b n => n.resp = .ok (if addr % 0x1000 < 0x800 then b.shown (State.accPart a) idx (addr % 0x1000) else if
      r.access = .st then b.liveStaged idx (addr % 0x1000 % 0x800) else b.shown (State.accPart a) idx (addr % 0x1000 %
      0x800)).toNat ∧ b.sameBut n [.resp]))
  ∧ (∀ (a : Acc) (addr size idx : Nat), Effect a.t (.readToClear a addr size) (fun b => rangeOf addr = .pages ∧
      b.checkPage a addr false size = none ∧ pageAt addr = some idx ∧ regRowAt idx (addr % 0x1000 % 0x800) = none) (fun
      b n => n.resp = .ok 0 ∧ b.sameBut n [.resp]))
  ∧ (∀ (a : Acc) (addr : Nat) (d : List Byte) (ecc : EccFound), Effect a.t (.memoryAccess a addr (.write d) ecc) (fun b
      => (rangeOf addr).isMem = true ∧ b.memCheck b.pt.active (State.accPart a) a.req addr d.length .write = none ∧
      b.mirrorClosed (State.accPart a) addr d.length = false ∧ (ecc = .clean ∨ inDram addr 1 = false ∨ wholeGranules
      addr d.length = true)) (fun b n => n.resp = .ok 0 ∧ n.mem = (b.writeBytes addr d).mem ∧ n.regs = b.regs))
  ∧ (∀ (a : Acc) (addr : Nat) (d : List Byte), Effect a.t (.memoryAccess a addr (.write d) .corrected) (fun b =>
      (rangeOf addr).isMem = true ∧ b.memCheck b.pt.active (State.accPart a) a.req addr d.length .write = none ∧
      b.mirrorClosed (State.accPart a) addr d.length = false ∧ inDram addr 1 = true ∧ wholeGranules addr d.length =
      false) (fun b n => n.resp = .ok 0 ∧ n.mem = (b.writeBytes addr d).mem ∧ n.regF R.DRAMC_ECC 15 0 = satAdd 16
      (b.regF R.DRAMC_ECC 15 0) 1))
  ∧ (∀ (a : Acc) (addr : Nat) (d : List Byte), Effect a.t (.memoryAccess a addr (.write d) .uncorrectable) (fun b =>
      (rangeOf addr).isMem = true ∧ b.memCheck b.pt.active (State.accPart a) a.req addr d.length .write = none ∧
      b.mirrorClosed (State.accPart a) addr d.length = false ∧ inDram addr 1 = true ∧ wholeGranules addr d.length =
      false) (fun b n => n.resp = .busError .ecc ∧ n.mem = b.mem ∧ n.regF R.DRAMC_ECC 31 16 = satAdd 16 (b.regF
      R.DRAMC_ECC 31 16) 1))
  ∧ (∀ (a : Acc) (addr : Nat) (d : List Byte) (ecc : EccFound), Effect a.t (.memoryAccess a addr (.write d) ecc) (fun b
      => (rangeOf addr).isMem = true ∧ b.memCheck b.pt.active (State.accPart a) a.req addr d.length .write = none ∧
      b.mirrorClosed (State.accPart a) addr d.length = true) (fun b n => b.violated n a addr true .notOwner))
  ∧ (∀ (a : Acc) (addr : Nat) (d : List Byte) (c : BusCause) (ecc : EccFound), Effect a.t (.memoryAccess a addr (.write
      d) ecc) (fun b => (rangeOf addr).isMem = true ∧ b.memCheck b.pt.active (State.accPart a) a.req addr d.length
      .write = some c) (fun b n => b.refusedAs n a addr true c))
  ∧ (∀ (a : Acc) (addr : Nat) (d : List Byte) (ecc : EccFound), Effect a.t (.memoryAccess a addr (.write d) ecc) (fun _
      => rangeOf addr = .partner) (fun b n => b.violated n a addr true .partnerWrite))
  ∧ (∀ (a : Acc) (addr k : Nat) (ecc : EccFound), Effect a.t (.memoryAccess a addr (.read k) ecc) (fun b => (rangeOf
      addr).isMem = true ∧ b.memCheck b.pt.active (State.accPart a) a.req addr k .read = none ∧ (ecc = .clean ∨ inDram
      addr 1 = false)) (fun b n => n.resp = .ok (leVal (b.readBytes addr k)) ∧ n.mem = b.mem ∧ n.regs = b.regs))
  ∧ (∀ (a : Acc) (addr k : Nat), Effect a.t (.memoryAccess a addr (.read k) .corrected) (fun b => (rangeOf addr).isMem
      = true ∧ b.memCheck b.pt.active (State.accPart a) a.req addr k .read = none ∧ inDram addr 1 = true) (fun b n =>
      n.resp = .ok (leVal (b.readBytes addr k)) ∧ n.mem = b.mem ∧ n.regF R.DRAMC_ECC 15 0 = satAdd 16 (b.regF
      R.DRAMC_ECC 15 0) 1))
  ∧ (∀ (a : Acc) (addr k : Nat), Effect a.t (.memoryAccess a addr (.read k) .uncorrectable) (fun b => (rangeOf
      addr).isMem = true ∧ b.memCheck b.pt.active (State.accPart a) a.req addr k .read = none ∧ inDram addr 1 = true)
      (fun b n => n.resp = .busError .ecc ∧ n.mem = b.mem ∧ n.regF R.DRAMC_ECC 31 16 = satAdd 16 (b.regF R.DRAMC_ECC 31
      16) 1))
  ∧ (∀ (a : Acc) (addr k : Nat) (c : BusCause) (ecc : EccFound), Effect a.t (.memoryAccess a addr (.read k) ecc) (fun b
      => (rangeOf addr).isMem = true ∧ b.memCheck b.pt.active (State.accPart a) a.req addr k .read = some c) (fun b n =>
      b.refusedAs n a addr false c))
  ∧ (∀ (a : Acc) (addr k : Nat) (ecc : EccFound), Effect a.t (.memoryAccess a addr (.fetch k) ecc) (fun b => (rangeOf
      addr).isMem = true ∧ b.memCheck b.pt.active (State.accPart a) a.req addr k .fetch = none ∧ (ecc = .clean ∨ inDram
      addr 1 = false)) (fun b n => n.resp = .ok (leVal (b.readBytes addr k)) ∧ n.mem = b.mem ∧ n.regs = b.regs))
  ∧ (∀ (a : Acc) (addr k : Nat), Effect a.t (.memoryAccess a addr (.fetch k) .corrected) (fun b => (rangeOf addr).isMem
      = true ∧ b.memCheck b.pt.active (State.accPart a) a.req addr k .fetch = none ∧ inDram addr 1 = true) (fun b n =>
      n.resp = .ok (leVal (b.readBytes addr k)) ∧ n.mem = b.mem ∧ n.regF R.DRAMC_ECC 15 0 = satAdd 16 (b.regF
      R.DRAMC_ECC 15 0) 1))
  ∧ (∀ (a : Acc) (addr k : Nat), Effect a.t (.memoryAccess a addr (.fetch k) .uncorrectable) (fun b => (rangeOf
      addr).isMem = true ∧ b.memCheck b.pt.active (State.accPart a) a.req addr k .fetch = none ∧ inDram addr 1 = true)
      (fun b n => n.resp = .busError .ecc ∧ n.mem = b.mem ∧ n.regF R.DRAMC_ECC 31 16 = satAdd 16 (b.regF R.DRAMC_ECC 31
      16) 1))
  ∧ (∀ (a : Acc) (addr k : Nat) (c : BusCause) (ecc : EccFound), Effect a.t (.memoryAccess a addr (.fetch k) ecc) (fun
      b => (rangeOf addr).isMem = true ∧ b.memCheck b.pt.active (State.accPart a) a.req addr k .fetch = some c) (fun b n
      => b.refusedAs n a addr false c))
  ∧ (∀ (a : Acc) (addr k : Nat) (ecc : EccFound), Effect a.t (.memoryAccess a addr (.fetch k) ecc) (fun _ => (rangeOf
      addr).isMem = false) (fun b n => b.violated n a addr false .notOwner))
  ∧ (∀ (a : Acc) (page : Fin 118) (mask again : Word), WriteEffect a (R.EVT_STATUS page) (.evtStatusClear a page mask
      again) (fun _ => page ≠ 0) (fun b n => n.reg (R.EVT_STATUS page) = (b.reg (R.EVT_STATUS page) &&& ~~~mask) |||
      (again &&& eventMask page) ∧ n.reg (R.EVT_ENABLE page) = b.reg (R.EVT_ENABLE page)))
  ∧ (∀ (a : Acc) (mask again : Word), WriteEffect a (R.EVT_STATUS 0) (.evtStatusClear a 0 mask again) (fun _ => True)
      (fun b n => (n.bank (State.accPart a)).evStatus = ((b.bank (State.accPart a)).evStatus &&& ~~~mask) ||| (again &&&
      eventMask 0) ∧ (n.bank (State.accPart a)).evEnable = (b.bank (State.accPart a)).evEnable ∧ n.regs = b.regs))
  ∧ (∀ (a : Acc) (page : Fin 118) (mask : Word), WriteEffect a (R.EVT_FORCE page) (.evtForce a page mask) (fun _ =>
      page ≠ 0) (fun b n => n.reg (R.EVT_STATUS page) = b.reg (R.EVT_STATUS page) ||| (mask &&& eventMask page) ∧ n.reg
      (R.EVT_ENABLE page) = b.reg (R.EVT_ENABLE page)))
  ∧ (∀ (a : Acc) (mask : Word), WriteEffect a (R.EVT_FORCE 0) (.evtForce a 0 mask) (fun _ => True) (fun b n => n.coh =
      (b.setBank (State.accPart a)
      { b.bank (State.accPart a) with evStatus := (b.bank (State.accPart a)).evStatus ||| (mask &&& eventMask 0) }).coh
      ∧ n.regs = b.regs))
  ∧ (∀ (a : Acc) , WriteEffect a (R.EVT_VIOL_POP) (.evtViolPop a) (fun _ => True) (fun b n => n.viol = b.viol.drop 1 ∧
      n.violLost = b.violLost ∧ n.regs = b.regs))

/-- R8, R25: a write of an ST register is staged and the active value stays; a sealed page refuses it. R14, R15, R16, R17: a write
through a table window goes into the other copy of its set, or of its region, whose holder the writer becomes. R11, R26: staged
values and edits are discarded. R13, R16, R29: draining, resynchronisation and the replay of the stage log. -/
def Obligations.Staging : Prop :=
  (∀ (a : Acc) (addr idx : Nat) (val : Word) (r : RegRow), WriteEffect a (addr) (.stagedWrite a addr val) (fun b =>
      regRowOf addr = some r ∧ r.access = .st ∧ pageAt (lowerHalf addr) = some idx ∧ indirectReg (lowerHalf addr) =
      false ∧ b.pageSeal idx (State.accPart a) = none ∧ lowerHalf addr ≠ R.UPD_ACT_REC ∧ (pageMirrored idx && b.isPaired
      (State.accPart a) && b.pairHeld (State.accPart a)) = false) (fun b n => KMap.get? n.staged (lowerHalf addr) = some
      (val &&& r.mask) ∧ n.regs = b.regs))
  ∧ (∀ (a : Acc) (addr : Nat) (val : Word), Effect a.t (.stagedWrite a addr val) (fun b => lowerHalf addr =
      R.UPD_ACT_REC ∧ b.checkPage a addr true 4 = none) (fun b n => n.resp = .busError .refused ∧ b.sameBut n [.resp]))
  ∧ (∀ (a : Acc) (addr : Nat) (val : Word) (c : BusCause), Effect a.t (.stagedWrite a addr val) (fun b => b.checkPage a
      addr true 4 = some c) (fun b n => b.violated n a addr true c))
  ∧ (∀ (a : Acc) (val : Word), WriteEffect a (R.QMGR_QCFG_A) (.stagedWrite a R.QMGR_QCFG_A val) (fun b => isMsgQueue
      (b.regF R.QMGR_QSEL 11 0) = true ∧ b.pageSeal 84 (State.accPart a) = none ∧ (pageMirrored 84 && b.isPaired
      (State.accPart a) && b.pairHeld (State.accPart a)) = false) (fun b n => KMap.get? n.pool.stagedA (b.regF
      R.QMGR_QSEL 11 0) = some (val &&& ((regRowOf R.QMGR_QCFG_A).map (·.mask)).getD 0) ∧ n.staged = b.staged ∧
      n.pool.cfgA = b.pool.cfgA))
  ∧ (∀ (a : Acc) (addr idx : Nat) (val : Word) (r : RegRow), Effect a.t (.stagedWrite a addr val) (fun b => b.checkPage
      a addr true 4 = none ∧ regRowOf addr = some r ∧ r.access = .st ∧ pageAt (lowerHalf addr) = some idx ∧ lowerHalf
      addr ≠ R.UPD_ACT_REC ∧ b.pageSeal idx (State.accPart a) = none ∧ (pageMirrored idx && b.isPaired (State.accPart a)
      && b.pairHeld (State.accPart a)) = true) (fun b n => n.resp = .busError .refused ∧ b.sameBut n [.resp]))
  ∧ (∀ (a : Acc) (addr idx q : Nat) (val : Word) (r : RegRow), Effect a.t (.stagedWrite a addr val) (fun b => lowerHalf
      addr ≠ R.UPD_ACT_REC ∧ b.checkPage a addr true 4 = none ∧ regRowOf addr = some r ∧ r.access = .st ∧ pageAt
      (lowerHalf addr) = some idx ∧ b.pageSeal idx (State.accPart a) = some q) (fun b n => n.resp = .busError .sealed ∧
      n.staged = b.staged ∧ (n.bank q).sealedWrite = true))
  ∧ (∀ (a : Acc) (addr : Nat) (val : Word) (set : SetId), Effect a.t (.tableWindowWrite a addr val) (fun b =>
      b.tableSealed (State.accPart a) = false ∧ rangeOf addr = .window ∧ b.windowCheck a addr 4 (some val) = none ∧
      tableAt addr = some (.gen set) ∧ (set == .gw && b.isPaired (State.accPart a) && b.pairHeld (State.accPart a) &&
      a.req.val != 10) = false ∧ ((b.setOf set).holder = none ∨ (b.setOf set).holder = some (State.accPart a)) ∧
      (b.setOf set).other = .spare ∧ b.logOf set = []) (fun b n => n.resp = .ok 0 ∧ (n.setOf set).holder = some
      (State.accPart a) ∧ tabWord (n.setOf set).otherMap addr = val &&& tableMask addr ∧ (n.setOf set).active = (b.setOf
      set).active))
  ∧ (∀ (a : Acc) (addr q : Nat) (val : Word) (set : SetId), Effect a.t (.tableWindowWrite a addr val) (fun b =>
      b.tableSealed (State.accPart a) = false ∧ rangeOf addr = .window ∧ b.windowCheck a addr 4 (some val) = none ∧
      tableAt addr = some (.gen set) ∧ (set == .gw && b.isPaired (State.accPart a) && b.pairHeld (State.accPart a) &&
      a.req.val != 10) = false ∧ (b.setOf set).holder = some q ∧ q ≠ State.accPart a) (fun b n => n.resp = .busError
      .notHolder ∧ n.sw = b.sw ∧ n.gwSet = b.gwSet ∧ n.pt = b.pt ∧ n.log = b.log))
  ∧ (∀ (a : Acc) (addr : Nat) (val : Word) (set : SetId), Effect a.t (.tableWindowWrite a addr val) (fun b =>
      b.tableSealed (State.accPart a) = false ∧ rangeOf addr = .window ∧ b.windowCheck a addr 4 (some val) = none ∧
      tableAt addr = some (.gen set) ∧ (set == .gw && b.isPaired (State.accPart a) && b.pairHeld (State.accPart a) &&
      a.req.val != 10) = false ∧ ((b.setOf set).holder = none ∨ (b.setOf set).holder = some (State.accPart a)) ∧
      ((b.setOf set).other ≠ .spare ∨ b.logOf set ≠ []) ∧ b.log.length < 16384) (fun b n => n.resp = .ok 0 ∧ n.log =
      b.log ++ [⟨set, addr, val &&& tableMask addr, State.accPart a⟩] ∧ n.setOf set =
      { b.setOf set with holder := some (State.accPart a) }))
  ∧ (∀ (a : Acc) (addr : Nat) (val : Word) (set : SetId), Effect a.t (.tableWindowWrite a addr val) (fun b =>
      b.tableSealed (State.accPart a) = false ∧ rangeOf addr = .window ∧ b.windowCheck a addr 4 (some val) = none ∧
      tableAt addr = some (.gen set) ∧ (set == .gw && b.isPaired (State.accPart a) && b.pairHeld (State.accPart a) &&
      a.req.val != 10) = false ∧ ((b.setOf set).holder = none ∨ (b.setOf set).holder = some (State.accPart a)) ∧
      ((b.setOf set).other ≠ .spare ∨ b.logOf set ≠ []) ∧ 16384 ≤ b.log.length) (fun b n => n.resp = .busError
      .stageLogFull ∧ b.sameBut n [.resp]))
  ∧ (∀ (a : Acc) (addr : Nat) (val : Word), Effect a.t (.tableWindowWrite a addr val) (fun b => b.tableSealed
      (State.accPart a) = false ∧ rangeOf addr = .window ∧ b.windowCheck a addr 4 (some val) = none ∧ tableAt addr =
      some (.gen .gw) ∧ (b.isPaired (State.accPart a) && b.pairHeld (State.accPart a) && a.req.val != 10) = true) (fun b
      n => n.resp = .busError .refused ∧ b.sameBut n [.resp]))
  ∧ (∀ (a : Acc) (addr : Nat) (val : Word), Effect a.t (.tableWindowWrite a addr val) (fun b => b.tableSealed
      (State.accPart a) = true ∧ rangeOf addr = .window ∧ b.windowCheck a addr 4 (some val) = none ∧ (tableAt
      addr).isSome = true) (fun b n => n.resp = .busError .sealed ∧ (n.bank (State.accPart a)).sealedWrite = true ∧ n.sw
      = b.sw ∧ n.gwSet = b.gwSet ∧ n.pt = b.pt ∧ n.log = b.log ∧ n.regions = b.regions))
  ∧ (∀ (a : Acc) (addr : Nat) (val : Word) (c : BusCause), Effect a.t (.tableWindowWrite a addr val) (fun b => rangeOf
      addr = .window ∧ b.windowCheck a addr 4 (some val) = some c) (fun b n => b.refusedAs n a addr true c))
  ∧ (∀ (a : Acc) (addr key page entry : Nat) (val : Word), Effect a.t (.tableWindowWrite a addr val) (fun b =>
      b.tableSealed (State.accPart a) = false ∧ rangeOf addr = .window ∧ b.windowCheck a addr 4 (some val) = none ∧
      tableAt addr = some (.region key page entry)) (fun b n => n.resp = .ok 0 ∧ (n.region key).dirty = true ∧ tabWord
      (n.region key).spare addr = val &&& tableMask addr ∧ (n.region key).active = (b.region key).active))
  ∧ (∀ (a : Acc) (page : Fin 118), WriteEffect a (R.PAGE_CMD page) (.discardStage a page) (fun b => b.pageSeal page
      (State.accPart a) = none ∧ (b.page page).mode ≠ .resetting) (fun b n => (∀ x, x ∈ n.staged ↔ x ∈ b.staged ∧ pageAt
      x.1 ≠ some page.val) ∧ (page = 84 → n.pool.stagedA = [] ∧ n.pool.stagedB = []) ∧ (n.page page).fault = .none ∧
      n.regs = b.regs))
  ∧ (∀ (a : Acc) (page : Fin 118), WriteEffect a (R.PAGE_CMD page) (.discardStage a page) (fun b => b.pageSeal page
      (State.accPart a) = none ∧ (b.page page).mode = .resetting) (fun b n => n.page page =
      { b.page page with fault := .commandInvalid } ∧ n.staged = b.staged ∧ n.pool = b.pool))
  ∧ (∀ (a : Acc) (page : Fin 118) (q : Nat), Effect a.t (.discardStage a page) (fun b => b.checkPage a (R.PAGE_CMD
      page) true 4 = none ∧ b.pageSeal page (State.accPart a) = some q) (fun b n => n.resp = .busError .sealed ∧
      n.staged = b.staged ∧ (n.bank q).sealedWrite = true))
  ∧ (∀ (a : Acc) , Effect a.t (.discardTables a) (fun b => b.checkPage a R.COH_CANCEL true 4 = none ∧ b.tableSealed
      (State.accPart a) = true) (fun b n => n.resp = .busError .sealed ∧ n.sw = b.sw ∧ n.gwSet = b.gwSet ∧ n.pt = b.pt ∧
      n.regions = b.regions ∧ n.log = b.log))
  ∧ (∀ (a : Acc) , WriteEffect a (R.COH_CANCEL) (.discardTables a) (fun b => b.tableSealed (State.accPart a) = false)
      (fun b n => (∀ x : SetId, (n.setOf x).holder ≠ some (State.accPart a) ∧ (n.setOf x).active = (b.setOf x).active) ∧
      ∀ x ∈ regionList, b.pageOwner x.2 = State.accPart a → (n.region x.1).dirty = false))
  ∧ (∀ (t : Nat) (set : SetId), Effect t (.drainComplete t set) (fun b => (b.setOf set).other = .draining ∧
      b.drainCount set = 0) (fun b n => n.setOf set = { b.setOf set with other := .resync, since := b.clk.lt }))
  ∧ (∀ (t : Nat) (set : SetId), Effect t (.resyncComplete t set) (fun b => (b.setOf set).other = .resync ∧ (b.setOf
      set).since + resyncCycles set * b.cycleNs ≤ b.clk.lt) (fun b n => (n.setOf set).other = .spare ∧ (n.setOf
      set).otherMap = (b.setOf set).active ∧ (n.setOf set).active = (b.setOf set).active))
  ∧ (∀ (t : Nat) (set : SetId), Effect t (.stageLogReplayed t set) (fun b => (b.setOf set).other = .spare ∧ b.logOf set
      ≠ [] ∧ (b.setOf set).since + (b.logOf set).length * b.cycleNs ≤ b.clk.lt) (fun b n => n.logOf set = [] ∧ (n.setOf
      set).otherMap = (b.logOf set).foldl (fun m e => KMap.set m 0 e.addr e.val) (b.setOf set).otherMap ∧ (n.setOf
      set).active = (b.setOf set).active))
  ∧ (∀ (t : Nat) (region : RegionId), Effect t (.regionResyncComplete t region) (fun b => (b.region (regionKey
      region)).resync = true ∧ (b.region (regionKey region)).switched + regionCycles (regionKey region) * b.cycleNs ≤
      b.clk.lt) (fun b n => (n.region (regionKey region)).resync = false ∧ (n.region (regionKey region)).since = [] ∧
      (n.region (regionKey region)).active = (b.region (regionKey region)).active))

/-- R19, R20, R22, R23, R24, R26: a commit at once is applied at one edge, which advances EPOCH and gives staged registers their
values, or is refused with its RESULT and changes nothing staged; a scheduled commit waits for T and is then applied, or refused
where a set still drains; a pair-coherent one waits for the exchange, and is applied at T if GO stands; two commits due at
one instant are applied in ascending order of partition, a cycle apart (R21). An ALL commit of partition 0 also switches the load
stage to a new firmware bank (R419). A pending commit can be cancelled. Of several refusals the first of R23's table stands, and an
ALL commit while partition 0 is not RUNNING is REFUSED_SCOPE (notes/assumptions/68.md). -/
def Obligations.Commits : Prop :=
  (∀ (a : Acc) , WriteEffect a (R.COH_COMMIT) (.commitNow a 0xC3) (fun b => (b.bank (State.accPart a)).pending = none
      ∧ b.allPending = false ∧ b.commitDrains (State.accPart a) false = false) (fun b n => (n.bank (State.accPart
      a)).result = .applied ∧ (n.bank (State.accPart a)).pending = none ∧ n.coh.epoch = (b.coh.epoch + 1) % 65536 ∧
      (n.bank (State.accPart a)).lastEpoch = (b.coh.epoch + 1) % 65536 ∧ n.coh.lastLt = b.commitTurn))
  ∧ (∀ (a : Acc) (src : Fin 1024) (w : Word), WriteEffect a (R.COH_COMMIT) (.commitNow a 0xC3) (fun b => State.accPart
      a = 0 ∧ (b.bank 0).pending = none ∧ b.commitSets 0 false = [] ∧ b.staged = [(R.EVT_ROUTE src, w)] ∧ (∀ i : Fin
      118, (b.page i).mode = .active) ∧ (∀ x ∈ regionList, (b.region x.1).dirty = false) ∧ b.pool.stagedA = [] ∧
      b.pool.stagedB = []) (fun _ n => n.reg (R.EVT_ROUTE src) = w ∧ n.staged = []))
  ∧ (∀ (a : Acc) (key : Byte), WriteEffect a (R.COH_COMMIT) (.commitNow a key) (fun _ => key ≠ 0xC3) (fun b n =>
      (n.bank (State.accPart a)).result = .refusedKey ∧ n.staged = b.staged ∧ n.coh.epoch = b.coh.epoch ∧ n.regs =
      b.regs))
  ∧ (∀ (a : Acc) , WriteEffect a (R.COH_COMMIT) (.commitNow a 0xC3) (fun b => (b.bank (State.accPart a)).pending = none
      ∧ b.allPending = false ∧ b.commitDrains (State.accPart a) false = true) (fun b n => (n.bank (State.accPart
      a)).result = .refusedDrain ∧ n.staged = b.staged ∧ n.coh.epoch = b.coh.epoch ∧ n.regs = b.regs))
  ∧ (∀ (a : Acc) , WriteEffect a (R.COH_COMMIT) (.commitAll a 0xC3) (fun b => State.accPart a = 0 ∧ b.isRunning 0 =
      true ∧ (∀ q : Fin 32, (b.bank q).pending = none) ∧ b.commitDrains 0 true = false) (fun b n => (n.bank
      (State.accPart a)).result = .applied ∧ (n.bank (State.accPart a)).pending = none ∧ n.coh.epoch = (b.coh.epoch + 1)
      % 65536 ∧ (n.bank (State.accPart a)).lastEpoch = (b.coh.epoch + 1) % 65536 ∧ n.coh.lastLt = b.commitTurn ∧
      n.load.fwBank = (if b.load.fwReady then !b.load.fwBank else b.load.fwBank) ∧ n.load.fwReady = false ∧ n.load.fw =
      b.load.fw))
  ∧ (∀ (a : Acc) , WriteEffect a (R.COH_COMMIT) (.commitAll a 0xC3) (fun b => State.accPart a ≠ 0 ∨ b.isRunning 0 =
      false) (fun b n => (n.bank (State.accPart a)).result = .refusedScope ∧ n.staged = b.staged ∧ n.regs = b.regs))
  ∧ (∀ (a : Acc) (all : Bool), WriteEffect a (R.COH_COMMIT) (.commitSchedule a 0xC3 all) (fun b => (all = true →
      State.accPart a = 0 ∧ b.isRunning 0 = true) ∧ (∀ q : Fin 32, (b.bank q).pending = none) ∧ b.timeOk (b.commitTime
      (State.accPart a)) = true) (fun b n => (n.bank (State.accPart a)).pending = some
      { time := b.commitTime (State.accPart a), all := all } ∧ n.staged = b.staged ∧ n.regs = b.regs))
  ∧ (∀ (a : Acc) , WriteEffect a (R.COH_COMMIT) (.commitSchedule a 0xC3 false) (fun b => b.allPending = false ∧ (b.bank
      (State.accPart a)).pending = none ∧ b.timeOk (b.commitTime (State.accPart a)) = false) (fun _ n => (n.bank
      (State.accPart a)).result = .refusedTime ∧ (n.bank (State.accPart a)).pending = none))
  ∧ (∀ (a : Acc) (all : Bool), WriteEffect a (R.COH_COMMIT) (.commitPairCoherent a 0xC3 all) (fun b => (all = true →
      State.accPart a = 0 ∧ b.isRunning 0 = true) ∧ (∀ q : Fin 32, (b.bank q).pending = none) ∧ b.timeOk (b.commitTime
      (State.accPart a)) = true ∧ b.hw.paired = true ∧ b.isPaired (State.accPart a) = true ∧ b.pairOn = true ∧ b.roleOf
      (State.accPart a) = .active ∧ b.partnerRole (State.accPart a) = .standby) (fun b n => (n.bank (State.accPart
      a)).pending = some { time := b.commitTime (State.accPart a), all := all, pairMode := true, stage := .prepared } ∧
      n.staged = b.staged))
  ∧ (∀ (a : Acc) (all : Bool), WriteEffect a (R.COH_COMMIT) (.commitPairCoherent a 0xC3 all) (fun b => (all = true →
      State.accPart a = 0 ∧ b.isRunning 0 = true) ∧ (∀ q : Fin 32, (b.bank q).pending = none) ∧ b.timeOk (b.commitTime
      (State.accPart a)) = true ∧ b.hw.paired = false) (fun _ n => (n.bank (State.accPart a)).result = .refusedPair ∧
      (n.bank (State.accPart a)).pending = none))
  ∧ (∀ (t : Nat) (part : Fin 32) (c : PendingCommit), Effect t (.commitAtTimeApply t part) (fun b => (b.bank
      part).pending = some c ∧ c.time ≤ b.syncNs ∧ c.pairMode = false ∧ b.commitWaits part = false ∧ b.commitDrains part
      c.all = false) (fun b n => (n.bank part).result = .applied ∧ (n.bank part).pending = none ∧ n.coh.epoch =
      (b.coh.epoch + 1) % 65536))
  ∧ (∀ (t : Nat) (part : Fin 32) (c : PendingCommit), Effect t (.commitAtTimeApply t part) (fun b => (b.bank
      part).pending = some c ∧ c.time ≤ b.syncNs ∧ c.pairMode = false ∧ b.commitWaits part = false ∧ b.commitDrains part
      c.all = true) (fun b n => (n.bank part).result = .refusedDrain ∧ (n.bank part).pending = none ∧ n.coh.epoch =
      b.coh.epoch ∧ n.staged = b.staged))
  ∧ (∀ (t : Nat) (part : Fin 32) (c : PendingCommit), Effect t (.commitAtTimeApply t part) (fun b => (b.bank
      part).pending = some c ∧ b.syncNs < c.time) (fun b n => n.coh = b.coh ∧ n.staged = b.staged ∧ n.regs = b.regs))
  ∧ (∀ (a : Acc) , WriteEffect a (R.COH_COMMIT) (.commitNow a 0xC3) (fun b => (b.bank (State.accPart a)).pending.isSome
      = true) (fun b n => (n.bank (State.accPart a)).result = .refusedPending ∧ (n.bank (State.accPart a)).pending =
      (b.bank (State.accPart a)).pending ∧ n.staged = b.staged ∧ n.coh.epoch = b.coh.epoch ∧ n.regs = b.regs))
  ∧ (∀ (a : Acc) , WriteEffect a (R.COH_COMMIT) (.commitSchedule a 0xC3 false) (fun b => (b.bank (State.accPart
      a)).pending.isSome = true) (fun b n => (n.bank (State.accPart a)).result = .refusedPending ∧ (n.bank
      (State.accPart a)).pending = (b.bank (State.accPart a)).pending ∧ n.staged = b.staged ∧ n.coh.epoch = b.coh.epoch
      ∧ n.regs = b.regs))
  ∧ (∀ (a : Acc) , WriteEffect a (R.COH_COMMIT) (.commitPairCoherent a 0xC3 false) (fun b => (b.bank (State.accPart
      a)).pending.isSome = true) (fun b n => (n.bank (State.accPart a)).result = .refusedPending ∧ (n.bank
      (State.accPart a)).pending = (b.bank (State.accPart a)).pending ∧ n.staged = b.staged ∧ n.coh.epoch = b.coh.epoch
      ∧ n.regs = b.regs))
  ∧ (∀ (a : Acc) , WriteEffect a (R.COH_COMMIT) (.commitAll a 0xC3) (fun b => State.accPart a = 0 ∧ b.isRunning 0 =
      true ∧ b.commitDrains 0 true = true ∧ (∀ q : Fin 32, (b.bank q).pending = none)) (fun b n => (n.bank
      (State.accPart a)).result = .refusedDrain ∧ n.staged = b.staged ∧ n.coh.epoch = b.coh.epoch ∧ n.load.fwBank =
      b.load.fwBank ∧ n.regs = b.regs))
  ∧ (∀ (a : Acc) (key : Byte), WriteEffect a (R.COH_COMMIT) (.commitAll a key) (fun _ => key ≠ 0xC3) (fun b n =>
      (n.bank (State.accPart a)).result = .refusedKey ∧ (n.bank (State.accPart a)).pending = (b.bank (State.accPart
      a)).pending ∧ n.staged = b.staged ∧ n.coh.epoch = b.coh.epoch ∧ n.regs = b.regs))
  ∧ (∀ (a : Acc) (key : Byte) (all : Bool), WriteEffect a (R.COH_COMMIT) (.commitSchedule a key all) (fun _ => key ≠
      0xC3) (fun b n => (n.bank (State.accPart a)).result = .refusedKey ∧ (n.bank (State.accPart a)).pending = (b.bank
      (State.accPart a)).pending ∧ n.staged = b.staged ∧ n.coh.epoch = b.coh.epoch ∧ n.regs = b.regs))
  ∧ (∀ (a : Acc) (key : Byte) (all : Bool), WriteEffect a (R.COH_COMMIT) (.commitPairCoherent a key all) (fun _ => key
      ≠ 0xC3) (fun b n => (n.bank (State.accPart a)).result = .refusedKey ∧ (n.bank (State.accPart a)).pending = (b.bank
      (State.accPart a)).pending ∧ n.staged = b.staged ∧ n.coh.epoch = b.coh.epoch ∧ n.regs = b.regs))
  ∧ (∀ (a : Acc) (all : Bool), WriteEffect a (R.COH_COMMIT) (.commitPairCoherent a 0xC3 all) (fun b => (all = true →
      State.accPart a = 0 ∧ b.isRunning 0 = true) ∧ (∀ q : Fin 32, (b.bank q).pending = none) ∧ b.timeOk (b.commitTime
      (State.accPart a)) = true ∧ b.hw.paired = true ∧ (b.isPaired (State.accPart a) && b.pairOn) = false) (fun b n =>
      (n.bank (State.accPart a)).pending = some
      { time := b.commitTime (State.accPart a), all := all, pairMode := true, stage := if b.hw.unitId = 0 then .prepared else .none }
      ∧ n.staged = b.staged))
  ∧ (∀ (a : Acc) , WriteEffect a (R.COH_COMMIT) (.commitPairCoherent a 0xC3 false) (fun b => (∀ q : Fin 32, (b.bank
      q).pending = none) ∧ b.timeOk (b.commitTime (State.accPart a)) = true ∧ b.hw.paired = true ∧ (b.isPaired
      (State.accPart a) && b.pairOn) = true ∧ ¬ (b.roleOf (State.accPart a) = .active ∧ b.partnerRole (State.accPart a)
      = .standby)) (fun b n => (n.bank (State.accPart a)).result = .refusedPair ∧ (n.bank (State.accPart a)).pending =
      none ∧ n.staged = b.staged))
  ∧ (∀ (t : Nat) (part : Fin 32) (c : PendingCommit), Effect t (.commitAtTimeApply t part) (fun b => (b.bank
      part).pending = some c ∧ c.time ≤ b.syncNs ∧ b.commitWaits part = true) (fun b n => n.coh = b.coh ∧ n.staged =
      b.staged ∧ n.regs = b.regs))
  ∧ (∀ (t : Nat) (part : Fin 32) (c : PendingCommit), Effect t (.commitAtTimeApply t part) (fun b => (b.bank
      part).pending = some c ∧ c.time ≤ b.syncNs ∧ b.commitWaits part = false ∧ c.pairMode = true ∧ c.stage = .go) (fun
      b n => (n.bank part).result = .applied ∧ (n.bank part).pending = none ∧ n.coh.epoch = (b.coh.epoch + 1) % 65536))
  ∧ (∀ (t : Nat) (part : Fin 32) (c : PendingCommit), Effect t (.commitAtTimeApply t part) (fun b => (b.bank
      part).pending = some c ∧ c.time ≤ b.syncNs ∧ b.commitWaits part = false ∧ c.pairMode = true ∧ c.stage ≠ .go) (fun
      b n => (n.bank part).result = .refusedPair ∧ (n.bank part).pending = none ∧ n.coh.epoch = b.coh.epoch ∧ n.staged =
      b.staged))
  ∧ (∀ (a : Acc) , WriteEffect a (R.COH_CANCEL) (.cancel a) (fun b => (b.bank (State.accPart a)).pending = none) (fun b
      n => n.coh = b.coh ∧ n.staged = b.staged ∧ n.regs = b.regs))
  ∧ (∀ (a : Acc) (c : PendingCommit), WriteEffect a (R.COH_CANCEL) (.cancel a) (fun b => (b.bank (State.accPart
      a)).pending = some c) (fun b n => (n.bank (State.accPart a)).pending = none ∧ (n.bank (State.accPart a)).result =
      .cancelled ∧ n.staged = b.staged))
  ∧ (∀ (a : Acc) (target : Fin 32) (c : PendingCommit), WriteEffect a (R.COH_CANCEL) (.cancelOther a target) (fun b =>
      State.accPart a = 0 ∧ (b.bank target).pending = some c) (fun b n => (n.bank target).pending = none ∧ (n.bank
      target).result = .cancelled ∧ n.staged = b.staged))
  ∧ (∀ (a : Acc) (target : Fin 32), WriteEffect a (R.COH_CANCEL) (.cancelOther a target) (fun _ => State.accPart a ≠ 0)
      (fun b n => n.coh = b.coh ∧ n.regs = b.regs))

/-- R46, R47, R48, R49: QUIESCE, DRAIN and SQUASH stop a page and RESUME returns it to ACTIVE; a stop ends when nothing is in
flight; T_d ends a drain with DRAIN_TIMEOUT; RESET takes a QUIESCED page to RESETTING and, 1,024 cycles later, to ACTIVE. A
command that the state does not allow changes only FAULT. R31, R32: snapshots hold the values of a page until released. -/
def Obligations.PageStates : Prop :=
  (∀ (a : Acc) (page : Fin 118), WriteEffect a (R.PAGE_CMD page) (.quiesce a page) (fun b => pageResettable page =
      true ∧ (b.page page).mode = .active) (fun _ n => ((n.page page).mode = .quiescing ∨ (n.page page).mode =
      .quiesced) ∧ (n.page page).stop = .quiesce ∧ (n.page page).fault = .none))
  ∧ (∀ (a : Acc) (page : Fin 118), WriteEffect a (R.PAGE_CMD page) (.quiesce a page) (fun b => pageResettable page =
      true ∧ (b.page page).mode ≠ .active) (fun b n => (n.page page) = { b.page page with fault := .commandInvalid } ∧
      n.regs = b.regs))
  ∧ (∀ (a : Acc) (page : Fin 118), WriteEffect a (R.PAGE_CMD page) (.drain a page) (fun b => pageResettable page = true
      ∧ (b.page page).mode = .active) (fun b n => ((n.page page).mode = .quiescing ∧ (n.page page).deadline = some
      (b.clk.lt + b.drainNs page) ∨ (n.page page).mode = .quiesced ∧ (n.page page).deadline = none) ∧ (n.page page).stop
      = .drain ∧ (n.page page).fault = .none))
  ∧ (∀ (a : Acc) (page : Fin 118), WriteEffect a (R.PAGE_CMD page) (.squash a page) (fun b => pageResettable page =
      true ∧ ((b.page page).mode = .quiescing ∨ (b.page page).mode = .quiesced) ∧ (b.page page).resetPending = false)
      (fun _ n => ((n.page page).mode = .quiescing ∨ (n.page page).mode = .quiesced) ∧ (n.page page).stop = .squash ∧
      (n.page page).deadline = none))
  ∧ (∀ (a : Acc) (page : Fin 118), WriteEffect a (R.PAGE_CMD page) (.resume a page) (fun b => pageResettable page =
      true ∧ ((b.page page).mode = .quiescing ∨ (b.page page).mode = .quiesced)) (fun b n => (n.page page) =
      { b.page page with mode := .active, stop := .none, fault := .none, resetPending := false, deadline := none }))
  ∧ (∀ (a : Acc) (page : Fin 118), WriteEffect a (R.PAGE_CMD page) (.reset a page) (fun b => pageResettable page = true
      ∧ (b.page page).mode = .quiesced) (fun b n => (n.page page).mode = .resetting ∧ (n.page page).resetSince =
      b.clk.lt ∧ (n.page page).fault = .none))
  ∧ (∀ (a : Acc) (page : Fin 118), WriteEffect a (R.PAGE_CMD page) (.reset a page) (fun b => pageResettable page = true
      ∧ (b.page page).mode = .active ∧ b.regB (R.PAGE_RESET_CFG page) 31 = false) (fun b n => (n.page page) =
      { b.page page with fault := .resetNotQuiesced }))
  ∧ (∀ (a : Acc) (page : Fin 118), WriteEffect a (R.PAGE_CMD page) (.squash a page) (fun b => pageResettable page =
      true ∧ (b.page page).mode = .quiescing ∧ (b.page page).resetPending = true) (fun b n => (n.page page).stop =
      .squash ∧ ((n.page page).mode = .quiescing ∧ (n.page page).deadline = (b.page page).deadline ∧ (n.page
      page).resetPending = true ∨ (n.page page).mode = .resetting ∧ (n.page page).resetSince = b.clk.lt)))
  ∧ (∀ (a : Acc) (page : Fin 118), WriteEffect a (R.PAGE_CMD page) (.squash a page) (fun b => pageResettable page =
      true ∧ (b.page page).mode = .active) (fun b n => (n.page page) = { b.page page with fault := .commandInvalid } ∧
      n.regs = b.regs))
  ∧ (∀ (a : Acc) (page : Fin 118), WriteEffect a (R.PAGE_CMD page) (.drain a page) (fun b => pageResettable page = true
      ∧ (b.page page).mode ≠ .active) (fun b n => (n.page page) = { b.page page with fault := .commandInvalid } ∧ n.regs
      = b.regs))
  ∧ (∀ (a : Acc) (page : Fin 118), WriteEffect a (R.PAGE_CMD page) (.resume a page) (fun b => pageResettable page =
      true ∧ (b.page page).mode = .active) (fun b n => n.pages = b.pages ∧ n.regs = b.regs))
  ∧ (∀ (a : Acc) (page : Fin 118), WriteEffect a (R.PAGE_CMD page) (.resume a page) (fun b => (b.page page).mode =
      .resetting) (fun b n => (n.page page) = { b.page page with fault := .commandInvalid } ∧ n.regs = b.regs ∧ n.staged
      = b.staged))
  ∧ (∀ (a : Acc) (page : Fin 118), WriteEffect a (R.PAGE_CMD page) (.reset a page) (fun b => (b.page page).mode =
      .resetting) (fun b n => (n.page page) = { b.page page with fault := .commandInvalid } ∧ n.regs = b.regs ∧ n.staged
      = b.staged))
  ∧ (∀ (a : Acc) (page : Fin 118), WriteEffect a (R.PAGE_CMD page) (.snapshot a page) (fun b => (b.page page).mode =
      .resetting) (fun b n => (n.page page) = { b.page page with fault := .commandInvalid } ∧ n.regs = b.regs ∧ n.staged
      = b.staged))
  ∧ (∀ (a : Acc) (page : Fin 118), WriteEffect a (R.PAGE_CMD page) (.quiesce a page) (fun _ => pageResettable page =
      false) (fun b n => (n.page page) = { b.page page with fault := .commandInvalid } ∧ n.regs = b.regs ∧ n.staged =
      b.staged))
  ∧ (∀ (a : Acc) (page : Fin 118), WriteEffect a (R.PAGE_CMD page) (.drain a page) (fun _ => pageResettable page =
      false) (fun b n => (n.page page) = { b.page page with fault := .commandInvalid } ∧ n.regs = b.regs ∧ n.staged =
      b.staged))
  ∧ (∀ (a : Acc) (page : Fin 118), WriteEffect a (R.PAGE_CMD page) (.squash a page) (fun _ => pageResettable page =
      false) (fun b n => (n.page page) = { b.page page with fault := .commandInvalid } ∧ n.regs = b.regs ∧ n.staged =
      b.staged))
  ∧ (∀ (a : Acc) (page : Fin 118), WriteEffect a (R.PAGE_CMD page) (.resume a page) (fun _ => pageResettable page =
      false) (fun b n => (n.page page) = { b.page page with fault := .commandInvalid } ∧ n.regs = b.regs ∧ n.staged =
      b.staged))
  ∧ (∀ (a : Acc) (page : Fin 118), WriteEffect a (R.PAGE_CMD page) (.reset a page) (fun _ => pageResettable page =
      false) (fun b n => (n.page page) = { b.page page with fault := .commandInvalid } ∧ n.regs = b.regs ∧ n.staged =
      b.staged))
  ∧ (∀ (a : Acc) (page : Fin 118), WriteEffect a (R.PAGE_CMD page) (.reset a page) (fun b => pageResettable page = true
      ∧ (b.page page).mode = .active ∧ b.regB (R.PAGE_RESET_CFG page) 31 = true) (fun b n => (n.page page).stop = .drain
      ∧ (n.page page).fault = .none ∧ ((n.page page).mode = .quiescing ∧ (n.page page).resetPending = true ∧ (n.page
      page).deadline = some (b.clk.lt + b.drainNs page) ∨ (n.page page).mode = .resetting ∧ (n.page page).resetSince =
      b.clk.lt)))
  ∧ (∀ (a : Acc) (page : Fin 118), WriteEffect a (R.PAGE_CMD page) (.reset a page) (fun b => pageResettable page = true
      ∧ (b.page page).mode = .quiescing) (fun b n => (n.page page) =
      { b.page page with fault := if b.regB (R.PAGE_RESET_CFG page) 31 then .commandInvalid else .resetNotQuiesced } ∧
      n.regs = b.regs))
  ∧ (∀ (t : Nat) (page : Fin 118), Effect t (.pageInflightZero t page) (fun b => (b.page page).mode = .quiescing ∧
      (b.page page).stop ≠ .squash ∧ b.inflight page = 0 ∧ (b.page page).resetPending = true) (fun b n => (n.page
      page).mode = .resetting ∧ (n.page page).resetPending = false ∧ (n.page page).resetSince = b.clk.lt))
  ∧ (∀ (t : Nat) (page : Fin 118), Effect t (.pageInflightZero t page) (fun b => b.inflight page ≠ 0) (fun b n =>
      n.pages = b.pages ∧ n.regs = b.regs))
  ∧ (∀ (t : Nat) (page : Fin 118), Effect t (.squashComplete t page) (fun b => (b.page page).mode = .quiescing ∧
      (b.page page).stop = .squash ∧ b.inflight page = 0 ∧ (b.page page).resetPending = true) (fun b n => (n.page
      page).mode = .resetting ∧ (n.page page).resetPending = false ∧ (n.page page).resetSince = b.clk.lt))
  ∧ (∀ (t : Nat) (page : Fin 118) (d : Nat), Effect t (.drainTimeout t page) (fun b => (b.page page).mode = .quiescing
      ∧ (b.page page).deadline = some d ∧ d ≤ b.clk.lt ∧ (b.page page).resetPending = true) (fun _ n => (n.page
      page).fault = .drainTimeout ∧ (n.page page).stop = .squash ∧ (n.page page).deadline = none ∧ ((n.page page).mode =
      .quiescing ∨ (n.page page).mode = .resetting)))
  ∧ (∀ (t : Nat) (page : Fin 118), Effect t (.pageResetComplete t page) (fun b => (b.page page).mode ≠ .resetting ∨
      b.clk.lt < (b.page page).resetSince + 1024 * b.cycleNs) (fun b n => n.pages = b.pages ∧ n.regs = b.regs))
  ∧ (∀ (t : Nat) (page : Fin 118), Effect t (.pageInflightZero t page) (fun b => (b.page page).mode = .quiescing ∧
      (b.page page).stop ≠ .squash ∧ b.inflight page = 0 ∧ (b.page page).resetPending = false) (fun b n => (n.page page)
      = { b.page page with mode := .quiesced, deadline := none } ∧ n.regB (R.EVT_STATUS page) (pageEvents page - 1) =
      true))
  ∧ (∀ (t : Nat) (page : Fin 118), Effect t (.squashComplete t page) (fun b => (b.page page).mode = .quiescing ∧
      (b.page page).stop = .squash ∧ b.inflight page = 0 ∧ (b.page page).resetPending = false) (fun b n => (n.page page)
      = { b.page page with mode := .quiesced, deadline := none } ∧ n.regB (R.EVT_STATUS page) (pageEvents page - 1) =
      true))
  ∧ (∀ (t : Nat) (page : Fin 118) (d : Nat), Effect t (.drainTimeout t page) (fun b => (b.page page).mode = .quiescing
      ∧ (b.page page).deadline = some d ∧ d ≤ b.clk.lt ∧ (b.page page).resetPending = false) (fun b n => (n.page page) =
      { b.page page with deadline := none, fault := .drainTimeout } ∧ n.regB (R.EVT_STATUS page) (pageEvents page - 1) =
      true))
  ∧ (∀ (t : Nat) (page : Fin 118), Effect t (.pageResetComplete t page) (fun b => (b.page page).mode = .resetting ∧
      (b.page page).resetSince + 1024 * b.cycleNs ≤ b.clk.lt) (fun b n => (n.page page).mode = .active ∧ (n.page
      page).stop = .none ∧ n.staged = b.staged ∧ n.regB (R.EVT_STATUS page) (pageEvents page - 1) = true))
  ∧ (∀ (a : Acc) (page : Fin 118), WriteEffect a (R.PAGE_CMD page) (.snapshot a page) (fun b => (b.page page).mode ≠
      .resetting) (fun b n => (n.page page).held = true ∧ (n.page page).snapTime = b.clk.lt ∧ (n.bank (State.accPart
      a)).snapTime = (b.bank (State.accPart a)).snapTime ∧ ∀ off ∈ latchedOffs page, KMap.get? n.held (pageBase page +
      off) = some ((b.done.pageFaults page .none).live 0 page off)))
  ∧ (∀ (a : Acc) , WriteEffect a (R.COH_SNAPSHOT) (.cohSnapshot a) (fun _ => True) (fun b n => (n.bank (State.accPart
      a)).snapTime = b.clk.lt ∧ ∀ i : Fin 118, b.mayOwn (State.accPart a) i = true → (n.page i).held = true ∧ (n.page
      i).snapTime = b.clk.lt))
  ∧ (∀ (a : Acc) (page : Fin 118), WriteEffect a (R.COH_SNAP_RELEASE) (.snapRelease a false (Fin.ofNat 256 page)) (fun
      b => b.mayOwn (State.accPart a) page = true) (fun b n => (n.page page).held = false ∧ n.regs = b.regs))
  ∧ (∀ (a : Acc) , WriteEffect a (R.COH_SNAP_RELEASE) (.snapRelease a true 0) (fun _ => True) (fun b n => ∀ i : Fin
      118, b.mayOwn (State.accPart a) i = true → (n.page i).held = false))

/-- R35: a read of a free semaphore claims it and returns GRANTED = 1 with the reader in OWNER; one of a taken semaphore returns
GRANTED = 0 and the owner. A write of 0 by the owner frees it and any other write of it is ignored. A reset of a partition frees
every semaphore it holds. -/
def Obligations.Semaphores : Prop :=
  (∀ (a : Acc) (sem : Fin 64), Effect a.t (.semClaim a sem) (fun b => b.checkPage a (R.COH_SEM sem) false 4 = none ∧
      KMap.get? b.coh.sems sem = none) (fun _ n => n.resp = .ok (mkF 31 31 1 ||| mkF 8 8 1 ||| mkF 4 0 (State.accPart
      a)).toNat ∧ KMap.get? n.coh.sems sem = some (State.accPart a)))
  ∧ (∀ (a : Acc) (sem : Fin 64) (q : Nat), Effect a.t (.semClaim a sem) (fun b => b.checkPage a (R.COH_SEM sem) false 4
      = none ∧ KMap.get? b.coh.sems sem = some q) (fun b n => n.resp = .ok (mkF 8 8 1 ||| mkF 4 0 q).toNat ∧ n.coh =
      b.coh))
  ∧ (∀ (a : Acc) (sem : Fin 64), WriteEffect a (R.COH_SEM sem) (.semFree a sem) (fun b => KMap.get? b.coh.sems sem =
      some (State.accPart a)) (fun _ n => KMap.get? n.coh.sems sem = none))
  ∧ (∀ (a : Acc) (sem : Fin 64), WriteEffect a (R.COH_SEM sem) (.semFree a sem) (fun b => KMap.get? b.coh.sems sem ≠
      some (State.accPart a)) (fun b n => n.coh = b.coh))
  ∧ (∀ (a : Acc) (target : Fin 32), WriteEffect a (R.PART_CMD) (.partReset a 0xA5 target) (fun b => target ≠ 0 ∧
      (b.part target).state ≠ .resetting) (fun _ n => ∀ k : Nat, KMap.get? n.coh.sems k ≠ some target.val))
  ∧ (∀ (a : Acc) (target : Fin 32), WriteEffect a (R.PART_CMD) (.restart a 0xA5 target) (fun b => target ≠ 0 ∧ (b.part
      target).state ≠ .resetting) (fun _ n => ∀ k : Nat, KMap.get? n.coh.sems k ≠ some target.val))
  ∧ (∀ (s : State) (p : Nat) (cause : ResetCause) (restart : Bool) (scope : KMap Word) (k : Nat), (s.part p).state ≠
      .resetting → KMap.get? (s.resetStart p cause restart scope).coh.sems k ≠ some p)
  ∧ (∀ (a : Acc) (sem : Fin 64) (val : Word), Effect a.t (.registerWrite a (R.COH_SEM sem) val 4) (fun b => b.checkPage
      a (R.COH_SEM sem) true 4 = none) (fun b n => n.resp = .ok 0 ∧ (if bit val 8 = false ∧ KMap.get? b.coh.sems sem =
      some (State.accPart a) then KMap.get? n.coh.sems sem = none ∧ ∀ k : Nat, k ≠ sem.val → KMap.get? n.coh.sems k =
      KMap.get? b.coh.sems k else n.coh = b.coh)))

/-- R18: a write into the window of the PART set by a partition other than 0 completes with a bus error and stages nothing,
whichever command carries it; partition 0 stages one. -/
def Obligations.PartitionTableWriters : Prop :=
  (∀ (a : Acc) (addr : Nat) (val : Word), Effect a.t (.tableWindowWrite a addr val) (fun _ => tableAt addr = some
      (.gen .part) ∧ State.accPart a ≠ 0) (fun b n => (∃ c, n.resp = .busError c) ∧ n.pt = b.pt ∧ n.log = b.log))
  ∧ (∀ (a : Acc) (addr size : Nat) (val : Word), Effect a.t (.registerWrite a addr val size) (fun _ => tableAt addr =
      some (.gen .part) ∧ State.accPart a ≠ 0) (fun b n => (∃ c, n.resp = .busError c) ∧ n.pt = b.pt ∧ n.log = b.log))
  ∧ (∀ (a : Acc) (addr : Nat) (d : List Byte) (ecc : EccFound), Effect a.t (.memoryAccess a addr (.write d) ecc) (fun _
      => tableAt addr = some (.gen .part) ∧ State.accPart a ≠ 0) (fun b n => (∃ c, n.resp = .busError c) ∧ n.pt = b.pt ∧
      n.log = b.log))
  ∧ (∀ (a : Acc) (addr : Nat) (val : Word), Effect a.t (.tableWindowWrite a addr val) (fun b => tableAt addr = some
      (.gen .part) ∧ addr % 4 = 0 ∧ State.accPart a = 0 ∧ a.req.val ≠ 19 ∧ b.tableSealed 0 = false ∧ (b.pt.holder = none
      ∨ b.pt.holder = some 0) ∧ b.pt.other = .spare ∧ b.logOf .part = []) (fun b n => n.resp = .ok 0 ∧ n.pt.holder =
      some 0 ∧ tabWord n.pt.otherMap addr = val &&& tableMask addr ∧ n.pt.active = b.pt.active))
  ∧ (∀ (s : State) (a : Acc) (m : KMap Word) (addr : Nat) (d : List Byte) (ecc : EccFound), tableAt addr = some (.gen
      .part) → State.accPart a ≠ 0 → (s.busWrite a m addr d ecc).1.pt = s.pt ∧ (s.busWrite a m addr d ecc).1.log = s.log)

/-- R103: while a channel conducts or a lease is RUNNING, no choice of Encke is DORMANT, and its evaluation begins no entry into
it. -/
def Obligations.DormantHold : Prop :=
  (∀ (s : State) ev, (∃ c : Fin 128, (s.chan c).conducting = true ∨ (s.chan c).lease = .running) → s.encke ev ≠
      .dormant)
  ∧ (∀ (t : Nat) (executing : Bool) (timers : List (Fin 32 × Nat)) (c : Fin 128), Effect t (.enckeChoose t executing
      timers) (fun b => ((b.chan c).conducting = true ∨ (b.chan c).lease = .running) ∧ b.pwr.target ≠ some .dormant)
      (fun _ n => n.pwr.target ≠ some .dormant))

/-- A step carries out the command at the front of the queue on the rest of the queue. On an empty queue the block idles: the
model's choice, notes/assumptions/4.md. -/
def Obligations.StepRunsFront : Prop :=
  (∀ (c : Instr) (r : List Instr) (s : State), step { s with pending := c :: r } = exec c { s with pending := r })
  ∧ (∀ s : State, s.pending = [] → step s = .next s)

/-- Every command ends in a next state and leaves the queue as it was, so that as many steps as commands wait serve the whole
queue, first in, first out. That a command whose condition does not hold changes nothing is the model's choice,
notes/assumptions/5.md. -/
def Obligations.CommandsComplete : Prop :=
  (∀ (c : Instr) (s : State), ∃ n, exec c s = .next n ∧ n.pending = s.pending)
  ∧ (∀ (k : Nat) (s : State), ∃ n, Host.Core.run Sys2Proof.core k s = .next n ∧ n.pending = s.pending.drop k)

/-- R443: while power-on reset holds the module, no command but the two of power-on changes anything. -/
def Obligations.HeldModule : Prop :=
  ∀ (c : Instr) (s : State), s.clk.held = true → (∀ t, c ≠ .powerOnReset t) → (∀ t p u, c ≠ .powerOnRelease t p u) →
    exec c s = .next s

/-- R443: every block takes its power-on reset values at entry into power-on reset and holds them until the release. Every step
keeps this, in every state. -/
def Obligations.PowerOnHold : Prop :=
  ∀ s n : State, (s.clk.held = true → s.atPowerOn) → step s = .next n → (n.clk.held = true → n.atPowerOn)

/-- R40, R97, R291, R443: the state after reset: LOCAL_TIME is 0, every page is ACTIVE, every lease IDLE, nothing is staged, nothing
waits in the queue, memory lists nothing, and the invariant of PowerOnHold holds. -/
def Obligations.ResetState : Prop :=
  State.reset.clk.lt = 0 ∧ (∀ i : Fin 118, (State.reset.page i).mode = .active) ∧ (∀ c : Fin 128, (State.reset.chan
    c).lease = .idle) ∧ State.reset.staged = [] ∧ State.reset.pending = [] ∧ State.reset.mem = [] ∧
    State.reset.canonical = true ∧ State.reset.atPowerOn ∧ (State.reset.clk.held = true → State.reset.atPowerOn)

/-- R2, R4: what is written to memory is read back, and every other byte stays. -/
def Obligations.MemoryLaws : Prop :=
  (∀ (s : State) (addr : Nat) (d : List Byte), (s.writeBytes addr d).readBytes addr d.length = d)
  ∧ (∀ (s : State) (addr x : Nat) (d : List Byte), x < addr ∨ addr + d.length ≤ x → (s.writeBytes addr d).byteAt x =
      s.byteAt x)

/-- What the commands of the load stage, the ledger and the inputs leave unchanged: every part but those listed. The queue is kept
by every command (CommandsComplete). A command about one load channel leaves every other
channel, and the registers of every page but those of its channel, its bank, the ledger, the queue manager, the gateway
and the violation record; a command about one bank leaves the other banks and their channels. -/
def Obligations.FrameLoadStage : Prop :=
  (Frame likeShortCircuitTrip [.regs, .ifiles, .load, .gway])
  ∧ (Frame likeTripAck [.regs, .viol, .ifiles, .resp, .load, .gway])
  ∧ (Frame likeLedgerUpdate [.regs, .ifiles, .mem, .dram, .load, .gway])
  ∧ (Frame likeLedgerPeerReceive [.regs, .ifiles, .mem, .dram, .load, .pool, .buses, .gway])
  ∧ (Frame likeModelStep [.regs, .ifiles, .mem, .dram, .load, .pool, .buses, .gway])
  ∧ (Frame likeInterrogate [.regs, .viol, .ifiles, .resp, .mem, .dram, .load, .pool, .buses, .gway])
  ∧ (Frame likeAinBurdenReconnect [.regs, .ifiles, .inputs, .gway])
  ∧ (Frame likeSsupFaultRestart [.regs, .viol, .ifiles, .resp, .inputs])
  ∧ (Frame likeDinPoll [.regs, .ifiles, .dram, .pool, .buses, .inputs, .gway, .pair, .pwr])
  ∧ (∀ (c : Instr) (t k : Nat) (s n : State), loadChannelOf c = some (t, k) → s.clk.held = false → exec c s = .next n →
      (∀ j, j ≠ k → n.chan j = (s.advance t).chan j) ∧ ∀ addr, pageAt addr ∉ [some 1, some (lscPage k), some (lsbPage (k
      / 32)), some ledgPage, some qmgrPage, some gw0Page] → n.reg addr = (s.advance t).reg addr)
  ∧ (∀ (c : Instr) (t k : Nat) (s n : State), loadBankOf c = some (t, k) → s.clk.held = false → exec c s = .next n → (∀
      j, j ≠ k → n.lbank j = (s.advance t).lbank j) ∧ (∀ j, j / 32 ≠ k → n.chan j = (s.advance t).chan j))

/-- What the commands of the CAN and LIN channels, the gateway, the transport engine, the switch, the queues and the DMA
channels leave unchanged: every part but those listed. A command about one CAN, LIN or DMA channel or one port leaves
every other one of its kind, and, for the channels, the registers of other pages; of another CAN channel whose transmit stream is
in use the stream alone may change, when a head that it cannot send fails (R150). -/
def Obligations.FrameBuses : Prop :=
  (Frame likeCanConfigApply [.regs, .ifiles, .pool, .buses])
  ∧ (Frame likeCanLaunchEligible [.regs, .ifiles, .buses])
  ∧ (Frame likeCanSof [.regs, .ifiles, .pool, .buses])
  ∧ (Frame likeCanTxError [.regs, .ifiles, .dram, .pool, .buses, .gway])
  ∧ (Frame likeLinResponseRx [.regs, .ifiles, .buses, .gway])
  ∧ (Frame likeReq [.regs, .viol, .ifiles, .resp, .buses])
  ∧ (Frame likeTxsCancel [.regs, .viol, .ifiles, .resp, .pool, .buses])
  ∧ (Frame likeCanWakePattern [.regs, .ifiles, .dram, .pool, .buses, .pair, .pwr])
  ∧ (Frame likeTpeTxFrameDone [.regs, .ifiles, .buses, .tpe])
  ∧ (Frame likeTpeTxRequest [.regs, .ifiles, .mem, .dram, .pool, .buses, .gway, .tpe])
  ∧ (Frame likeGwEventAdmit [.regs, .ifiles, .gway])
  ∧ (Frame likeGwSlotClr [.regs, .viol, .ifiles, .resp, .gway])
  ∧ (Frame likeGwRouteJob [.regs, .ifiles, .dram, .load, .pool, .eth, .buses, .gway, .pair, .clk])
  ∧ (Frame likeContainerClose [.regs, .ifiles, .dram, .pool, .eth, .buses, .gway, .pair, .clk])
  ∧ (Frame likeGwP25FrameIn [.regs, .ifiles, .dram, .pool, .eth, .buses, .gway])
  ∧ (Frame likeGateEntryChange [.regs, .ifiles, .eth])
  ∧ (Frame likePolSelect [.regs, .viol, .ifiles, .resp, .eth])
  ∧ (Frame likeStreamAgeOut [.regs, .pool, .eth, .buses])
  ∧ (Frame likeEthTxSelect [.regs, .ifiles, .pool, .eth, .buses, .clk])
  ∧ (Frame likeEthFrameRx [.regs, .ifiles, .dram, .pool, .eth, .buses, .pair, .clk])
  ∧ (Frame likeEthTxComplete [.regs, .ifiles, .dram, .pool, .eth, .buses, .ulf, .clk])
  ∧ (Frame likeEthLaunchEligible [.regs, .ifiles, .pool])
  ∧ (Frame likeMsgAgeOut [.regs, .pool, .buses])
  ∧ (Frame likeTraceRecord [.regs, .ifiles, .mem, .dram, .pool, .buses])
  ∧ (Frame likeWrData [.regs, .viol, .ifiles, .resp, .dram, .pool])
  ∧ (Frame likeWrCommit [.regs, .viol, .ifiles, .resp, .pool, .buses])
  ∧ (Frame likeWrRewind [.regs, .viol, .ifiles, .resp, .pool])
  ∧ (Frame likeRdWord [.regs, .viol, .ifiles, .resp, .dram, .pool, .eth, .buses])
  ∧ (Frame likeChOff [.regs, .ifiles, .dma])
  ∧ (Frame likeDmaStart [.regs, .viol, .ifiles, .resp, .dma])
  ∧ (Frame likeDmaWaitMet [.regs, .ifiles, .resp, .pool, .dma])
  ∧ (Frame likeDmaFault [.regs, .ifiles, .dramc, .pool, .dma])
  ∧ (Frame likeHalt [.regs, .ifiles, .resp, .pool, .dma, .ulf])
  ∧ (∀ (c : Instr) (t k : Nat) (s n : State), canChannelOf c = some (t, k) → s.clk.held = false → exec c s = .next n →
      (∀ j, j ≠ k → n.can j = { (s.advance t).can j with stream := (n.can j).stream } ∧ ((s.advance t).txsQueue j = none
      → n.can j = (s.advance t).can j)) ∧ n.buses.lin = (s.advance t).buses.lin ∧ ∀ addr, pageAt addr ∉ [some 1, some
      (canPage k), some qmgrPage, some gw0Page] → n.reg addr = (s.advance t).reg addr)
  ∧ (∀ (c : Instr) (t k : Nat) (s n : State), linChannelOf c = some (t, k) → s.clk.held = false → exec c s = .next n →
      (∀ j, j ≠ k → n.lin j = (s.advance t).lin j) ∧ n.buses.can = (s.advance t).buses.can ∧ ∀ addr, pageAt addr ∉ [some
      1, some (linPage k), some gw0Page] → n.reg addr = (s.advance t).reg addr)
  ∧ (∀ (c : Instr) (t k : Nat) (s n : State), dmaChannelOf c = some (t, k) → s.clk.held = false → exec c s = .next n →
      (∀ j, j ≠ k → n.dchan j = (s.advance t).dchan j) ∧ ∀ addr, pageAt addr ∉ [some 1, some (dmaPage k), some
      dramcPage] → n.reg addr = (s.advance t).reg addr)
  ∧ (∀ (c : Instr) (t k : Nat) (s n : State), portOf c = some (t, k) → s.clk.held = false → exec c s = .next n → ∀ j, j
      ≠ k → n.port j = (s.advance t).port j)

/-- What the commands of time, power, partitions, pages, events, staging and commits leave unchanged: every part but those listed.
A commit writes no memory. A command about one page or one partition leaves every other page or partition as it is. -/
def Obligations.FrameControl : Prop :=
  (Frame likeFollowUpTimeout [.regs, .ifiles, .clk])
  ∧ (Frame likeSlewComplete [])
  ∧ (Frame likePtpRateWrite [.regs, .viol, .ifiles, .resp, .clk])
  ∧ (Frame likeSlew [.regs, .viol, .ifiles, .resp, .eth, .clk])
  ∧ (Frame likeFabricLoadHigh [.regs, .ifiles, .pwr])
  ∧ (Frame likeZspTc [.regs, .ifiles, .buses, .pwr])
  ∧ (Frame likeEnckeChoose [.regs, .ifiles, .buses, .pair, .pwr])
  ∧ (Frame likeZspAnswer [.regs, .ifiles, .dram, .pool, .eth, .buses, .pwr])
  ∧ (Frame likeWakeReasonSend [.regs, .ifiles, .dram, .pool, .buses, .pwr])
  ∧ (Frame likePowerStateEntered [.regs, .ifiles, .load, .inputs, .gway, .pwr, .clk])
  ∧ (Frame likeWakeRequest [.regs, .ifiles, .dram, .pool, .buses, .pair, .pwr])
  ∧ (Frame likeNeedDeclare [.regs, .viol, .ifiles, .resp, .dram, .pool, .buses, .pwr])
  ∧ (Frame likePwrWake [.regs, .viol, .ifiles, .resp, .dram, .pool, .buses, .pair, .pwr])
  ∧ (Frame likePartSquashDone [.regs, .ifiles, .parts])
  ∧ (Frame likePartDrainEnd [.regs, .ifiles, .parts, .pool, .buses, .gway, .tpe, .dma])
  ∧ (Frame likePartReset [.regs, .staged, .coh, .sets, .log, .regions, .viol, .ifiles, .resp, .parts, .pool, .buses,
      .gway, .tpe, .dma, .ulf, .pair, .pwr])
  ∧ (Frame likePinReset [.regs, .staged, .coh, .sets, .log, .regions, .ifiles, .parts, .load, .pool, .buses, .gway,
      .tpe, .dma, .ulf, .pair, .pwr, .sec])
  ∧ (Frame likeReadToClear [.regs, .held, .coh, .sets, .log, .regions, .viol, .ifiles, .resp, .dramc, .dram, .load,
      .pool, .eth, .buses, .gway, .ulf, .pair])
  ∧ (Frame likePageInflightZero [.regs, .pages, .ifiles, .load, .gway])
  ∧ (Frame likeDrainTimeout [.regs, .pages, .ifiles, .load, .pool, .buses, .gway, .tpe, .dma])
  ∧ (Frame likePageResetComplete [.regs, .pages, .ifiles, .dram, .load, .pool, .eth, .buses, .inputs, .gway, .tpe,
      .dma])
  ∧ (Frame likeSnapshot [.regs, .staged, .held, .pages, .coh, .viol, .ifiles, .resp, .dram, .load, .pool, .eth, .buses,
      .gway, .tpe, .dma, .ulf, .pair, .clk])
  ∧ (Frame likeCohSnapshot [.regs, .held, .pages, .coh, .viol, .ifiles, .resp, .load, .gway])
  ∧ (Frame likeSnapRelease [.regs, .held, .pages, .viol, .ifiles, .resp])
  ∧ (Frame likeSemFree [.regs, .coh, .viol, .ifiles, .resp])
  ∧ (Frame likeEvtViolPop [.regs, .viol, .ifiles, .resp])
  ∧ (Frame likeStagedWrite [.regs, .staged, .coh, .viol, .ifiles, .resp, .pool, .ulf, .pair])
  ∧ (Frame likeDiscardStage [.regs, .staged, .pages, .coh, .viol, .ifiles, .resp, .pool, .ulf, .pair])
  ∧ (Frame likeTableWindowWrite [.regs, .coh, .sets, .log, .regions, .viol, .ifiles, .resp, .ulf, .pair])
  ∧ (Frame likeDrainComplete [.sets])
  ∧ (Frame likeResyncComplete [.coh, .sets, .ifiles])
  ∧ (Frame likeStageLogReplayed [.coh, .sets, .log, .ifiles])
  ∧ (Frame likeRegionResyncComplete [.regions])
  ∧ (Frame likeCommitNow [.regs, .staged, .pages, .coh, .sets, .log, .regions, .viol, .ifiles, .resp, .parts, .dram,
      .load, .pool, .eth, .buses, .inputs, .gway, .tpe, .dma, .ulf, .pair, .pwr, .upd, .clk])
  ∧ (∀ (c : Instr) (t k : Nat) (s n : State), pageOf c = some (t, k) → s.clk.held = false → exec c s = .next n → ∀ j, j
      ≠ k → n.page j = (s.advance t).page j)
  ∧ (∀ (c : Instr) (t k : Nat) (s n : State), partitionOf c = some (t, k) → s.clk.held = false → exec c s = .next n → ∀
      j, j ≠ k → n.part j = (s.advance t).part j)

/-- What the commands of Uloft, the pair, start-up, security, storage and the DRAM controller leave unchanged: every part but those
listed. -/
def Obligations.FrameLink : Prop :=
  (Frame likeUlfTrainStart [.ulf])
  ∧ (Frame likeUlfLinkFailure [.regs, .ifiles, .ulf])
  ∧ (Frame likePartnerViewRead [.regs, .viol, .ifiles, .resp, .ulf])
  ∧ (Frame likeUlfRetrainDone [.regs, .ifiles, .eth, .ulf, .pair, .upd])
  ∧ (Frame likeUlfParamRx [.regs, .viol, .ifiles, .resp, .dram, .pool, .eth, .buses, .dma, .ulf, .pair, .upd])
  ∧ (Frame likeUlfTrainTimeout [.regs, .viol, .ifiles, .resp, .dram, .pool, .eth, .buses, .dma, .ulf, .pair])
  ∧ (Frame likePartnerReadComplete [.regs, .viol, .ifiles, .resp, .pool, .dma, .ulf])
  ∧ (Frame likeHeartbeatExpired [])
  ∧ (Frame likeAuthInChange [.pair])
  ∧ (Frame likePairHeart [.regs, .viol, .ifiles, .resp, .pair])
  ∧ (Frame likeLeaseSend [.regs, .ifiles, .ulf, .pair])
  ∧ (Frame likeLeaseRx [.regs, .ifiles, .load, .gway, .ulf, .pair])
  ∧ (Frame likeHandover [.regs, .viol, .ifiles, .resp, .ulf, .pair])
  ∧ (Frame likeAcceptRx [.regs, .coh, .ifiles, .ulf])
  ∧ (Frame likeGoRx [.regs, .coh, .ifiles, .ulf, .pair])
  ∧ (Frame likeSvcChallenge [.regs, .ifiles, .sec])
  ∧ (Frame likeAttest [.regs, .viol, .ifiles, .resp, .sec])
  ∧ (Frame likeAttestDone [.regs, .ifiles, .mem, .dram, .sec])
  ∧ (Frame likeStageDone [.regs, .ifiles, .upd])
  ∧ (Frame likeTrialPassed [.regs, .ifiles, .ulf, .upd])
  ∧ (Frame likePinResetRelease [.regs, .ifiles, .parts, .load, .eth, .gway, .ulf, .sec, .upd])
  ∧ (Frame likeUpdOpen [.regs, .staged, .coh, .sets, .log, .regions, .viol, .ifiles, .resp, .parts, .mem, .dram, .load,
      .pool, .eth, .buses, .gway, .tpe, .dma, .ulf, .pair, .pwr, .sec, .upd])
  ∧ (Frame likeCmdDone [.regs, .ifiles, .mem, .dram, .stor])
  ∧ (Frame likeJournalAppend [.regs, .ifiles, .pool, .buses, .stor])
  ∧ (Frame likeStorRead [.regs, .viol, .ifiles, .resp, .stor])
  ∧ (Frame likeScrubStep [.regs, .ifiles, .dramc])
  ∧ (Frame likeDramcErrPop [.regs, .viol, .ifiles, .resp, .dramc])

/-- The commands by which memory changes: accesses, the beats of DMA, the ledger, the transport engine, the trace, an attestation
and a storage transfer at their end, an arriving flit, and the restarts; and, in the DRAM alone, the commands that put packets into cells
of the extension banks (R207). Every other command leaves each byte of memory as it is. -/
def Obligations.OnlyTheseWriteMemory : Prop :=
  (∀ (c : Instr) (s n : State), exec c s = .next n → writesMemory c = false → ∀ addr, inDram addr 1 = false →
      n.byteAt addr = s.byteAt addr)
  ∧ (∀ (c : Instr) (s n : State), exec c s = .next n → writesDram c = false → ∀ addr, n.byteAt addr = s.byteAt addr)

/-- R8, R11, R15 to R17, R26: the commands by which staged values, the table sets, the stage log and the staged table regions change:
staged writes, discards, commits and their exchanges, the ends of draining and resynchronisation, accesses by address, and
resets. Every other command leaves all of them as they are. -/
def Obligations.OnlyTheseStage : Prop :=
  ∀ (c : Instr) (s n : State), exec c s = .next n → stages c = false → n.staged = s.staged ∧ n.sw = s.sw ∧ n.gwSet =
    s.gwSet ∧ n.pt = s.pt ∧ n.log = s.log ∧ n.regions = s.regions
end

