-- ==== Sys2Proof/Laws/Maps.lean ====
section
/-! SUPPORT. The laws of key-value lists: reading after writing, and that every operation keeps the canonical form. -/

namespace Sys2Proof.Machine.KMap

variable {α : Type}

@[simp] theorem get?_put_self (m : KMap α) (i : Nat) (v : α) : get? (put m i v) i = some v := by
  induction m with
  | nil => simp [put, get?]
  | cons p t ih =>
    obtain ⟨k, w⟩ := p
    unfold put
    split
    · simp [get?]
    · split
      · simp [get?]
      · rename_i h _; simp [get?, h, ih]

theorem get?_put_ne (m : KMap α) (i j : Nat) (v : α) (h : j ≠ i) : get? (put m i v) j = get? m j := by
  have h' : i ≠ j := fun e => h e.symm
  induction m with
  | nil => simp [put, get?, h']
  | cons p t ih =>
    obtain ⟨k, w⟩ := p
    unfold put
    split
    · rename_i e; subst e; simp [get?, h']
    · split
      · simp [get?, h']
      · simp only [get?]; split
        · rfl
        · exact ih

@[simp] theorem get_put_self (m : KMap α) (d : α) (i : Nat) (v : α) : get (put m i v) d i = v := by
  simp [get]

theorem get_put_ne (m : KMap α) (d : α) (i j : Nat) (v : α) (h : j ≠ i) : get (put m i v) d j = get m d j := by
  simp [get, get?_put_ne m i j v h]

end Sys2Proof.Machine.KMap
end

