-- ==== Sys2Proof/Laws/State.lean ====
section
/-! SUPPORT. What each shared operation of the state leaves alone: one lemma per operation that says which fields it may
change, and one simp lemma per other field. -/

namespace Sys2Proof.Machine

/-! ## One lemma per operation: the fields it may change -/

theorem State.sendMsg_same (s : State) (p src : Nat) :
    s.sendMsg p src = { s with ifiles := (s.sendMsg p src).ifiles } := by
  unfold State.sendMsg State.setPendingId
  dsimp only
  split <;> rfl

theorem State.foldl_ifiles {α : Type} (f : State → α → State)
    (h : ∀ s x, ∃ i, f s x = { s with ifiles := i }) (l : List α) (s : State) :
    ∃ i, l.foldl f s = { s with ifiles := i } := by
  induction l generalizing s with
  | nil => exact ⟨_, rfl⟩
  | cons a t ih =>
    obtain ⟨i, hi⟩ := h s a
    obtain ⟨j, hj⟩ := ih (f s a)
    exact ⟨j, by rw [List.foldl_cons, hj, hi]⟩

theorem State.setEvents_same (s : State) (idx : Nat) (st en : Word) :
    s.setEvents idx st en = { s with regs := (s.setEvents idx st en).regs, ifiles := (s.setEvents idx st en).ifiles } := by
  obtain ⟨i, h⟩ := State.foldl_ifiles
    (fun s k => s.sendMsg (s.pageOwner idx) (eventSource idx k)) (fun s k => ⟨_, State.sendMsg_same s _ _⟩)
    (bitsOf ((st &&& en) &&& ~~~(s.reg (R.EVT_STATUS idx) &&& s.reg (R.EVT_ENABLE idx))) 32)
    ((s.setReg (R.EVT_STATUS idx) st).setReg (R.EVT_ENABLE idx) en)
  unfold State.setEvents
  dsimp only
  rw [h]
  rfl

theorem State.raise_same (s : State) (idx k : Nat) :
    s.raise idx k = { s with regs := (s.raise idx k).regs, ifiles := (s.raise idx k).ifiles } :=
  State.setEvents_same s idx _ _

theorem State.raiseIf_same (s : State) (c : Bool) (idx k : Nat) :
    s.raiseIf c idx k = { s with regs := (s.raiseIf c idx k).regs, ifiles := (s.raiseIf c idx k).ifiles } := by
  unfold State.raiseIf
  split
  · exact State.raise_same s idx k
  · rfl

theorem State.setCohEvents_same (s : State) (p : Nat) (st en : Word) :
    s.setCohEvents p st en = { s with coh := (s.setCohEvents p st en).coh, ifiles := (s.setCohEvents p st en).ifiles } := by
  obtain ⟨i, h⟩ := State.foldl_ifiles (fun s k => s.sendMsg p k) (fun s k => ⟨_, State.sendMsg_same s _ _⟩)
    (bitsOf ((st &&& en) &&& ~~~((s.bank p).evStatus &&& (s.bank p).evEnable)) 4)
    (s.setBank p { s.bank p with evStatus := st, evEnable := en })
  unfold State.setCohEvents
  dsimp only
  rw [h]
  rfl

theorem State.raiseCoh_same (s : State) (p k : Nat) :
    s.raiseCoh p k = { s with coh := (s.raiseCoh p k).coh, ifiles := (s.raiseCoh p k).ifiles } :=
  State.setCohEvents_same s p _ _

theorem State.violation_same (s : State) (a : Acc) (addr : Nat) (w : Bool) (c : BusCause) :
    s.violation a addr w c = { s with
      regs := (s.violation a addr w c).regs, ifiles := (s.violation a addr w c).ifiles
      viol := (s.violation a addr w c).viol, violLost := (s.violation a addr w c).violLost
      resp := (s.violation a addr w c).resp } := by
  unfold State.violation State.busError
  dsimp only
  split
  · rw [State.raise_same]
  · rw [State.raise_same]

theorem State.runTo_same (s : State) (t : Nat) : s.runTo t = { s with clk := (s.runTo t).clk } := by
  unfold State.runTo State.driftClocks State.runClocks
  dsimp only
  split
  · rfl
  · split <;> rfl

theorem State.advance_same (s : State) (t : Nat) :
    s.advance t = { s with clk := (s.advance t).clk, load := (s.advance t).load } := by
  unfold State.advance
  dsimp only
  rw [State.runTo_same]

/-- No renewal waits: time alone leaves the load stage as it is. -/
theorem State.advance_load (s : State) (t : Nat) (h : ∀ x ∈ s.load.chans, x.2.renewals = []) :
    (s.advance t).load = s.load := by
  have hl : (s.runTo t).load = s.load := by rw [State.runTo_same]
  have hf : s.load.chans.filter (fun x => !x.2.renewals.isEmpty) = [] := by
    rw [List.filter_eq_nil_iff]
    intro x hx
    rw [h x hx]
    decide
  unfold State.advance
  dsimp only
  rw [hl, hf]
  exact hl

theorem State.gwDrop_same (s : State) (r : GwDrop) (e : Nat) :
    s.gwDrop r e = { s with regs := (s.gwDrop r e).regs, ifiles := (s.gwDrop r e).ifiles, gway := (s.gwDrop r e).gway } := by
  unfold State.gwDrop
  dsimp only
  rw [State.raise_same]
  rfl

theorem State.gwDropOffer_same (s : State) (r : GwDrop) (e : GwEvent) :
    s.gwDropOffer r e = { s with
      regs := (s.gwDropOffer r e).regs, ifiles := (s.gwDropOffer r e).ifiles
      gway := (s.gwDropOffer r e).gway, free := (s.gwDropOffer r e).free } := by
  unfold State.gwDropOffer
  split
  · rw [State.gwDrop_same]
  · split
    · rw [State.gwDrop_same]
    · dsimp only [State.takeFree]
      rw [State.gwDrop_same]

theorem State.gwOffer_same (s : State) (e : GwEvent) :
    s.gwOffer e = { s with
      regs := (s.gwOffer e).regs, ifiles := (s.gwOffer e).ifiles
      gway := (s.gwOffer e).gway, free := (s.gwOffer e).free } := by
  unfold State.gwOffer
  dsimp only
  split
  · rfl
  · split
    · rw [State.gwDropOffer_same]
    · split
      · rw [State.gwDropOffer_same]
      · rfl

theorem State.foldl_offer {α : Type} (f : State → α → State)
    (h : ∀ s x, ∃ r i g k, f s x = { s with regs := r, ifiles := i, gway := g, free := k }) (l : List α) (s : State) :
    ∃ r i g k, l.foldl f s = { s with regs := r, ifiles := i, gway := g, free := k } := by
  induction l generalizing s with
  | nil => exact ⟨_, _, _, _, rfl⟩
  | cons a t ih =>
    obtain ⟨r, i, g, k, h1⟩ := h s a
    obtain ⟨r', i', g', k', h2⟩ := ih (f s a)
    exact ⟨r', i', g', k', by rw [List.foldl_cons, h2, h1]⟩

theorem State.offerChans_same (s old : State) :
    s.offerChans old = { s with
      regs := (s.offerChans old).regs, ifiles := (s.offerChans old).ifiles
      gway := (s.offerChans old).gway, free := (s.offerChans old).free } := by
  unfold State.offerChans
  split
  · rfl
  · dsimp only
    obtain ⟨r, i, g, k, h⟩ := State.foldl_offer
      (fun s c => s.gwOffer
        { kind := 7, direct := some (2304 + c), stamp := s.clk.lt,
          data := wordBytes [s.lscStatus c, s.reg (R.LSC_IMEAS c), s.reg (R.LSC_VOUT c), s.reg (R.LSC_TJ c)] })
      (fun s c => ⟨_, _, _, _, State.gwOffer_same s _⟩) _ s
    rw [h]

/-- A command that leaves the load channels alone offers nothing more to the gateway. -/
theorem State.offerChans_none (s old : State) (h : s.load.chans = old.load.chans) : s.offerChans old = s := by
  unfold State.offerChans
  rw [if_pos h]

/-! ## One lemma per field that an operation leaves alone -/

@[simp] theorem State.setReg_hw (s : State) (a : Nat) (w : Word) : (s.setReg a w).hw = s.hw := rfl
@[simp] theorem State.setReg_clk (s : State) (a : Nat) (w : Word) : (s.setReg a w).clk = s.clk := rfl
@[simp] theorem State.setReg_staged (s : State) (a : Nat) (w : Word) : (s.setReg a w).staged = s.staged := rfl
@[simp] theorem State.setReg_held (s : State) (a : Nat) (w : Word) : (s.setReg a w).held = s.held := rfl
@[simp] theorem State.setReg_heldRead (s : State) (a : Nat) (w : Word) : (s.setReg a w).heldRead = s.heldRead := rfl
@[simp] theorem State.setReg_pages (s : State) (a : Nat) (w : Word) : (s.setReg a w).pages = s.pages := rfl
@[simp] theorem State.setReg_coh (s : State) (a : Nat) (w : Word) : (s.setReg a w).coh = s.coh := rfl
@[simp] theorem State.setReg_sw (s : State) (a : Nat) (w : Word) : (s.setReg a w).sw = s.sw := rfl
@[simp] theorem State.setReg_gwSet (s : State) (a : Nat) (w : Word) : (s.setReg a w).gwSet = s.gwSet := rfl
@[simp] theorem State.setReg_pt (s : State) (a : Nat) (w : Word) : (s.setReg a w).pt = s.pt := rfl
@[simp] theorem State.setReg_log (s : State) (a : Nat) (w : Word) : (s.setReg a w).log = s.log := rfl
@[simp] theorem State.setReg_regions (s : State) (a : Nat) (w : Word) : (s.setReg a w).regions = s.regions := rfl
@[simp] theorem State.setReg_viol (s : State) (a : Nat) (w : Word) : (s.setReg a w).viol = s.viol := rfl
@[simp] theorem State.setReg_violLost (s : State) (a : Nat) (w : Word) : (s.setReg a w).violLost = s.violLost := rfl
@[simp] theorem State.setReg_ifiles (s : State) (a : Nat) (w : Word) : (s.setReg a w).ifiles = s.ifiles := rfl
@[simp] theorem State.setReg_resp (s : State) (a : Nat) (w : Word) : (s.setReg a w).resp = s.resp := rfl
@[simp] theorem State.setReg_parts (s : State) (a : Nat) (w : Word) : (s.setReg a w).parts = s.parts := rfl
@[simp] theorem State.setReg_dramc (s : State) (a : Nat) (w : Word) : (s.setReg a w).dramc = s.dramc := rfl
@[simp] theorem State.setReg_mem (s : State) (a : Nat) (w : Word) : (s.setReg a w).mem = s.mem := rfl
@[simp] theorem State.setReg_load (s : State) (a : Nat) (w : Word) : (s.setReg a w).load = s.load := rfl
@[simp] theorem State.setReg_pool (s : State) (a : Nat) (w : Word) : (s.setReg a w).pool = s.pool := rfl
@[simp] theorem State.setReg_eth (s : State) (a : Nat) (w : Word) : (s.setReg a w).eth = s.eth := rfl
@[simp] theorem State.setReg_buses (s : State) (a : Nat) (w : Word) : (s.setReg a w).buses = s.buses := rfl
@[simp] theorem State.setReg_inputs (s : State) (a : Nat) (w : Word) : (s.setReg a w).inputs = s.inputs := rfl
@[simp] theorem State.setReg_gway (s : State) (a : Nat) (w : Word) : (s.setReg a w).gway = s.gway := rfl
@[simp] theorem State.setReg_tpe (s : State) (a : Nat) (w : Word) : (s.setReg a w).tpe = s.tpe := rfl
@[simp] theorem State.setReg_dma (s : State) (a : Nat) (w : Word) : (s.setReg a w).dma = s.dma := rfl
@[simp] theorem State.setReg_ulf (s : State) (a : Nat) (w : Word) : (s.setReg a w).ulf = s.ulf := rfl
@[simp] theorem State.setReg_pair (s : State) (a : Nat) (w : Word) : (s.setReg a w).pair = s.pair := rfl
@[simp] theorem State.setReg_pwr (s : State) (a : Nat) (w : Word) : (s.setReg a w).pwr = s.pwr := rfl
@[simp] theorem State.setReg_sec (s : State) (a : Nat) (w : Word) : (s.setReg a w).sec = s.sec := rfl
@[simp] theorem State.setReg_upd (s : State) (a : Nat) (w : Word) : (s.setReg a w).upd = s.upd := rfl
@[simp] theorem State.setReg_stor (s : State) (a : Nat) (w : Word) : (s.setReg a w).stor = s.stor := rfl
@[simp] theorem State.setReg_free (s : State) (a : Nat) (w : Word) : (s.setReg a w).free = s.free := rfl
@[simp] theorem State.setReg_pending (s : State) (a : Nat) (w : Word) : (s.setReg a w).pending = s.pending := rfl

@[simp] theorem State.putF_hw (s : State) (a hi lo v : Nat) : (s.putF a hi lo v).hw = s.hw := rfl
@[simp] theorem State.putF_clk (s : State) (a hi lo v : Nat) : (s.putF a hi lo v).clk = s.clk := rfl
@[simp] theorem State.putF_staged (s : State) (a hi lo v : Nat) : (s.putF a hi lo v).staged = s.staged := rfl
@[simp] theorem State.putF_held (s : State) (a hi lo v : Nat) : (s.putF a hi lo v).held = s.held := rfl
@[simp] theorem State.putF_heldRead (s : State) (a hi lo v : Nat) : (s.putF a hi lo v).heldRead = s.heldRead := rfl
@[simp] theorem State.putF_pages (s : State) (a hi lo v : Nat) : (s.putF a hi lo v).pages = s.pages := rfl
@[simp] theorem State.putF_coh (s : State) (a hi lo v : Nat) : (s.putF a hi lo v).coh = s.coh := rfl
@[simp] theorem State.putF_sw (s : State) (a hi lo v : Nat) : (s.putF a hi lo v).sw = s.sw := rfl
@[simp] theorem State.putF_gwSet (s : State) (a hi lo v : Nat) : (s.putF a hi lo v).gwSet = s.gwSet := rfl
@[simp] theorem State.putF_pt (s : State) (a hi lo v : Nat) : (s.putF a hi lo v).pt = s.pt := rfl
@[simp] theorem State.putF_log (s : State) (a hi lo v : Nat) : (s.putF a hi lo v).log = s.log := rfl
@[simp] theorem State.putF_regions (s : State) (a hi lo v : Nat) : (s.putF a hi lo v).regions = s.regions := rfl
@[simp] theorem State.putF_viol (s : State) (a hi lo v : Nat) : (s.putF a hi lo v).viol = s.viol := rfl
@[simp] theorem State.putF_violLost (s : State) (a hi lo v : Nat) : (s.putF a hi lo v).violLost = s.violLost := rfl
@[simp] theorem State.putF_ifiles (s : State) (a hi lo v : Nat) : (s.putF a hi lo v).ifiles = s.ifiles := rfl
@[simp] theorem State.putF_resp (s : State) (a hi lo v : Nat) : (s.putF a hi lo v).resp = s.resp := rfl
@[simp] theorem State.putF_parts (s : State) (a hi lo v : Nat) : (s.putF a hi lo v).parts = s.parts := rfl
@[simp] theorem State.putF_dramc (s : State) (a hi lo v : Nat) : (s.putF a hi lo v).dramc = s.dramc := rfl
@[simp] theorem State.putF_mem (s : State) (a hi lo v : Nat) : (s.putF a hi lo v).mem = s.mem := rfl
@[simp] theorem State.putF_load (s : State) (a hi lo v : Nat) : (s.putF a hi lo v).load = s.load := rfl
@[simp] theorem State.putF_pool (s : State) (a hi lo v : Nat) : (s.putF a hi lo v).pool = s.pool := rfl
@[simp] theorem State.putF_eth (s : State) (a hi lo v : Nat) : (s.putF a hi lo v).eth = s.eth := rfl
@[simp] theorem State.putF_buses (s : State) (a hi lo v : Nat) : (s.putF a hi lo v).buses = s.buses := rfl
@[simp] theorem State.putF_inputs (s : State) (a hi lo v : Nat) : (s.putF a hi lo v).inputs = s.inputs := rfl
@[simp] theorem State.putF_gway (s : State) (a hi lo v : Nat) : (s.putF a hi lo v).gway = s.gway := rfl
@[simp] theorem State.putF_tpe (s : State) (a hi lo v : Nat) : (s.putF a hi lo v).tpe = s.tpe := rfl
@[simp] theorem State.putF_dma (s : State) (a hi lo v : Nat) : (s.putF a hi lo v).dma = s.dma := rfl
@[simp] theorem State.putF_ulf (s : State) (a hi lo v : Nat) : (s.putF a hi lo v).ulf = s.ulf := rfl
@[simp] theorem State.putF_pair (s : State) (a hi lo v : Nat) : (s.putF a hi lo v).pair = s.pair := rfl
@[simp] theorem State.putF_pwr (s : State) (a hi lo v : Nat) : (s.putF a hi lo v).pwr = s.pwr := rfl
@[simp] theorem State.putF_sec (s : State) (a hi lo v : Nat) : (s.putF a hi lo v).sec = s.sec := rfl
@[simp] theorem State.putF_upd (s : State) (a hi lo v : Nat) : (s.putF a hi lo v).upd = s.upd := rfl
@[simp] theorem State.putF_stor (s : State) (a hi lo v : Nat) : (s.putF a hi lo v).stor = s.stor := rfl
@[simp] theorem State.putF_free (s : State) (a hi lo v : Nat) : (s.putF a hi lo v).free = s.free := rfl
@[simp] theorem State.putF_pending (s : State) (a hi lo v : Nat) : (s.putF a hi lo v).pending = s.pending := rfl

@[simp] theorem State.addF_hw (s : State) (a hi lo v : Nat) : (s.addF a hi lo v).hw = s.hw := rfl
@[simp] theorem State.addF_clk (s : State) (a hi lo v : Nat) : (s.addF a hi lo v).clk = s.clk := rfl
@[simp] theorem State.addF_staged (s : State) (a hi lo v : Nat) : (s.addF a hi lo v).staged = s.staged := rfl
@[simp] theorem State.addF_held (s : State) (a hi lo v : Nat) : (s.addF a hi lo v).held = s.held := rfl
@[simp] theorem State.addF_heldRead (s : State) (a hi lo v : Nat) : (s.addF a hi lo v).heldRead = s.heldRead := rfl
@[simp] theorem State.addF_pages (s : State) (a hi lo v : Nat) : (s.addF a hi lo v).pages = s.pages := rfl
@[simp] theorem State.addF_coh (s : State) (a hi lo v : Nat) : (s.addF a hi lo v).coh = s.coh := rfl
@[simp] theorem State.addF_sw (s : State) (a hi lo v : Nat) : (s.addF a hi lo v).sw = s.sw := rfl
@[simp] theorem State.addF_gwSet (s : State) (a hi lo v : Nat) : (s.addF a hi lo v).gwSet = s.gwSet := rfl
@[simp] theorem State.addF_pt (s : State) (a hi lo v : Nat) : (s.addF a hi lo v).pt = s.pt := rfl
@[simp] theorem State.addF_log (s : State) (a hi lo v : Nat) : (s.addF a hi lo v).log = s.log := rfl
@[simp] theorem State.addF_regions (s : State) (a hi lo v : Nat) : (s.addF a hi lo v).regions = s.regions := rfl
@[simp] theorem State.addF_viol (s : State) (a hi lo v : Nat) : (s.addF a hi lo v).viol = s.viol := rfl
@[simp] theorem State.addF_violLost (s : State) (a hi lo v : Nat) : (s.addF a hi lo v).violLost = s.violLost := rfl
@[simp] theorem State.addF_ifiles (s : State) (a hi lo v : Nat) : (s.addF a hi lo v).ifiles = s.ifiles := rfl
@[simp] theorem State.addF_resp (s : State) (a hi lo v : Nat) : (s.addF a hi lo v).resp = s.resp := rfl
@[simp] theorem State.addF_parts (s : State) (a hi lo v : Nat) : (s.addF a hi lo v).parts = s.parts := rfl
@[simp] theorem State.addF_dramc (s : State) (a hi lo v : Nat) : (s.addF a hi lo v).dramc = s.dramc := rfl
@[simp] theorem State.addF_mem (s : State) (a hi lo v : Nat) : (s.addF a hi lo v).mem = s.mem := rfl
@[simp] theorem State.addF_load (s : State) (a hi lo v : Nat) : (s.addF a hi lo v).load = s.load := rfl
@[simp] theorem State.addF_pool (s : State) (a hi lo v : Nat) : (s.addF a hi lo v).pool = s.pool := rfl
@[simp] theorem State.addF_eth (s : State) (a hi lo v : Nat) : (s.addF a hi lo v).eth = s.eth := rfl
@[simp] theorem State.addF_buses (s : State) (a hi lo v : Nat) : (s.addF a hi lo v).buses = s.buses := rfl
@[simp] theorem State.addF_inputs (s : State) (a hi lo v : Nat) : (s.addF a hi lo v).inputs = s.inputs := rfl
@[simp] theorem State.addF_gway (s : State) (a hi lo v : Nat) : (s.addF a hi lo v).gway = s.gway := rfl
@[simp] theorem State.addF_tpe (s : State) (a hi lo v : Nat) : (s.addF a hi lo v).tpe = s.tpe := rfl
@[simp] theorem State.addF_dma (s : State) (a hi lo v : Nat) : (s.addF a hi lo v).dma = s.dma := rfl
@[simp] theorem State.addF_ulf (s : State) (a hi lo v : Nat) : (s.addF a hi lo v).ulf = s.ulf := rfl
@[simp] theorem State.addF_pair (s : State) (a hi lo v : Nat) : (s.addF a hi lo v).pair = s.pair := rfl
@[simp] theorem State.addF_pwr (s : State) (a hi lo v : Nat) : (s.addF a hi lo v).pwr = s.pwr := rfl
@[simp] theorem State.addF_sec (s : State) (a hi lo v : Nat) : (s.addF a hi lo v).sec = s.sec := rfl
@[simp] theorem State.addF_upd (s : State) (a hi lo v : Nat) : (s.addF a hi lo v).upd = s.upd := rfl
@[simp] theorem State.addF_stor (s : State) (a hi lo v : Nat) : (s.addF a hi lo v).stor = s.stor := rfl
@[simp] theorem State.addF_free (s : State) (a hi lo v : Nat) : (s.addF a hi lo v).free = s.free := rfl
@[simp] theorem State.addF_pending (s : State) (a hi lo v : Nat) : (s.addF a hi lo v).pending = s.pending := rfl

@[simp] theorem State.setPair_hw (s : State) (lo hi v : Nat) : (s.setPair lo hi v).hw = s.hw := rfl
@[simp] theorem State.setPair_clk (s : State) (lo hi v : Nat) : (s.setPair lo hi v).clk = s.clk := rfl
@[simp] theorem State.setPair_staged (s : State) (lo hi v : Nat) : (s.setPair lo hi v).staged = s.staged := rfl
@[simp] theorem State.setPair_held (s : State) (lo hi v : Nat) : (s.setPair lo hi v).held = s.held := rfl
@[simp] theorem State.setPair_heldRead (s : State) (lo hi v : Nat) : (s.setPair lo hi v).heldRead = s.heldRead := rfl
@[simp] theorem State.setPair_pages (s : State) (lo hi v : Nat) : (s.setPair lo hi v).pages = s.pages := rfl
@[simp] theorem State.setPair_coh (s : State) (lo hi v : Nat) : (s.setPair lo hi v).coh = s.coh := rfl
@[simp] theorem State.setPair_sw (s : State) (lo hi v : Nat) : (s.setPair lo hi v).sw = s.sw := rfl
@[simp] theorem State.setPair_gwSet (s : State) (lo hi v : Nat) : (s.setPair lo hi v).gwSet = s.gwSet := rfl
@[simp] theorem State.setPair_pt (s : State) (lo hi v : Nat) : (s.setPair lo hi v).pt = s.pt := rfl
@[simp] theorem State.setPair_log (s : State) (lo hi v : Nat) : (s.setPair lo hi v).log = s.log := rfl
@[simp] theorem State.setPair_regions (s : State) (lo hi v : Nat) : (s.setPair lo hi v).regions = s.regions := rfl
@[simp] theorem State.setPair_viol (s : State) (lo hi v : Nat) : (s.setPair lo hi v).viol = s.viol := rfl
@[simp] theorem State.setPair_violLost (s : State) (lo hi v : Nat) : (s.setPair lo hi v).violLost = s.violLost := rfl
@[simp] theorem State.setPair_ifiles (s : State) (lo hi v : Nat) : (s.setPair lo hi v).ifiles = s.ifiles := rfl
@[simp] theorem State.setPair_resp (s : State) (lo hi v : Nat) : (s.setPair lo hi v).resp = s.resp := rfl
@[simp] theorem State.setPair_parts (s : State) (lo hi v : Nat) : (s.setPair lo hi v).parts = s.parts := rfl
@[simp] theorem State.setPair_dramc (s : State) (lo hi v : Nat) : (s.setPair lo hi v).dramc = s.dramc := rfl
@[simp] theorem State.setPair_mem (s : State) (lo hi v : Nat) : (s.setPair lo hi v).mem = s.mem := rfl
@[simp] theorem State.setPair_load (s : State) (lo hi v : Nat) : (s.setPair lo hi v).load = s.load := rfl
@[simp] theorem State.setPair_pool (s : State) (lo hi v : Nat) : (s.setPair lo hi v).pool = s.pool := rfl
@[simp] theorem State.setPair_eth (s : State) (lo hi v : Nat) : (s.setPair lo hi v).eth = s.eth := rfl
@[simp] theorem State.setPair_buses (s : State) (lo hi v : Nat) : (s.setPair lo hi v).buses = s.buses := rfl
@[simp] theorem State.setPair_inputs (s : State) (lo hi v : Nat) : (s.setPair lo hi v).inputs = s.inputs := rfl
@[simp] theorem State.setPair_gway (s : State) (lo hi v : Nat) : (s.setPair lo hi v).gway = s.gway := rfl
@[simp] theorem State.setPair_tpe (s : State) (lo hi v : Nat) : (s.setPair lo hi v).tpe = s.tpe := rfl
@[simp] theorem State.setPair_dma (s : State) (lo hi v : Nat) : (s.setPair lo hi v).dma = s.dma := rfl
@[simp] theorem State.setPair_ulf (s : State) (lo hi v : Nat) : (s.setPair lo hi v).ulf = s.ulf := rfl
@[simp] theorem State.setPair_pair (s : State) (lo hi v : Nat) : (s.setPair lo hi v).pair = s.pair := rfl
@[simp] theorem State.setPair_pwr (s : State) (lo hi v : Nat) : (s.setPair lo hi v).pwr = s.pwr := rfl
@[simp] theorem State.setPair_sec (s : State) (lo hi v : Nat) : (s.setPair lo hi v).sec = s.sec := rfl
@[simp] theorem State.setPair_upd (s : State) (lo hi v : Nat) : (s.setPair lo hi v).upd = s.upd := rfl
@[simp] theorem State.setPair_stor (s : State) (lo hi v : Nat) : (s.setPair lo hi v).stor = s.stor := rfl
@[simp] theorem State.setPair_free (s : State) (lo hi v : Nat) : (s.setPair lo hi v).free = s.free := rfl
@[simp] theorem State.setPair_pending (s : State) (lo hi v : Nat) : (s.setPair lo hi v).pending = s.pending := rfl

@[simp] theorem State.done_hw (s : State) (d : Nat) : (s.done d).hw = s.hw := rfl
@[simp] theorem State.done_clk (s : State) (d : Nat) : (s.done d).clk = s.clk := rfl
@[simp] theorem State.done_regs (s : State) (d : Nat) : (s.done d).regs = s.regs := rfl
@[simp] theorem State.done_staged (s : State) (d : Nat) : (s.done d).staged = s.staged := rfl
@[simp] theorem State.done_held (s : State) (d : Nat) : (s.done d).held = s.held := rfl
@[simp] theorem State.done_heldRead (s : State) (d : Nat) : (s.done d).heldRead = s.heldRead := rfl
@[simp] theorem State.done_pages (s : State) (d : Nat) : (s.done d).pages = s.pages := rfl
@[simp] theorem State.done_coh (s : State) (d : Nat) : (s.done d).coh = s.coh := rfl
@[simp] theorem State.done_sw (s : State) (d : Nat) : (s.done d).sw = s.sw := rfl
@[simp] theorem State.done_gwSet (s : State) (d : Nat) : (s.done d).gwSet = s.gwSet := rfl
@[simp] theorem State.done_pt (s : State) (d : Nat) : (s.done d).pt = s.pt := rfl
@[simp] theorem State.done_log (s : State) (d : Nat) : (s.done d).log = s.log := rfl
@[simp] theorem State.done_regions (s : State) (d : Nat) : (s.done d).regions = s.regions := rfl
@[simp] theorem State.done_viol (s : State) (d : Nat) : (s.done d).viol = s.viol := rfl
@[simp] theorem State.done_violLost (s : State) (d : Nat) : (s.done d).violLost = s.violLost := rfl
@[simp] theorem State.done_ifiles (s : State) (d : Nat) : (s.done d).ifiles = s.ifiles := rfl
@[simp] theorem State.done_parts (s : State) (d : Nat) : (s.done d).parts = s.parts := rfl
@[simp] theorem State.done_dramc (s : State) (d : Nat) : (s.done d).dramc = s.dramc := rfl
@[simp] theorem State.done_mem (s : State) (d : Nat) : (s.done d).mem = s.mem := rfl
@[simp] theorem State.done_load (s : State) (d : Nat) : (s.done d).load = s.load := rfl
@[simp] theorem State.done_pool (s : State) (d : Nat) : (s.done d).pool = s.pool := rfl
@[simp] theorem State.done_eth (s : State) (d : Nat) : (s.done d).eth = s.eth := rfl
@[simp] theorem State.done_buses (s : State) (d : Nat) : (s.done d).buses = s.buses := rfl
@[simp] theorem State.done_inputs (s : State) (d : Nat) : (s.done d).inputs = s.inputs := rfl
@[simp] theorem State.done_gway (s : State) (d : Nat) : (s.done d).gway = s.gway := rfl
@[simp] theorem State.done_tpe (s : State) (d : Nat) : (s.done d).tpe = s.tpe := rfl
@[simp] theorem State.done_dma (s : State) (d : Nat) : (s.done d).dma = s.dma := rfl
@[simp] theorem State.done_ulf (s : State) (d : Nat) : (s.done d).ulf = s.ulf := rfl
@[simp] theorem State.done_pair (s : State) (d : Nat) : (s.done d).pair = s.pair := rfl
@[simp] theorem State.done_pwr (s : State) (d : Nat) : (s.done d).pwr = s.pwr := rfl
@[simp] theorem State.done_sec (s : State) (d : Nat) : (s.done d).sec = s.sec := rfl
@[simp] theorem State.done_upd (s : State) (d : Nat) : (s.done d).upd = s.upd := rfl
@[simp] theorem State.done_stor (s : State) (d : Nat) : (s.done d).stor = s.stor := rfl
@[simp] theorem State.done_free (s : State) (d : Nat) : (s.done d).free = s.free := rfl
@[simp] theorem State.done_pending (s : State) (d : Nat) : (s.done d).pending = s.pending := rfl


@[simp] theorem State.settle_hw (s n : State) : (s.settle n).hw = n.hw := rfl
@[simp] theorem State.settle_regs (s n : State) : (s.settle n).regs = n.regs := rfl
@[simp] theorem State.settle_staged (s n : State) : (s.settle n).staged = n.staged := rfl
@[simp] theorem State.settle_held (s n : State) : (s.settle n).held = n.held := rfl
@[simp] theorem State.settle_heldRead (s n : State) : (s.settle n).heldRead = n.heldRead := rfl
@[simp] theorem State.settle_pages (s n : State) : (s.settle n).pages = n.pages := rfl
@[simp] theorem State.settle_coh (s n : State) : (s.settle n).coh = n.coh := rfl
@[simp] theorem State.settle_sw (s n : State) : (s.settle n).sw = n.sw := rfl
@[simp] theorem State.settle_gwSet (s n : State) : (s.settle n).gwSet = n.gwSet := rfl
@[simp] theorem State.settle_pt (s n : State) : (s.settle n).pt = n.pt := rfl
@[simp] theorem State.settle_log (s n : State) : (s.settle n).log = n.log := rfl
@[simp] theorem State.settle_regions (s n : State) : (s.settle n).regions = n.regions := rfl
@[simp] theorem State.settle_viol (s n : State) : (s.settle n).viol = n.viol := rfl
@[simp] theorem State.settle_violLost (s n : State) : (s.settle n).violLost = n.violLost := rfl
@[simp] theorem State.settle_ifiles (s n : State) : (s.settle n).ifiles = n.ifiles := rfl
@[simp] theorem State.settle_resp (s n : State) : (s.settle n).resp = n.resp := rfl
@[simp] theorem State.settle_parts (s n : State) : (s.settle n).parts = n.parts := rfl
@[simp] theorem State.settle_dramc (s n : State) : (s.settle n).dramc = n.dramc := rfl
@[simp] theorem State.settle_mem (s n : State) : (s.settle n).mem = n.mem := rfl
@[simp] theorem State.settle_load (s n : State) : (s.settle n).load = n.load := rfl
@[simp] theorem State.settle_pool (s n : State) : (s.settle n).pool = n.pool := rfl
@[simp] theorem State.settle_eth (s n : State) : (s.settle n).eth = n.eth := rfl
@[simp] theorem State.settle_buses (s n : State) : (s.settle n).buses = n.buses := rfl
@[simp] theorem State.settle_inputs (s n : State) : (s.settle n).inputs = n.inputs := rfl
@[simp] theorem State.settle_gway (s n : State) : (s.settle n).gway = n.gway := rfl
@[simp] theorem State.settle_tpe (s n : State) : (s.settle n).tpe = n.tpe := rfl
@[simp] theorem State.settle_dma (s n : State) : (s.settle n).dma = n.dma := rfl
@[simp] theorem State.settle_ulf (s n : State) : (s.settle n).ulf = n.ulf := rfl
@[simp] theorem State.settle_pair (s n : State) : (s.settle n).pair = n.pair := rfl
@[simp] theorem State.settle_pwr (s n : State) : (s.settle n).pwr = n.pwr := rfl
@[simp] theorem State.settle_sec (s n : State) : (s.settle n).sec = n.sec := rfl
@[simp] theorem State.settle_upd (s n : State) : (s.settle n).upd = n.upd := rfl
@[simp] theorem State.settle_stor (s n : State) : (s.settle n).stor = n.stor := rfl
@[simp] theorem State.settle_free (s n : State) : (s.settle n).free = n.free := rfl
@[simp] theorem State.settle_pending (s n : State) : (s.settle n).pending = s.pending := rfl
@[simp] theorem State.settle_held_clk (s n : State) : (s.settle n).clk = { n.clk with held := s.clk.held } := rfl

@[simp] theorem State.raise_hw (s : State) (i k : Nat) : (s.raise i k).hw = s.hw := by rw [State.raise_same s i k]
@[simp] theorem State.raise_clk (s : State) (i k : Nat) : (s.raise i k).clk = s.clk := by rw [State.raise_same s i k]
@[simp] theorem State.raise_staged (s : State) (i k : Nat) : (s.raise i k).staged = s.staged := by rw [State.raise_same s i k]
@[simp] theorem State.raise_held (s : State) (i k : Nat) : (s.raise i k).held = s.held := by rw [State.raise_same s i k]
@[simp] theorem State.raise_heldRead (s : State) (i k : Nat) : (s.raise i k).heldRead = s.heldRead := by rw [State.raise_same s i k]
@[simp] theorem State.raise_pages (s : State) (i k : Nat) : (s.raise i k).pages = s.pages := by rw [State.raise_same s i k]
@[simp] theorem State.raise_coh (s : State) (i k : Nat) : (s.raise i k).coh = s.coh := by rw [State.raise_same s i k]
@[simp] theorem State.raise_sw (s : State) (i k : Nat) : (s.raise i k).sw = s.sw := by rw [State.raise_same s i k]
@[simp] theorem State.raise_gwSet (s : State) (i k : Nat) : (s.raise i k).gwSet = s.gwSet := by rw [State.raise_same s i k]
@[simp] theorem State.raise_pt (s : State) (i k : Nat) : (s.raise i k).pt = s.pt := by rw [State.raise_same s i k]
@[simp] theorem State.raise_log (s : State) (i k : Nat) : (s.raise i k).log = s.log := by rw [State.raise_same s i k]
@[simp] theorem State.raise_regions (s : State) (i k : Nat) : (s.raise i k).regions = s.regions := by rw [State.raise_same s i k]
@[simp] theorem State.raise_viol (s : State) (i k : Nat) : (s.raise i k).viol = s.viol := by rw [State.raise_same s i k]
@[simp] theorem State.raise_violLost (s : State) (i k : Nat) : (s.raise i k).violLost = s.violLost := by rw [State.raise_same s i k]
@[simp] theorem State.raise_resp (s : State) (i k : Nat) : (s.raise i k).resp = s.resp := by rw [State.raise_same s i k]
@[simp] theorem State.raise_parts (s : State) (i k : Nat) : (s.raise i k).parts = s.parts := by rw [State.raise_same s i k]
@[simp] theorem State.raise_dramc (s : State) (i k : Nat) : (s.raise i k).dramc = s.dramc := by rw [State.raise_same s i k]
@[simp] theorem State.raise_mem (s : State) (i k : Nat) : (s.raise i k).mem = s.mem := by rw [State.raise_same s i k]
@[simp] theorem State.raise_load (s : State) (i k : Nat) : (s.raise i k).load = s.load := by rw [State.raise_same s i k]
@[simp] theorem State.raise_pool (s : State) (i k : Nat) : (s.raise i k).pool = s.pool := by rw [State.raise_same s i k]
@[simp] theorem State.raise_eth (s : State) (i k : Nat) : (s.raise i k).eth = s.eth := by rw [State.raise_same s i k]
@[simp] theorem State.raise_buses (s : State) (i k : Nat) : (s.raise i k).buses = s.buses := by rw [State.raise_same s i k]
@[simp] theorem State.raise_inputs (s : State) (i k : Nat) : (s.raise i k).inputs = s.inputs := by rw [State.raise_same s i k]
@[simp] theorem State.raise_gway (s : State) (i k : Nat) : (s.raise i k).gway = s.gway := by rw [State.raise_same s i k]
@[simp] theorem State.raise_tpe (s : State) (i k : Nat) : (s.raise i k).tpe = s.tpe := by rw [State.raise_same s i k]
@[simp] theorem State.raise_dma (s : State) (i k : Nat) : (s.raise i k).dma = s.dma := by rw [State.raise_same s i k]
@[simp] theorem State.raise_ulf (s : State) (i k : Nat) : (s.raise i k).ulf = s.ulf := by rw [State.raise_same s i k]
@[simp] theorem State.raise_pair (s : State) (i k : Nat) : (s.raise i k).pair = s.pair := by rw [State.raise_same s i k]
@[simp] theorem State.raise_pwr (s : State) (i k : Nat) : (s.raise i k).pwr = s.pwr := by rw [State.raise_same s i k]
@[simp] theorem State.raise_sec (s : State) (i k : Nat) : (s.raise i k).sec = s.sec := by rw [State.raise_same s i k]
@[simp] theorem State.raise_upd (s : State) (i k : Nat) : (s.raise i k).upd = s.upd := by rw [State.raise_same s i k]
@[simp] theorem State.raise_stor (s : State) (i k : Nat) : (s.raise i k).stor = s.stor := by rw [State.raise_same s i k]
@[simp] theorem State.raise_free (s : State) (i k : Nat) : (s.raise i k).free = s.free := by rw [State.raise_same s i k]
@[simp] theorem State.raise_pending (s : State) (i k : Nat) : (s.raise i k).pending = s.pending := by rw [State.raise_same s i k]

@[simp] theorem State.raiseIf_hw (s : State) (c : Bool) (i k : Nat) : (s.raiseIf c i k).hw = s.hw := by rw [State.raiseIf_same s c i k]
@[simp] theorem State.raiseIf_clk (s : State) (c : Bool) (i k : Nat) : (s.raiseIf c i k).clk = s.clk := by rw [State.raiseIf_same s c i k]
@[simp] theorem State.raiseIf_staged (s : State) (c : Bool) (i k : Nat) : (s.raiseIf c i k).staged = s.staged := by rw [State.raiseIf_same s c i k]
@[simp] theorem State.raiseIf_held (s : State) (c : Bool) (i k : Nat) : (s.raiseIf c i k).held = s.held := by rw [State.raiseIf_same s c i k]
@[simp] theorem State.raiseIf_heldRead (s : State) (c : Bool) (i k : Nat) : (s.raiseIf c i k).heldRead = s.heldRead := by rw [State.raiseIf_same s c i k]
@[simp] theorem State.raiseIf_pages (s : State) (c : Bool) (i k : Nat) : (s.raiseIf c i k).pages = s.pages := by rw [State.raiseIf_same s c i k]
@[simp] theorem State.raiseIf_coh (s : State) (c : Bool) (i k : Nat) : (s.raiseIf c i k).coh = s.coh := by rw [State.raiseIf_same s c i k]
@[simp] theorem State.raiseIf_sw (s : State) (c : Bool) (i k : Nat) : (s.raiseIf c i k).sw = s.sw := by rw [State.raiseIf_same s c i k]
@[simp] theorem State.raiseIf_gwSet (s : State) (c : Bool) (i k : Nat) : (s.raiseIf c i k).gwSet = s.gwSet := by rw [State.raiseIf_same s c i k]
@[simp] theorem State.raiseIf_pt (s : State) (c : Bool) (i k : Nat) : (s.raiseIf c i k).pt = s.pt := by rw [State.raiseIf_same s c i k]
@[simp] theorem State.raiseIf_log (s : State) (c : Bool) (i k : Nat) : (s.raiseIf c i k).log = s.log := by rw [State.raiseIf_same s c i k]
@[simp] theorem State.raiseIf_regions (s : State) (c : Bool) (i k : Nat) : (s.raiseIf c i k).regions = s.regions := by rw [State.raiseIf_same s c i k]
@[simp] theorem State.raiseIf_viol (s : State) (c : Bool) (i k : Nat) : (s.raiseIf c i k).viol = s.viol := by rw [State.raiseIf_same s c i k]
@[simp] theorem State.raiseIf_violLost (s : State) (c : Bool) (i k : Nat) : (s.raiseIf c i k).violLost = s.violLost := by rw [State.raiseIf_same s c i k]
@[simp] theorem State.raiseIf_resp (s : State) (c : Bool) (i k : Nat) : (s.raiseIf c i k).resp = s.resp := by rw [State.raiseIf_same s c i k]
@[simp] theorem State.raiseIf_parts (s : State) (c : Bool) (i k : Nat) : (s.raiseIf c i k).parts = s.parts := by rw [State.raiseIf_same s c i k]
@[simp] theorem State.raiseIf_dramc (s : State) (c : Bool) (i k : Nat) : (s.raiseIf c i k).dramc = s.dramc := by rw [State.raiseIf_same s c i k]
@[simp] theorem State.raiseIf_mem (s : State) (c : Bool) (i k : Nat) : (s.raiseIf c i k).mem = s.mem := by rw [State.raiseIf_same s c i k]
@[simp] theorem State.raiseIf_load (s : State) (c : Bool) (i k : Nat) : (s.raiseIf c i k).load = s.load := by rw [State.raiseIf_same s c i k]
@[simp] theorem State.raiseIf_pool (s : State) (c : Bool) (i k : Nat) : (s.raiseIf c i k).pool = s.pool := by rw [State.raiseIf_same s c i k]
@[simp] theorem State.raiseIf_eth (s : State) (c : Bool) (i k : Nat) : (s.raiseIf c i k).eth = s.eth := by rw [State.raiseIf_same s c i k]
@[simp] theorem State.raiseIf_buses (s : State) (c : Bool) (i k : Nat) : (s.raiseIf c i k).buses = s.buses := by rw [State.raiseIf_same s c i k]
@[simp] theorem State.raiseIf_inputs (s : State) (c : Bool) (i k : Nat) : (s.raiseIf c i k).inputs = s.inputs := by rw [State.raiseIf_same s c i k]
@[simp] theorem State.raiseIf_gway (s : State) (c : Bool) (i k : Nat) : (s.raiseIf c i k).gway = s.gway := by rw [State.raiseIf_same s c i k]
@[simp] theorem State.raiseIf_tpe (s : State) (c : Bool) (i k : Nat) : (s.raiseIf c i k).tpe = s.tpe := by rw [State.raiseIf_same s c i k]
@[simp] theorem State.raiseIf_dma (s : State) (c : Bool) (i k : Nat) : (s.raiseIf c i k).dma = s.dma := by rw [State.raiseIf_same s c i k]
@[simp] theorem State.raiseIf_ulf (s : State) (c : Bool) (i k : Nat) : (s.raiseIf c i k).ulf = s.ulf := by rw [State.raiseIf_same s c i k]
@[simp] theorem State.raiseIf_pair (s : State) (c : Bool) (i k : Nat) : (s.raiseIf c i k).pair = s.pair := by rw [State.raiseIf_same s c i k]
@[simp] theorem State.raiseIf_pwr (s : State) (c : Bool) (i k : Nat) : (s.raiseIf c i k).pwr = s.pwr := by rw [State.raiseIf_same s c i k]
@[simp] theorem State.raiseIf_sec (s : State) (c : Bool) (i k : Nat) : (s.raiseIf c i k).sec = s.sec := by rw [State.raiseIf_same s c i k]
@[simp] theorem State.raiseIf_upd (s : State) (c : Bool) (i k : Nat) : (s.raiseIf c i k).upd = s.upd := by rw [State.raiseIf_same s c i k]
@[simp] theorem State.raiseIf_stor (s : State) (c : Bool) (i k : Nat) : (s.raiseIf c i k).stor = s.stor := by rw [State.raiseIf_same s c i k]
@[simp] theorem State.raiseIf_free (s : State) (c : Bool) (i k : Nat) : (s.raiseIf c i k).free = s.free := by rw [State.raiseIf_same s c i k]
@[simp] theorem State.raiseIf_pending (s : State) (c : Bool) (i k : Nat) : (s.raiseIf c i k).pending = s.pending := by rw [State.raiseIf_same s c i k]

@[simp] theorem State.raiseCoh_hw (s : State) (p k : Nat) : (s.raiseCoh p k).hw = s.hw := by rw [State.raiseCoh_same s p k]
@[simp] theorem State.raiseCoh_clk (s : State) (p k : Nat) : (s.raiseCoh p k).clk = s.clk := by rw [State.raiseCoh_same s p k]
@[simp] theorem State.raiseCoh_regs (s : State) (p k : Nat) : (s.raiseCoh p k).regs = s.regs := by rw [State.raiseCoh_same s p k]
@[simp] theorem State.raiseCoh_staged (s : State) (p k : Nat) : (s.raiseCoh p k).staged = s.staged := by rw [State.raiseCoh_same s p k]
@[simp] theorem State.raiseCoh_held (s : State) (p k : Nat) : (s.raiseCoh p k).held = s.held := by rw [State.raiseCoh_same s p k]
@[simp] theorem State.raiseCoh_heldRead (s : State) (p k : Nat) : (s.raiseCoh p k).heldRead = s.heldRead := by rw [State.raiseCoh_same s p k]
@[simp] theorem State.raiseCoh_pages (s : State) (p k : Nat) : (s.raiseCoh p k).pages = s.pages := by rw [State.raiseCoh_same s p k]
@[simp] theorem State.raiseCoh_sw (s : State) (p k : Nat) : (s.raiseCoh p k).sw = s.sw := by rw [State.raiseCoh_same s p k]
@[simp] theorem State.raiseCoh_gwSet (s : State) (p k : Nat) : (s.raiseCoh p k).gwSet = s.gwSet := by rw [State.raiseCoh_same s p k]
@[simp] theorem State.raiseCoh_pt (s : State) (p k : Nat) : (s.raiseCoh p k).pt = s.pt := by rw [State.raiseCoh_same s p k]
@[simp] theorem State.raiseCoh_log (s : State) (p k : Nat) : (s.raiseCoh p k).log = s.log := by rw [State.raiseCoh_same s p k]
@[simp] theorem State.raiseCoh_regions (s : State) (p k : Nat) : (s.raiseCoh p k).regions = s.regions := by rw [State.raiseCoh_same s p k]
@[simp] theorem State.raiseCoh_viol (s : State) (p k : Nat) : (s.raiseCoh p k).viol = s.viol := by rw [State.raiseCoh_same s p k]
@[simp] theorem State.raiseCoh_violLost (s : State) (p k : Nat) : (s.raiseCoh p k).violLost = s.violLost := by rw [State.raiseCoh_same s p k]
@[simp] theorem State.raiseCoh_resp (s : State) (p k : Nat) : (s.raiseCoh p k).resp = s.resp := by rw [State.raiseCoh_same s p k]
@[simp] theorem State.raiseCoh_parts (s : State) (p k : Nat) : (s.raiseCoh p k).parts = s.parts := by rw [State.raiseCoh_same s p k]
@[simp] theorem State.raiseCoh_dramc (s : State) (p k : Nat) : (s.raiseCoh p k).dramc = s.dramc := by rw [State.raiseCoh_same s p k]
@[simp] theorem State.raiseCoh_mem (s : State) (p k : Nat) : (s.raiseCoh p k).mem = s.mem := by rw [State.raiseCoh_same s p k]
@[simp] theorem State.raiseCoh_load (s : State) (p k : Nat) : (s.raiseCoh p k).load = s.load := by rw [State.raiseCoh_same s p k]
@[simp] theorem State.raiseCoh_pool (s : State) (p k : Nat) : (s.raiseCoh p k).pool = s.pool := by rw [State.raiseCoh_same s p k]
@[simp] theorem State.raiseCoh_eth (s : State) (p k : Nat) : (s.raiseCoh p k).eth = s.eth := by rw [State.raiseCoh_same s p k]
@[simp] theorem State.raiseCoh_buses (s : State) (p k : Nat) : (s.raiseCoh p k).buses = s.buses := by rw [State.raiseCoh_same s p k]
@[simp] theorem State.raiseCoh_inputs (s : State) (p k : Nat) : (s.raiseCoh p k).inputs = s.inputs := by rw [State.raiseCoh_same s p k]
@[simp] theorem State.raiseCoh_gway (s : State) (p k : Nat) : (s.raiseCoh p k).gway = s.gway := by rw [State.raiseCoh_same s p k]
@[simp] theorem State.raiseCoh_tpe (s : State) (p k : Nat) : (s.raiseCoh p k).tpe = s.tpe := by rw [State.raiseCoh_same s p k]
@[simp] theorem State.raiseCoh_dma (s : State) (p k : Nat) : (s.raiseCoh p k).dma = s.dma := by rw [State.raiseCoh_same s p k]
@[simp] theorem State.raiseCoh_ulf (s : State) (p k : Nat) : (s.raiseCoh p k).ulf = s.ulf := by rw [State.raiseCoh_same s p k]
@[simp] theorem State.raiseCoh_pair (s : State) (p k : Nat) : (s.raiseCoh p k).pair = s.pair := by rw [State.raiseCoh_same s p k]
@[simp] theorem State.raiseCoh_pwr (s : State) (p k : Nat) : (s.raiseCoh p k).pwr = s.pwr := by rw [State.raiseCoh_same s p k]
@[simp] theorem State.raiseCoh_sec (s : State) (p k : Nat) : (s.raiseCoh p k).sec = s.sec := by rw [State.raiseCoh_same s p k]
@[simp] theorem State.raiseCoh_upd (s : State) (p k : Nat) : (s.raiseCoh p k).upd = s.upd := by rw [State.raiseCoh_same s p k]
@[simp] theorem State.raiseCoh_stor (s : State) (p k : Nat) : (s.raiseCoh p k).stor = s.stor := by rw [State.raiseCoh_same s p k]
@[simp] theorem State.raiseCoh_free (s : State) (p k : Nat) : (s.raiseCoh p k).free = s.free := by rw [State.raiseCoh_same s p k]
@[simp] theorem State.raiseCoh_pending (s : State) (p k : Nat) : (s.raiseCoh p k).pending = s.pending := by rw [State.raiseCoh_same s p k]

@[simp] theorem State.violation_hw (s : State) (a : Acc) (x : Nat) (w : Bool) (c : BusCause) : (s.violation a x w c).hw = s.hw := by rw [State.violation_same s a x w c]
@[simp] theorem State.violation_clk (s : State) (a : Acc) (x : Nat) (w : Bool) (c : BusCause) : (s.violation a x w c).clk = s.clk := by rw [State.violation_same s a x w c]
@[simp] theorem State.violation_staged (s : State) (a : Acc) (x : Nat) (w : Bool) (c : BusCause) : (s.violation a x w c).staged = s.staged := by rw [State.violation_same s a x w c]
@[simp] theorem State.violation_held (s : State) (a : Acc) (x : Nat) (w : Bool) (c : BusCause) : (s.violation a x w c).held = s.held := by rw [State.violation_same s a x w c]
@[simp] theorem State.violation_heldRead (s : State) (a : Acc) (x : Nat) (w : Bool) (c : BusCause) : (s.violation a x w c).heldRead = s.heldRead := by rw [State.violation_same s a x w c]
@[simp] theorem State.violation_pages (s : State) (a : Acc) (x : Nat) (w : Bool) (c : BusCause) : (s.violation a x w c).pages = s.pages := by rw [State.violation_same s a x w c]
@[simp] theorem State.violation_coh (s : State) (a : Acc) (x : Nat) (w : Bool) (c : BusCause) : (s.violation a x w c).coh = s.coh := by rw [State.violation_same s a x w c]
@[simp] theorem State.violation_sw (s : State) (a : Acc) (x : Nat) (w : Bool) (c : BusCause) : (s.violation a x w c).sw = s.sw := by rw [State.violation_same s a x w c]
@[simp] theorem State.violation_gwSet (s : State) (a : Acc) (x : Nat) (w : Bool) (c : BusCause) : (s.violation a x w c).gwSet = s.gwSet := by rw [State.violation_same s a x w c]
@[simp] theorem State.violation_pt (s : State) (a : Acc) (x : Nat) (w : Bool) (c : BusCause) : (s.violation a x w c).pt = s.pt := by rw [State.violation_same s a x w c]
@[simp] theorem State.violation_log (s : State) (a : Acc) (x : Nat) (w : Bool) (c : BusCause) : (s.violation a x w c).log = s.log := by rw [State.violation_same s a x w c]
@[simp] theorem State.violation_regions (s : State) (a : Acc) (x : Nat) (w : Bool) (c : BusCause) : (s.violation a x w c).regions = s.regions := by rw [State.violation_same s a x w c]
@[simp] theorem State.violation_parts (s : State) (a : Acc) (x : Nat) (w : Bool) (c : BusCause) : (s.violation a x w c).parts = s.parts := by rw [State.violation_same s a x w c]
@[simp] theorem State.violation_dramc (s : State) (a : Acc) (x : Nat) (w : Bool) (c : BusCause) : (s.violation a x w c).dramc = s.dramc := by rw [State.violation_same s a x w c]
@[simp] theorem State.violation_mem (s : State) (a : Acc) (x : Nat) (w : Bool) (c : BusCause) : (s.violation a x w c).mem = s.mem := by rw [State.violation_same s a x w c]
@[simp] theorem State.violation_load (s : State) (a : Acc) (x : Nat) (w : Bool) (c : BusCause) : (s.violation a x w c).load = s.load := by rw [State.violation_same s a x w c]
@[simp] theorem State.violation_pool (s : State) (a : Acc) (x : Nat) (w : Bool) (c : BusCause) : (s.violation a x w c).pool = s.pool := by rw [State.violation_same s a x w c]
@[simp] theorem State.violation_eth (s : State) (a : Acc) (x : Nat) (w : Bool) (c : BusCause) : (s.violation a x w c).eth = s.eth := by rw [State.violation_same s a x w c]
@[simp] theorem State.violation_buses (s : State) (a : Acc) (x : Nat) (w : Bool) (c : BusCause) : (s.violation a x w c).buses = s.buses := by rw [State.violation_same s a x w c]
@[simp] theorem State.violation_inputs (s : State) (a : Acc) (x : Nat) (w : Bool) (c : BusCause) : (s.violation a x w c).inputs = s.inputs := by rw [State.violation_same s a x w c]
@[simp] theorem State.violation_gway (s : State) (a : Acc) (x : Nat) (w : Bool) (c : BusCause) : (s.violation a x w c).gway = s.gway := by rw [State.violation_same s a x w c]
@[simp] theorem State.violation_tpe (s : State) (a : Acc) (x : Nat) (w : Bool) (c : BusCause) : (s.violation a x w c).tpe = s.tpe := by rw [State.violation_same s a x w c]
@[simp] theorem State.violation_dma (s : State) (a : Acc) (x : Nat) (w : Bool) (c : BusCause) : (s.violation a x w c).dma = s.dma := by rw [State.violation_same s a x w c]
@[simp] theorem State.violation_ulf (s : State) (a : Acc) (x : Nat) (w : Bool) (c : BusCause) : (s.violation a x w c).ulf = s.ulf := by rw [State.violation_same s a x w c]
@[simp] theorem State.violation_pair (s : State) (a : Acc) (x : Nat) (w : Bool) (c : BusCause) : (s.violation a x w c).pair = s.pair := by rw [State.violation_same s a x w c]
@[simp] theorem State.violation_pwr (s : State) (a : Acc) (x : Nat) (w : Bool) (c : BusCause) : (s.violation a x w c).pwr = s.pwr := by rw [State.violation_same s a x w c]
@[simp] theorem State.violation_sec (s : State) (a : Acc) (x : Nat) (w : Bool) (c : BusCause) : (s.violation a x w c).sec = s.sec := by rw [State.violation_same s a x w c]
@[simp] theorem State.violation_upd (s : State) (a : Acc) (x : Nat) (w : Bool) (c : BusCause) : (s.violation a x w c).upd = s.upd := by rw [State.violation_same s a x w c]
@[simp] theorem State.violation_stor (s : State) (a : Acc) (x : Nat) (w : Bool) (c : BusCause) : (s.violation a x w c).stor = s.stor := by rw [State.violation_same s a x w c]
@[simp] theorem State.violation_free (s : State) (a : Acc) (x : Nat) (w : Bool) (c : BusCause) : (s.violation a x w c).free = s.free := by rw [State.violation_same s a x w c]
@[simp] theorem State.violation_pending (s : State) (a : Acc) (x : Nat) (w : Bool) (c : BusCause) : (s.violation a x w c).pending = s.pending := by rw [State.violation_same s a x w c]

@[simp] theorem State.runTo_hw (s : State) (t : Nat) : (s.runTo t).hw = s.hw := by rw [State.runTo_same s t]
@[simp] theorem State.runTo_regs (s : State) (t : Nat) : (s.runTo t).regs = s.regs := by rw [State.runTo_same s t]
@[simp] theorem State.runTo_staged (s : State) (t : Nat) : (s.runTo t).staged = s.staged := by rw [State.runTo_same s t]
@[simp] theorem State.runTo_held (s : State) (t : Nat) : (s.runTo t).held = s.held := by rw [State.runTo_same s t]
@[simp] theorem State.runTo_heldRead (s : State) (t : Nat) : (s.runTo t).heldRead = s.heldRead := by rw [State.runTo_same s t]
@[simp] theorem State.runTo_pages (s : State) (t : Nat) : (s.runTo t).pages = s.pages := by rw [State.runTo_same s t]
@[simp] theorem State.runTo_coh (s : State) (t : Nat) : (s.runTo t).coh = s.coh := by rw [State.runTo_same s t]
@[simp] theorem State.runTo_sw (s : State) (t : Nat) : (s.runTo t).sw = s.sw := by rw [State.runTo_same s t]
@[simp] theorem State.runTo_gwSet (s : State) (t : Nat) : (s.runTo t).gwSet = s.gwSet := by rw [State.runTo_same s t]
@[simp] theorem State.runTo_pt (s : State) (t : Nat) : (s.runTo t).pt = s.pt := by rw [State.runTo_same s t]
@[simp] theorem State.runTo_log (s : State) (t : Nat) : (s.runTo t).log = s.log := by rw [State.runTo_same s t]
@[simp] theorem State.runTo_regions (s : State) (t : Nat) : (s.runTo t).regions = s.regions := by rw [State.runTo_same s t]
@[simp] theorem State.runTo_viol (s : State) (t : Nat) : (s.runTo t).viol = s.viol := by rw [State.runTo_same s t]
@[simp] theorem State.runTo_violLost (s : State) (t : Nat) : (s.runTo t).violLost = s.violLost := by rw [State.runTo_same s t]
@[simp] theorem State.runTo_ifiles (s : State) (t : Nat) : (s.runTo t).ifiles = s.ifiles := by rw [State.runTo_same s t]
@[simp] theorem State.runTo_resp (s : State) (t : Nat) : (s.runTo t).resp = s.resp := by rw [State.runTo_same s t]
@[simp] theorem State.runTo_parts (s : State) (t : Nat) : (s.runTo t).parts = s.parts := by rw [State.runTo_same s t]
@[simp] theorem State.runTo_dramc (s : State) (t : Nat) : (s.runTo t).dramc = s.dramc := by rw [State.runTo_same s t]
@[simp] theorem State.runTo_mem (s : State) (t : Nat) : (s.runTo t).mem = s.mem := by rw [State.runTo_same s t]
@[simp] theorem State.runTo_load (s : State) (t : Nat) : (s.runTo t).load = s.load := by rw [State.runTo_same s t]
@[simp] theorem State.runTo_pool (s : State) (t : Nat) : (s.runTo t).pool = s.pool := by rw [State.runTo_same s t]
@[simp] theorem State.runTo_eth (s : State) (t : Nat) : (s.runTo t).eth = s.eth := by rw [State.runTo_same s t]
@[simp] theorem State.runTo_buses (s : State) (t : Nat) : (s.runTo t).buses = s.buses := by rw [State.runTo_same s t]
@[simp] theorem State.runTo_inputs (s : State) (t : Nat) : (s.runTo t).inputs = s.inputs := by rw [State.runTo_same s t]
@[simp] theorem State.runTo_gway (s : State) (t : Nat) : (s.runTo t).gway = s.gway := by rw [State.runTo_same s t]
@[simp] theorem State.runTo_tpe (s : State) (t : Nat) : (s.runTo t).tpe = s.tpe := by rw [State.runTo_same s t]
@[simp] theorem State.runTo_dma (s : State) (t : Nat) : (s.runTo t).dma = s.dma := by rw [State.runTo_same s t]
@[simp] theorem State.runTo_ulf (s : State) (t : Nat) : (s.runTo t).ulf = s.ulf := by rw [State.runTo_same s t]
@[simp] theorem State.runTo_pair (s : State) (t : Nat) : (s.runTo t).pair = s.pair := by rw [State.runTo_same s t]
@[simp] theorem State.runTo_pwr (s : State) (t : Nat) : (s.runTo t).pwr = s.pwr := by rw [State.runTo_same s t]
@[simp] theorem State.runTo_sec (s : State) (t : Nat) : (s.runTo t).sec = s.sec := by rw [State.runTo_same s t]
@[simp] theorem State.runTo_upd (s : State) (t : Nat) : (s.runTo t).upd = s.upd := by rw [State.runTo_same s t]
@[simp] theorem State.runTo_stor (s : State) (t : Nat) : (s.runTo t).stor = s.stor := by rw [State.runTo_same s t]
@[simp] theorem State.runTo_free (s : State) (t : Nat) : (s.runTo t).free = s.free := by rw [State.runTo_same s t]
@[simp] theorem State.runTo_pending (s : State) (t : Nat) : (s.runTo t).pending = s.pending := by rw [State.runTo_same s t]

@[simp] theorem State.advance_clk (s : State) (t : Nat) : (s.advance t).clk = (s.runTo t).clk := rfl

@[simp] theorem State.advance_hw (s : State) (t : Nat) : (s.advance t).hw = s.hw := by rw [State.advance_same s t]
@[simp] theorem State.advance_regs (s : State) (t : Nat) : (s.advance t).regs = s.regs := by rw [State.advance_same s t]
@[simp] theorem State.advance_staged (s : State) (t : Nat) : (s.advance t).staged = s.staged := by rw [State.advance_same s t]
@[simp] theorem State.advance_held (s : State) (t : Nat) : (s.advance t).held = s.held := by rw [State.advance_same s t]
@[simp] theorem State.advance_heldRead (s : State) (t : Nat) : (s.advance t).heldRead = s.heldRead := by rw [State.advance_same s t]
@[simp] theorem State.advance_pages (s : State) (t : Nat) : (s.advance t).pages = s.pages := by rw [State.advance_same s t]
@[simp] theorem State.advance_coh (s : State) (t : Nat) : (s.advance t).coh = s.coh := by rw [State.advance_same s t]
@[simp] theorem State.advance_sw (s : State) (t : Nat) : (s.advance t).sw = s.sw := by rw [State.advance_same s t]
@[simp] theorem State.advance_gwSet (s : State) (t : Nat) : (s.advance t).gwSet = s.gwSet := by rw [State.advance_same s t]
@[simp] theorem State.advance_pt (s : State) (t : Nat) : (s.advance t).pt = s.pt := by rw [State.advance_same s t]
@[simp] theorem State.advance_log (s : State) (t : Nat) : (s.advance t).log = s.log := by rw [State.advance_same s t]
@[simp] theorem State.advance_regions (s : State) (t : Nat) : (s.advance t).regions = s.regions := by rw [State.advance_same s t]
@[simp] theorem State.advance_viol (s : State) (t : Nat) : (s.advance t).viol = s.viol := by rw [State.advance_same s t]
@[simp] theorem State.advance_violLost (s : State) (t : Nat) : (s.advance t).violLost = s.violLost := by rw [State.advance_same s t]
@[simp] theorem State.advance_ifiles (s : State) (t : Nat) : (s.advance t).ifiles = s.ifiles := by rw [State.advance_same s t]
@[simp] theorem State.advance_resp (s : State) (t : Nat) : (s.advance t).resp = s.resp := by rw [State.advance_same s t]
@[simp] theorem State.advance_parts (s : State) (t : Nat) : (s.advance t).parts = s.parts := by rw [State.advance_same s t]
@[simp] theorem State.advance_dramc (s : State) (t : Nat) : (s.advance t).dramc = s.dramc := by rw [State.advance_same s t]
@[simp] theorem State.advance_mem (s : State) (t : Nat) : (s.advance t).mem = s.mem := by rw [State.advance_same s t]
@[simp] theorem State.advance_pool (s : State) (t : Nat) : (s.advance t).pool = s.pool := by rw [State.advance_same s t]
@[simp] theorem State.advance_eth (s : State) (t : Nat) : (s.advance t).eth = s.eth := by rw [State.advance_same s t]
@[simp] theorem State.advance_buses (s : State) (t : Nat) : (s.advance t).buses = s.buses := by rw [State.advance_same s t]
@[simp] theorem State.advance_inputs (s : State) (t : Nat) : (s.advance t).inputs = s.inputs := by rw [State.advance_same s t]
@[simp] theorem State.advance_gway (s : State) (t : Nat) : (s.advance t).gway = s.gway := by rw [State.advance_same s t]
@[simp] theorem State.advance_tpe (s : State) (t : Nat) : (s.advance t).tpe = s.tpe := by rw [State.advance_same s t]
@[simp] theorem State.advance_dma (s : State) (t : Nat) : (s.advance t).dma = s.dma := by rw [State.advance_same s t]
@[simp] theorem State.advance_ulf (s : State) (t : Nat) : (s.advance t).ulf = s.ulf := by rw [State.advance_same s t]
@[simp] theorem State.advance_pair (s : State) (t : Nat) : (s.advance t).pair = s.pair := by rw [State.advance_same s t]
@[simp] theorem State.advance_pwr (s : State) (t : Nat) : (s.advance t).pwr = s.pwr := by rw [State.advance_same s t]
@[simp] theorem State.advance_sec (s : State) (t : Nat) : (s.advance t).sec = s.sec := by rw [State.advance_same s t]
@[simp] theorem State.advance_upd (s : State) (t : Nat) : (s.advance t).upd = s.upd := by rw [State.advance_same s t]
@[simp] theorem State.advance_stor (s : State) (t : Nat) : (s.advance t).stor = s.stor := by rw [State.advance_same s t]
@[simp] theorem State.advance_free (s : State) (t : Nat) : (s.advance t).free = s.free := by rw [State.advance_same s t]
@[simp] theorem State.advance_pending (s : State) (t : Nat) : (s.advance t).pending = s.pending := by rw [State.advance_same s t]

@[simp] theorem State.gwOffer_hw (s : State) (e : GwEvent) : (s.gwOffer e).hw = s.hw := by rw [State.gwOffer_same s e]
@[simp] theorem State.gwOffer_clk (s : State) (e : GwEvent) : (s.gwOffer e).clk = s.clk := by rw [State.gwOffer_same s e]
@[simp] theorem State.gwOffer_staged (s : State) (e : GwEvent) : (s.gwOffer e).staged = s.staged := by rw [State.gwOffer_same s e]
@[simp] theorem State.gwOffer_held (s : State) (e : GwEvent) : (s.gwOffer e).held = s.held := by rw [State.gwOffer_same s e]
@[simp] theorem State.gwOffer_heldRead (s : State) (e : GwEvent) : (s.gwOffer e).heldRead = s.heldRead := by rw [State.gwOffer_same s e]
@[simp] theorem State.gwOffer_pages (s : State) (e : GwEvent) : (s.gwOffer e).pages = s.pages := by rw [State.gwOffer_same s e]
@[simp] theorem State.gwOffer_coh (s : State) (e : GwEvent) : (s.gwOffer e).coh = s.coh := by rw [State.gwOffer_same s e]
@[simp] theorem State.gwOffer_sw (s : State) (e : GwEvent) : (s.gwOffer e).sw = s.sw := by rw [State.gwOffer_same s e]
@[simp] theorem State.gwOffer_gwSet (s : State) (e : GwEvent) : (s.gwOffer e).gwSet = s.gwSet := by rw [State.gwOffer_same s e]
@[simp] theorem State.gwOffer_pt (s : State) (e : GwEvent) : (s.gwOffer e).pt = s.pt := by rw [State.gwOffer_same s e]
@[simp] theorem State.gwOffer_log (s : State) (e : GwEvent) : (s.gwOffer e).log = s.log := by rw [State.gwOffer_same s e]
@[simp] theorem State.gwOffer_regions (s : State) (e : GwEvent) : (s.gwOffer e).regions = s.regions := by rw [State.gwOffer_same s e]
@[simp] theorem State.gwOffer_viol (s : State) (e : GwEvent) : (s.gwOffer e).viol = s.viol := by rw [State.gwOffer_same s e]
@[simp] theorem State.gwOffer_violLost (s : State) (e : GwEvent) : (s.gwOffer e).violLost = s.violLost := by rw [State.gwOffer_same s e]
@[simp] theorem State.gwOffer_resp (s : State) (e : GwEvent) : (s.gwOffer e).resp = s.resp := by rw [State.gwOffer_same s e]
@[simp] theorem State.gwOffer_parts (s : State) (e : GwEvent) : (s.gwOffer e).parts = s.parts := by rw [State.gwOffer_same s e]
@[simp] theorem State.gwOffer_dramc (s : State) (e : GwEvent) : (s.gwOffer e).dramc = s.dramc := by rw [State.gwOffer_same s e]
@[simp] theorem State.gwOffer_mem (s : State) (e : GwEvent) : (s.gwOffer e).mem = s.mem := by rw [State.gwOffer_same s e]
@[simp] theorem State.gwOffer_load (s : State) (e : GwEvent) : (s.gwOffer e).load = s.load := by rw [State.gwOffer_same s e]
@[simp] theorem State.gwOffer_pool (s : State) (e : GwEvent) : (s.gwOffer e).pool = s.pool := by rw [State.gwOffer_same s e]
@[simp] theorem State.gwOffer_eth (s : State) (e : GwEvent) : (s.gwOffer e).eth = s.eth := by rw [State.gwOffer_same s e]
@[simp] theorem State.gwOffer_buses (s : State) (e : GwEvent) : (s.gwOffer e).buses = s.buses := by rw [State.gwOffer_same s e]
@[simp] theorem State.gwOffer_inputs (s : State) (e : GwEvent) : (s.gwOffer e).inputs = s.inputs := by rw [State.gwOffer_same s e]
@[simp] theorem State.gwOffer_tpe (s : State) (e : GwEvent) : (s.gwOffer e).tpe = s.tpe := by rw [State.gwOffer_same s e]
@[simp] theorem State.gwOffer_dma (s : State) (e : GwEvent) : (s.gwOffer e).dma = s.dma := by rw [State.gwOffer_same s e]
@[simp] theorem State.gwOffer_ulf (s : State) (e : GwEvent) : (s.gwOffer e).ulf = s.ulf := by rw [State.gwOffer_same s e]
@[simp] theorem State.gwOffer_pair (s : State) (e : GwEvent) : (s.gwOffer e).pair = s.pair := by rw [State.gwOffer_same s e]
@[simp] theorem State.gwOffer_pwr (s : State) (e : GwEvent) : (s.gwOffer e).pwr = s.pwr := by rw [State.gwOffer_same s e]
@[simp] theorem State.gwOffer_sec (s : State) (e : GwEvent) : (s.gwOffer e).sec = s.sec := by rw [State.gwOffer_same s e]
@[simp] theorem State.gwOffer_upd (s : State) (e : GwEvent) : (s.gwOffer e).upd = s.upd := by rw [State.gwOffer_same s e]
@[simp] theorem State.gwOffer_stor (s : State) (e : GwEvent) : (s.gwOffer e).stor = s.stor := by rw [State.gwOffer_same s e]
@[simp] theorem State.gwOffer_pending (s : State) (e : GwEvent) : (s.gwOffer e).pending = s.pending := by rw [State.gwOffer_same s e]

@[simp] theorem State.offerChans_hw (s : State) (o : State) : (s.offerChans o).hw = s.hw := by rw [State.offerChans_same s o]
@[simp] theorem State.offerChans_clk (s : State) (o : State) : (s.offerChans o).clk = s.clk := by rw [State.offerChans_same s o]
@[simp] theorem State.offerChans_staged (s : State) (o : State) : (s.offerChans o).staged = s.staged := by rw [State.offerChans_same s o]
@[simp] theorem State.offerChans_held (s : State) (o : State) : (s.offerChans o).held = s.held := by rw [State.offerChans_same s o]
@[simp] theorem State.offerChans_heldRead (s : State) (o : State) : (s.offerChans o).heldRead = s.heldRead := by rw [State.offerChans_same s o]
@[simp] theorem State.offerChans_pages (s : State) (o : State) : (s.offerChans o).pages = s.pages := by rw [State.offerChans_same s o]
@[simp] theorem State.offerChans_coh (s : State) (o : State) : (s.offerChans o).coh = s.coh := by rw [State.offerChans_same s o]
@[simp] theorem State.offerChans_sw (s : State) (o : State) : (s.offerChans o).sw = s.sw := by rw [State.offerChans_same s o]
@[simp] theorem State.offerChans_gwSet (s : State) (o : State) : (s.offerChans o).gwSet = s.gwSet := by rw [State.offerChans_same s o]
@[simp] theorem State.offerChans_pt (s : State) (o : State) : (s.offerChans o).pt = s.pt := by rw [State.offerChans_same s o]
@[simp] theorem State.offerChans_log (s : State) (o : State) : (s.offerChans o).log = s.log := by rw [State.offerChans_same s o]
@[simp] theorem State.offerChans_regions (s : State) (o : State) : (s.offerChans o).regions = s.regions := by rw [State.offerChans_same s o]
@[simp] theorem State.offerChans_viol (s : State) (o : State) : (s.offerChans o).viol = s.viol := by rw [State.offerChans_same s o]
@[simp] theorem State.offerChans_violLost (s : State) (o : State) : (s.offerChans o).violLost = s.violLost := by rw [State.offerChans_same s o]
@[simp] theorem State.offerChans_resp (s : State) (o : State) : (s.offerChans o).resp = s.resp := by rw [State.offerChans_same s o]
@[simp] theorem State.offerChans_parts (s : State) (o : State) : (s.offerChans o).parts = s.parts := by rw [State.offerChans_same s o]
@[simp] theorem State.offerChans_dramc (s : State) (o : State) : (s.offerChans o).dramc = s.dramc := by rw [State.offerChans_same s o]
@[simp] theorem State.offerChans_mem (s : State) (o : State) : (s.offerChans o).mem = s.mem := by rw [State.offerChans_same s o]
@[simp] theorem State.offerChans_load (s : State) (o : State) : (s.offerChans o).load = s.load := by rw [State.offerChans_same s o]
@[simp] theorem State.offerChans_pool (s : State) (o : State) : (s.offerChans o).pool = s.pool := by rw [State.offerChans_same s o]
@[simp] theorem State.offerChans_eth (s : State) (o : State) : (s.offerChans o).eth = s.eth := by rw [State.offerChans_same s o]
@[simp] theorem State.offerChans_buses (s : State) (o : State) : (s.offerChans o).buses = s.buses := by rw [State.offerChans_same s o]
@[simp] theorem State.offerChans_inputs (s : State) (o : State) : (s.offerChans o).inputs = s.inputs := by rw [State.offerChans_same s o]
@[simp] theorem State.offerChans_tpe (s : State) (o : State) : (s.offerChans o).tpe = s.tpe := by rw [State.offerChans_same s o]
@[simp] theorem State.offerChans_dma (s : State) (o : State) : (s.offerChans o).dma = s.dma := by rw [State.offerChans_same s o]
@[simp] theorem State.offerChans_ulf (s : State) (o : State) : (s.offerChans o).ulf = s.ulf := by rw [State.offerChans_same s o]
@[simp] theorem State.offerChans_pair (s : State) (o : State) : (s.offerChans o).pair = s.pair := by rw [State.offerChans_same s o]
@[simp] theorem State.offerChans_pwr (s : State) (o : State) : (s.offerChans o).pwr = s.pwr := by rw [State.offerChans_same s o]
@[simp] theorem State.offerChans_sec (s : State) (o : State) : (s.offerChans o).sec = s.sec := by rw [State.offerChans_same s o]
@[simp] theorem State.offerChans_upd (s : State) (o : State) : (s.offerChans o).upd = s.upd := by rw [State.offerChans_same s o]
@[simp] theorem State.offerChans_stor (s : State) (o : State) : (s.offerChans o).stor = s.stor := by rw [State.offerChans_same s o]
@[simp] theorem State.offerChans_pending (s : State) (o : State) : (s.offerChans o).pending = s.pending := by rw [State.offerChans_same s o]

end Sys2Proof.Machine
end

