-- ==== Sys2Proof/Laws/Exec.lean ====
section
/-! SUPPORT. How the frames of the meanings end: a module that is held keeps its state, an event has its effect at its
instant, and a write that is let through has its effect and is answered. -/

namespace Sys2Proof.Machine

theorem commandAt_held (t : Nat) (f : State → State) (s : State) (h : s.clk.held = true) :
    commandAt t f s = .next s := by
  unfold commandAt
  rw [if_pos h]

theorem commandAt_now (t : Nat) (f : State → State) (s : State) (h : s.clk.held = false) :
    commandAt t f s = .next (s.settle ((f (s.advance t)).offerChans (s.advance t))) := by
  unfold commandAt
  rw [if_neg (by rw [h]; exact Bool.false_ne_true)]

/-- Every command in a frame ends in a next state that keeps the queue and the hold. -/
theorem commandAt_next (t : Nat) (f : State → State) (s : State) :
    ∃ n, commandAt t f s = .next n ∧ n.pending = s.pending ∧ n.clk.held = s.clk.held := by
  cases h : s.clk.held with
  | true => exact ⟨s, commandAt_held t f s h, rfl, h⟩
  | false => exact ⟨_, commandAt_now t f s h, rfl, h⟩

theorem eventAt_now (t : Nat) (f : State → State) (s : State) (h : s.clk.held = false) :
    eventAt t f s = .next (s.settle ((f (s.advance t)).offerChans (s.advance t))) := commandAt_now t f s h

theorem writeTo_ok (a : Acc) (addr : Nat) (f : State → State) (s : State) (h : s.clk.held = false)
    (hc : (s.advance a.t).checkPage a addr true 4 = none) :
    writeTo a addr f s = .next (s.settle ((f (s.advance a.t).done).offerChans (s.advance a.t))) := by
  unfold writeTo
  rw [commandAt_now a.t _ s h]
  simp only [hc]

theorem writeTo_refused (a : Acc) (addr : Nat) (f : State → State) (s : State) (c : BusCause)
    (h : s.clk.held = false) (hc : (s.advance a.t).checkPage a addr true 4 = some c) :
    writeTo a addr f s = .next (s.settle ((s.advance a.t).violation a addr true c)) := by
  unfold writeTo
  rw [commandAt_now a.t _ s h]
  simp only [hc]
  rw [State.offerChans_none]
  exact congrArg LoadStage.chans (State.violation_load _ a addr true c)

@[simp] theorem driftClocks_held (s : State) (n : Nat) : (s.driftClocks n).clk.held = s.clk.held := rfl

@[simp] theorem runClocks_held (s : State) (n : Nat) : (s.runClocks n).clk.held = s.clk.held := rfl

@[simp] theorem runTo_held (s : State) (t : Nat) : (s.runTo t).clk.held = s.clk.held := by
  rw [State.runTo]
  split
  · exact rfl
  · split
    · exact driftClocks_held s _
    · exact runClocks_held s _

theorem advance_held (s : State) (t : Nat) : (s.advance t).clk.held = s.clk.held := by simp

/-- An event's effect, from what its meaning does. -/
theorem Effect.of_event {t : Nat} {c : Instr} {f : State → State} {pre : State → Prop} {post : State → State → Prop}
    (hx : ∀ s, exec c s = eventAt t f s)
    (hp : ∀ s b : State, pre b → post b (s.settle ((f b).offerChans b))) : Effect t c pre post := by
  intro s h hb
  exact ⟨_, (hx s).trans (eventAt_now t f s h), hp s _ hb⟩

/-- A write's effect, from what its meaning does. -/
theorem WriteEffect.of_write {a : Acc} {addr : Nat} {c : Instr} {f : State → State} {pre : State → Prop}
    {post : State → State → Prop} (hx : ∀ s, exec c s = writeTo a addr f s)
    (hp : ∀ s b : State, pre b → (s.settle ((f b.done).offerChans b)).resp = .ok 0 ∧
      post b (s.settle ((f b.done).offerChans b))) : WriteEffect a addr c pre post := by
  intro s h hb
  exact ⟨_, (hx s).trans (writeTo_ok a addr f s h hb.1), hp s _ hb.2⟩

end Sys2Proof.Machine
end

