-- ==== Sys2Proof/Laws/Memory.lean ====
section
/-! SUPPORT. Every operation on key-value lists and on memory keeps the canonical form, and a byte that is written reads back. -/

namespace Sys2Proof.Machine

namespace KMap

variable {α : Type}

theorem sorted_cons (k : Nat) (v : α) (t : KMap α) :
    sorted ((k, v) :: t) = true ↔ (∀ x ∈ t, k < x.1) ∧ sorted t = true := by
  induction t generalizing k v with
  | nil => simp [sorted]
  | cons y t ih =>
    obtain ⟨k', v'⟩ := y
    simp only [sorted, Bool.and_eq_true, decide_eq_true_eq, List.mem_cons, forall_eq_or_imp]
    constructor
    · intro h
      exact ⟨⟨h.1, fun x hx => Nat.lt_trans h.1 (((ih k' v').mp h.2).1 x hx)⟩, h.2⟩
    · intro h
      exact ⟨h.1.1, h.2⟩

theorem mem_put (m : KMap α) (i : Nat) (v : α) (x : Nat × α) (h : x ∈ put m i v) : x = (i, v) ∨ x ∈ m := by
  induction m with
  | nil => simpa [put] using h
  | cons y t ih =>
    obtain ⟨k, w⟩ := y
    unfold put at h
    split at h
    · simp only [List.mem_cons] at h ⊢; rcases h with h | h <;> simp [h]
    · split at h
      · simpa using h
      · simp only [List.mem_cons] at h ⊢
        rcases h with h | h
        · simp [h]
        · rcases ih h with h | h <;> simp [h]

theorem mem_del (m : KMap α) (i : Nat) (x : Nat × α) (h : x ∈ del m i) : x ∈ m ∧ x.1 ≠ i := by
  induction m with
  | nil => simp [del] at h
  | cons y t ih =>
    obtain ⟨k, w⟩ := y
    unfold del at h
    split at h
    · exact ⟨List.mem_cons_of_mem _ (ih h).1, (ih h).2⟩
    · rename_i hk
      simp only [List.mem_cons] at h ⊢
      rcases h with h | h
      · subst h; exact ⟨.inl rfl, hk⟩
      · exact ⟨.inr (ih h).1, (ih h).2⟩

theorem sorted_put (m : KMap α) (i : Nat) (v : α) (h : sorted m = true) : sorted (put m i v) = true := by
  induction m with
  | nil => simp [put, sorted]
  | cons y t ih =>
    obtain ⟨k, w⟩ := y
    have hc := (sorted_cons k w t).mp h
    unfold put
    split
    · rename_i e; subst e; exact (sorted_cons k v t).mpr hc
    · split
      · rename_i hlt
        refine (sorted_cons i v _).mpr ⟨?_, h⟩
        intro x hx
        rcases List.mem_cons.mp hx with hx | hx
        · subst hx; exact hlt
        · exact Nat.lt_trans hlt (hc.1 x hx)
      · rename_i hne hge
        refine (sorted_cons k w _).mpr ⟨?_, ih hc.2⟩
        intro x hx
        rcases mem_put t i v x hx with hx | hx
        · subst hx; show k < i; omega
        · exact hc.1 x hx

theorem sorted_del (m : KMap α) (i : Nat) (h : sorted m = true) : sorted (del m i) = true := by
  induction m with
  | nil => simp [del, sorted]
  | cons y t ih =>
    obtain ⟨k, w⟩ := y
    have hc := (sorted_cons k w t).mp h
    unfold del
    split
    · exact ih hc.2
    · exact (sorted_cons k w _).mpr ⟨fun x hx => hc.1 x (mem_del t i x hx).1, ih hc.2⟩

theorem sorted_keep (m : KMap α) (p : Nat → Bool) (h : sorted m = true) : sorted (keep m p) = true := by
  induction m with
  | nil => simp [keep, sorted]
  | cons y t ih =>
    obtain ⟨k, w⟩ := y
    have hc := (sorted_cons k w t).mp h
    simp only [keep, List.filter_cons]
    split
    · exact (sorted_cons k w _).mpr ⟨fun x hx => hc.1 x (List.mem_filter.mp hx).1, ih hc.2⟩
    · exact ih hc.2

variable [DecidableEq α]

theorem wf_iff (d : α) (m : KMap α) : wf d m = true ↔ sorted m = true ∧ ∀ x ∈ m, x.2 ≠ d := by
  simp [wf, List.all_eq_true]

/-- A write keeps the canonical form. -/
theorem wf_set (m : KMap α) (d : α) (i : Nat) (v : α) (h : wf d m = true) : wf d (set m d i v) = true := by
  have h := (wf_iff d m).mp h
  refine (wf_iff d _).mpr ?_
  unfold set
  split
  · exact ⟨sorted_del m i h.1, fun x hx => h.2 x (mem_del m i x hx).1⟩
  · rename_i hv
    refine ⟨sorted_put m i v h.1, fun x hx => ?_⟩
    rcases mem_put m i v x hx with hx | hx
    · subst hx; exact hv
    · exact h.2 x hx

theorem wf_keep (m : KMap α) (d : α) (p : Nat → Bool) (h : wf d m = true) : wf d (keep m p) = true := by
  have h := (wf_iff d m).mp h
  exact (wf_iff d _).mpr ⟨sorted_keep m p h.1, fun x hx => h.2 x (List.mem_filter.mp hx).1⟩

omit [DecidableEq α] in
@[simp] theorem get?_del_self (m : KMap α) (i : Nat) : get? (del m i) i = none := by
  induction m with
  | nil => simp [del, get?]
  | cons y t ih =>
    obtain ⟨k, w⟩ := y
    unfold del
    split
    · exact ih
    · rename_i h; simp [get?, h, ih]

omit [DecidableEq α] in
theorem get?_del_ne (m : KMap α) (i j : Nat) (h : j ≠ i) : get? (del m i) j = get? m j := by
  induction m with
  | nil => simp [del]
  | cons y t ih =>
    obtain ⟨k, w⟩ := y
    unfold del
    split
    · rename_i e; subst e
      have : ¬ k = j := fun e => h e.symm
      simp [get?, this, ih]
    · simp only [get?]
      split
      · rfl
      · exact ih

/-- What is written is read back. -/
@[simp] theorem get_set_self (m : KMap α) (d : α) (i : Nat) (v : α) : get (set m d i v) d i = v := by
  unfold set
  split
  · rename_i e; simp [get, e]
  · exact get_put_self m d i v

/-- A write leaves every other key. -/
theorem get_set_ne (m : KMap α) (d : α) (i j : Nat) (v : α) (h : j ≠ i) : get (set m d i v) d j = get m d j := by
  unfold set
  split
  · simp [get, get?_del_ne m i j h]
  · exact get_put_ne m d i j v h

end KMap

/-! ## Memory -/

theorem State.reset_memWf : memWf State.reset.mem = true := by decide

@[simp] theorem State.byteAt_setByte_self (s : State) (a : Nat) (b : Byte) : (s.setByte a b).byteAt a = b :=
  KMap.get_set_self s.mem memDefault a b

theorem State.byteAt_setByte_ne (s : State) (a x : Nat) (b : Byte) (h : x ≠ a) : (s.setByte a b).byteAt x = s.byteAt x :=
  KMap.get_set_ne s.mem memDefault a x b h

theorem State.setByte_memWf (s : State) (a : Nat) (b : Byte) (h : memWf s.mem = true) : memWf (s.setByte a b).mem = true :=
  KMap.wf_set s.mem memDefault a b h

theorem State.writeBytes_memWf (s : State) (a : Nat) (l : List Byte) (h : memWf s.mem = true) :
    memWf (s.writeBytes a l).mem = true := by
  induction l generalizing s a with
  | nil => exact h
  | cons b t ih => exact ih (s.setByte a b) (a + 1) (s.setByte_memWf a b h)

theorem State.writeNum_memWf (s : State) (a n v : Nat) (h : memWf s.mem = true) : memWf (s.writeNum a n v).mem = true :=
  s.writeBytes_memWf a _ h

/-! ## Registers -/

@[simp] theorem State.reg_setReg_self (s : State) (a : Nat) (w : Word) : (s.setReg a w).reg a = w :=
  KMap.get_set_self s.regs (regReset a) a w

theorem State.setReg_sorted (s : State) (a : Nat) (w : Word) (h : KMap.sorted s.regs = true) :
    KMap.sorted (s.setReg a w).regs = true := by
  show KMap.sorted (KMap.set s.regs (regReset a) a w) = true
  unfold KMap.set
  split
  · exact KMap.sorted_del _ _ h
  · exact KMap.sorted_put _ _ _ h

theorem State.reg_setReg_ne (s : State) (a x : Nat) (w : Word) (h : x ≠ a) : (s.setReg a w).reg x = s.reg x := by
  show KMap.get (KMap.set s.regs (regReset a) a w) (regReset x) x = KMap.get s.regs (regReset x) x
  unfold KMap.set
  split
  · simp [KMap.get, KMap.get?_del_ne _ a x h]
  · exact KMap.get_put_ne _ _ _ _ _ h

end Sys2Proof.Machine
end

