-- ==== Sys2Proof/Machine/Pins.lean ====
section
/-! DEFINITION. The places of the module's signals on its studs and connectors, and the derating of the ratings (spec/18,
R432 to R438, R451). No command reads them: they say which contact a pin operand of a command belongs to. -/

namespace Sys2Proof.Machine

/-- What a stud or a contact carries. -/
inductive Signal where
  | feed (n : Nat) | feedGround (n : Nat) | channel (c : Nat) | loadGround (bank : Nat)
  | ain (n : Nat) | din (n : Nat) | fin (n : Nat) | ssup (n : Nat) | sensorGround (page : Nat)
  | canH (n : Nat) | canL (n : Nat) | lin (n : Nat)
  | port (n : Nat) | portPositive (n : Nat) | portNegative (n : Nat)
  | wake (n : Nat) | win (n : Nat) | authOut | authIn | pairId | pairMode | resetN | signalGround
  | uloftTx (lane : Nat) | uloftRx (lane : Nat)
  | tck | tms | tdi | tdo | trstN | svcTxd | svcRxd | svcVref | testGround
  | notConnected
  deriving DecidableEq, Repr

/-- The twelve studs (R432). -/
def studs : List Signal :=
  [.feed 0, .feed 1, .feedGround 0, .feedGround 1]
    ++ ((List.range 128).filter (fun c => chClass c = 0)).map Signal.channel

/-- Contact positions of connector J1 to J11 (R434). -/
def positions : Nat → Nat
  | 1 => 48 | 2 => 48 | 3 => 48 | 4 => 48 | 5 => 96 | 6 => 96 | 7 => 64 | 8 => 8 | 9 => 2 | 10 => 4 | 11 => 12
  | _ => 0

/-- Load connector of a bank (R435). -/
def loadContact (bank pos : Nat) : Signal :=
  if pos ≤ 12 then .channel (32 * bank + 2 + (pos - 1) / 2)
  else if pos ≤ 36 then .channel (32 * bank + (pos - 5))
  else if pos ≤ 44 then .loadGround bank
  else .notConnected

/-- The 48 positions of an input page, from 0 (R436). -/
def sensorContact (page r : Nat) : Signal :=
  if r < 16 then .ain (16 * page + r)
  else if r < 40 then .din (24 * page + (r - 16))
  else if r < 44 then .fin (4 * page + (r - 40))
  else if r < 46 then .ssup (2 * page + (r - 44))
  else .sensorGround page

/-- J7 (R437). -/
def busContact (pos : Nat) : Signal :=
  if pos ≤ 24 then (if pos % 2 = 1 then .canH ((pos - 1) / 2) else .canL ((pos - 1) / 2))
  else if pos ≤ 32 then .lin (pos - 25)
  else if pos ≤ 40 then (if pos % 2 = 1 then .portPositive (18 + (pos - 33) / 2) else .portNegative (18 + (pos - 33) / 2))
  else if pos ≤ 48 then .port (10 + (pos - 41))
  else if pos ≤ 50 then .wake (pos - 49)
  else if pos ≤ 54 then .win (pos - 51)
  else match pos with
    | 55 => .authOut | 56 => .authIn | 57 => .pairId | 58 => .pairMode | 59 => .resetN | _ => .signalGround

/-- J11 (R438). -/
def testContact : Nat → Signal
  | 1 => .tck | 2 => .tms | 3 => .tdi | 4 => .tdo | 5 => .trstN | 6 => .svcTxd | 7 => .svcRxd | 8 => .svcVref
  | 9 => .testGround | 10 => .testGround | _ => .notConnected

/-- The signal of position `pos` of connector J`j`, where there is one (R434 to R438). -/
def signalAt (j pos : Nat) : Option Signal :=
  if pos = 0 || positions j < pos then none
  else if j ≤ 4 then some (loadContact (j - 1) pos)
  else if j ≤ 6 then some (sensorContact (2 * (j - 5) + (pos - 1) / 48) ((pos - 1) % 48))
  else if j = 7 then some (busContact pos)
  else if j = 8 then some (.port (pos + 1))
  else if j = 9 then some (.port (pos - 1))
  else if j = 10 then some (if pos ≤ 2 then .uloftTx (pos - 1) else .uloftRx (pos - 3))
  else some (testContact pos)

/-- A rating in mA derated at a reference temperature in °C by 1 − (T_ref − 85) / 80; the module itself does not apply it
(R451). -/
def derated (ma tref : Nat) : Nat := if tref ≤ 85 then ma else ma * (80 - (tref - 85)) / 80

end Sys2Proof.Machine
end

