-- ==== Sys2Proof/Tests/Slice0.lean ====
section
/-! SUPPORT. The model's own tests: for every statement a state and operands that meet its hypotheses, clause by clause; an
ill-formed command for every check of WellFormed; and results worked out by hand from the spec. -/

namespace Sys2Proof.Tests

open Sys2Proof Sys2Proof.Machine

set_option linter.unusedVariables false
set_option maxRecDepth 100000
set_option Elab.async false

/-! ## The states of the tests -/

def acc0 : Acc := { t := 10000000, part := 0, req := 0 }
def st : State := State.reset
def cfgChan (c : Nat) (ctrl : Word) (x : Chan) : State :=
  ({ (((st.setReg (R.LSC_CTRL c) ctrl).setReg (R.LSC_WIRE_K c) 0xFA00).setReg (R.LSC_WIRE_T c) 0x115E).setReg (R.LSC_PROT c) 0 with
     load := { clockOn := true } } : State).setChan c x
def sw1 : State := (st.setReg (R.SWC_CTRL) 1 |>.setReg (R.SWP_PORT_CFG 3) 0x05F20001).setPort 3 { up := true, rate := 2 }
def txP : Packet := { writer := 7, data := List.replicate 60 1, copy := some { frame := 0, len := 64, charge := 1, port := 4 } }
def txS : State := { (sw1.setQueue 29 { visible := [txP] }) with pool := { (sw1.setQueue 29 { visible := [txP] }).pool with nextFrame := 1, frames := [(0, { cells := [0] })] } }
def txP2 : Packet := { txP with claimed := true, copy := txP.copy.map (fun m => { m with begun := true }) }
def txE : State := (txS.setQueue 29 { visible := [txP2] }).setPort 3 { up := true, rate := 2, sending := some 5 }
def laP : Packet := { txP with copy := txP.copy.map (fun m => { m with eligible := false, launch := some (500, false) }) }
def laS : State := txS.setQueue 29 { visible := [laP] }
def txqP : Packet := { data := leBytes 8 0 ++ leBytes 2 14 ++ [(3 : Byte), 0] ++ leBytes 4 0 ++ List.replicate 14 7 }
def txqS : State := (st.setReg (R.PTP_QUEUES 1) (word (700 * 65536))).setQueue 700 { visible := [txqP] }
def qp : Packet := { data := List.replicate 40 1, cells := [0] }
def dmS : State × DmaMove :=
  let s := ((((st.setDchan 20 { state := .running, pc := 4 }).writeNum 0x22F05040 4 0x19001000).writeNum 0x22F05044 4 0x01020304).writeNum 0x22F05048 4 700).writeNum 0x22F0504C 4 40
  (s, (s.dchan 20).moveOf (s.dmaWord 20 0) (s.dmaWord 20 1) (s.dmaWord 20 2) (s.dmaWord 20 3) none)
def gwE : GwEvent := { kind := 1, direct := some 5, data := [0x20, 2] }
def gwM : KMap Word := [(0x30400054, 0x40000000), (0x30400058, 700), (0x30402BC0, 0x00000E00), (0x30402BC4, 0x98000000), (0x30402BC8, 0x30022000), (0x30402BCC, 0x00010000)]
def gwS : State := { (st.setReg R.GW_CTRL 1).setReg (R.GW_GROUP_EN 0) 1 with gwSet := { copy0 := gwM, copy1 := gwM }, gway := { queue := [gwE] } }
def gwJ : RouteJob := { event := gwE, source := 5, entry := 700, colour := false, owner := 0, group := 0 }
def gwS2 : State := { gwS with gway := { jobs := [gwJ] } }
def tpP : Packet := { data := leBytes 8 0 ++ leBytes 4 0xEE00 ++ [(0x21 : Byte), 0x33] ++ leBytes 2 0 ++ leBytes 4 10 ++ leBytes 4 0 ++ List.replicate 10 1 }
def tpS : State := ((((st.setReg R.TPE_CTRL 1).setReg R.TPE_BUF_HI 8).setReg (R.TPE_CHCFG 3) 0x81000009).setReg (R.TPE_CHADDR 3) 0x21 |>.setReg (R.TPE_CHQ 3) (word (700 + 701 * 65536))).setQueue 701 { visible := [tpP] }
def zspS (body : List Byte) (z : ZspState) : State :=
  { ((((st.setReg R.PWR_CFG 0x10).setReg R.PWR_ZSP_CFG 0x4000).setReg R.PWR_ZSP_CAN 0x03090000).setMb 3 9
      { code := .rxFull, words := classicWords 0x18FF0000 body [] }) with pwr := { zsp := { state := z } } }
def ulfS (u : Ulf) : State := { (st.setReg R.ULF_CTRL 0x03E80001) with hw := { st.hw with paired := true }, ulf := u }
def ulfUp : Ulf := { state := .up, lock := 3, credP := 9, credNp := 9, credC := 9, credT := 9, credPr := 9 }
def flF : List Byte := leBytes 8 (4 + 4096 + 77 * 2 ^ 48) ++ leBytes 8 (3 * 2 ^ 36) ++ List.replicate 56 0
def flG : List Byte := leBytes 8 (4 + 5 * 4096) ++ List.replicate 64 0
def prS (x : Pair) (u : Ulf) : State :=
  { ((st.setReg R.PAIR_CFG 1).setReg R.ULF_CTRL 0x03E80001).setReg (R.PAIR_PCFG 3) 0x80000000 with
    hw := { st.hw with paired := true }, parts := { table := [(0, { state := .running }), (3, { state := .running })] }, pair := x, ulf := u }
def prU (m : PairMsg) : Ulf := { ulfUp with msgs := [m] }
def prR (r : Role) : Pair := { parts := [(3, { role := r })] }
def prC (m : PairMsg) (c : PendingCommit) : State :=
  { prS { prR .active with contact := true, leased := true, pSynced := 8, pHealthy := 8 } (prU m) with coh := { (prS {} {}).coh with banks := [(3, { pending := some c })] } }
def upS (r : ActRecord) : State := { st with upd := { copy0 := { r with seq := 9 } } }
def upM (n : Nat) : List Byte := List.replicate n 0 ++ [1]
def jP : Packet := { data := List.replicate 128 4, cells := [0] }
def jS : State := (st.setReg R.STOR_JCFG 0x800002BC).setQueue 700 { visible := [jP] }

def canP : Packet := { data := List.replicate 12 0 ++ leBytes 4 2 ++ List.replicate 8 0 ++ [7, 8] }
def canQ : State := ((st.setReg (R.CAN_TXSCFG 9) 0x800002BC).setQueue 700 { visible := [canP] }).setCan 9 { ctrl := 1, ready := some 0 }

def txqB : State := (st.setReg (R.PTP_QUEUES 1) (word (700 * 65536))).setQueue 700 { visible := [jP] }
def p25P : Packet := { data := List.replicate 40 1, copy := some { frame := 0, len := 44, charge := 1, port := 4 } }
def mcM : KMap Word := [(0x30601C00, 0), (0x30601C04, 8), (0x30601C08, 16), (0x30601C0C, 0x80000013)]
def mcS : State := { prS (prR .standby) ulfUp with pt := { copy0 := mcM, copy1 := mcM } }
def crS (u : Ulf) : State :=
  let s := prC { kind := 1 } { time := 1000000, all := false, pairMode := true, stage := .prepared }
  { s with hw := { s.hw with unitId := 1 }, ulf := u, pair := { prR .standby with contact := true, leased := true, pActive := 8 } }
def jtS (u : Ulf) : State :=
  let s := prS { contact := true } u
  { s with hw := { s.hw with unitId := 1 }, coh := { s.coh with banks := [(0, { pending := some { time := 5000000, all := true, pairMode := true } })] } }

/-! ## Hypotheses that are met -/

theorem test_meets_clockSlewAndStep :
    (∃ (a : Acc) (d : Fin 2) (s : State), s.clk.held = false ∧ (s.advance a.t).checkPage a (R.PTP_CMD d) true 4
        = none)
    ∧ (∃ (a : Acc) (d : Fin 2) (s : State), s.clk.held = false ∧ (s.advance a.t).checkPage a (R.PTP_CMD d) true 4
        = none)
    ∧ (∃ (a : Acc) (d : Fin 2) (rate : Word) (s : State), s.clk.held = false ∧ (s.advance a.t).checkPage a
        (R.PTP_RATE d) true 4 = none) :=
  ⟨⟨acc0, 1, st.setDom 1 { adjOfs := 0xFFFFFFF0 }, by decide +kernel⟩,
   ⟨acc0, 0, st.setDom 0 { adjOfs := 0xFFFFFFF0, slewLeft := 7 }, by decide +kernel⟩,
   ⟨acc0, 1, 0x80000000, st, by decide +kernel⟩⟩

theorem test_meets_clockStates :
    (∃ (a : Acc) (d : Fin 2) (s : State), s.clk.held = false ∧ (s.advance a.t).checkPage a (R.PTP_CMD d) true 4
        = none ∧ (s.advance a.t).domEn d = true)
    ∧ (∃ (a : Acc) (d : Fin 2) (s : State), s.clk.held = false ∧ (s.advance a.t).checkPage a (R.PTP_CMD d) true 4
        = none ∧ ((s.advance a.t).dom d).state = .synced)
    ∧ (∃ (a : Acc) (d : Fin 2) (s : State), s.clk.held = false ∧ (s.advance a.t).checkPage a (R.PTP_CMD d) true 4
        = none)
    ∧ (∃ (t : Nat) (d : Fin 2) (s : State), s.clk.held = false ∧ ((s.advance t).dom d).state = .synced ∧
        (s.advance t).regF (R.PTP_CFG d) 31 16 ≠ 0 ∧ ((s.advance t).dom d).lastAdjust + (s.advance t).regF
        (R.PTP_CFG d) 31 16 * 1000000 ≤ (s.advance t).clk.lt)
    ∧ (∃ (t : Nat) (d : Fin 2) (s : State), s.clk.held = false ∧ ((s.advance t).dom d).state = .holdover ∧
        (s.advance t).regF (R.PTP_CFG d) 15 8 ≠ 0 ∧ ((s.advance t).dom d).holdSince + (s.advance t).regF
        (R.PTP_CFG d) 15 8 * 1000000000 ≤ (s.advance t).clk.lt)
    ∧ (∃ (t : Nat) (s : State), s.clk.held = false ∧ (s.advance t).clk.switching = true ∧ (s.advance t).clk.phase
        = 0) :=
  ⟨⟨acc0, 1, st.setReg (R.PTP_CFG 1) 1, by decide +kernel⟩,
   ⟨acc0, 0, st.setDom 0 { state := .synced }, by decide +kernel⟩,
   ⟨acc0, 0, st.setDom 0 { stamps := [⟨3, 0, 9, 50⟩] }, by decide +kernel⟩,
   ⟨1000000000, 1, st.setDom 1 { state := .synced }, by decide +kernel⟩,
   ⟨20000000000, 0, st.setDom 0 { state := .holdover }, by decide +kernel⟩,
   ⟨50, { st with clk := { switching := true } }, by decide +kernel⟩⟩

theorem test_meets_shortCircuit :
    (∃ (t : Nat) (ch : Fin 128) (ma : Int) (s : State), s.clk.held = false ∧ ((s.advance t).chan ch).conducting
        = true ∧ (chTripMa ch : Int) ≤ ma.natAbs)
    ∧ (∃ (t : Nat) (bank : Fin 4) (s : State), s.clk.held = false ∧ ((s.advance t).lbank bank).scWindow.any (fun
        e => e ≤ (s.advance t).clk.lt) = true) :=
  ⟨⟨100, 90, 18000, st.setChan 90 { st := .on }, by decide +kernel⟩,
   ⟨300, 2, st.setLbank 2 { scWindow := some 250 }, by decide +kernel⟩⟩

theorem test_meets_thermalTrips :
    (∃ (t : Nat) (ch : Fin 128) (tj : Int) (s : State), s.clk.held = false ∧ ((s.advance t).chan ch).st ≠
        .tripped ∧ 1360 ≤ tj)
    ∧ (∃ (t : Nat) (ch : Fin 128) (ma : Int) (s : State), s.clk.held = false ∧ ((s.advance t).chan ch).conducting
        = true ∧ ma < -(chReverseMa ch : Int)) :=
  ⟨⟨100, 7, 1360, st.setChan 7 { st := .on }, by decide +kernel⟩,
   ⟨100, 90, -301, st.setChan 90 { st := .on }, by decide +kernel⟩⟩

theorem test_meets_inrushBursts :
    (∃ (t : Nat) (ch : Fin 128) (ma : Int) (s : State), s.clk.held = false ∧ ((s.advance t).chan ch).st =
        .inrush ∧ (s.advance t).inrIlimMa ch ≤ ma.natAbs ∧ ((s.advance t).chan ch).burstAt + (s.advance
        t).inrLimNs ch ≤ (s.advance t).clk.lt ∧ (s.advance t).inWindow ch = false)
    ∧ (∃ (t : Nat) (ch : Fin 128) (ma : Int) (s : State), s.clk.held = false ∧ ((s.advance t).chan ch).st =
        .inrush ∧ (s.advance t).inrIlimMa ch ≤ ma.natAbs ∧ ((s.advance t).chan ch).burstAt + (s.advance
        t).inrLimNs ch ≤ (s.advance t).clk.lt ∧ (s.advance t).inWindow ch = true)
    ∧ (∃ (t : Nat) (ch : Fin 128) (s : State), s.clk.held = false ∧ ((s.advance t).chan ch).st = .retryWait ∧
        ((s.advance t).chan ch).burstAt + (s.advance t).inrOffNs ch ≤ (s.advance t).clk.lt)
    ∧ (∃ (t : Nat) (ch : Fin 128) (ma : Int) (s : State), s.clk.held = false ∧ ((s.advance t).chan ch).st =
        .inrush ∧ ((s.advance t).chan ch).burstAt + 976562 ≤ (s.advance t).clk.lt ∧ ma.natAbs < (s.advance
        t).inrIlimMa ch ∧ ((s.advance t).chan ch).lease ≠ .expired)
    ∧ (∃ (t : Nat) (ch : Fin 128) (ma : Int) (s : State), s.clk.held = false ∧ ((s.advance t).chan ch).st =
        .inrush ∧ ((s.advance t).chan ch).burstAt + 976562 ≤ (s.advance t).clk.lt ∧ ma.natAbs < (s.advance
        t).inrIlimMa ch ∧ ((s.advance t).chan ch).lease = .expired) :=
  ⟨⟨2000000, 91, -200000, st.setChan 91 { st := .inrush }, by decide +kernel⟩,
   ⟨2000000, 91, 200000, (st.setChan 91 { st := .inrush }).setLbank 2 { scWindow := some 3000000 }, by decide +kernel⟩,
   ⟨100000000, 3, st.setChan 3 { st := .retryWait }, by decide +kernel⟩,
   ⟨1000000, 34, 50, (cfgChan 34 2 { st := .inrush, lease := .running }), by decide +kernel⟩,
   ⟨1000000, 34, 50, (cfgChan 34 2 { st := .inrush, lease := .expired }), by decide +kernel⟩⟩

theorem test_meets_undervoltageHold :
    (∃ (t : Nat) (bank : Fin 4) (mv : Nat) (s : State), s.clk.held = false ∧ mv < (s.advance t).offMv bank ∧
        ((s.advance t).lbank bank).uv = false)
    ∧ (∃ (t : Nat) (bank : Fin 4) (mv : Nat) (s : State), s.clk.held = false ∧ ((s.advance t).lbank bank).uv =
        true ∧ ((s.advance t).lbank bank).stagger = false)
    ∧ (∃ (t : Nat) (bank : Fin 4) (s : State), s.clk.held = false ∧ ((s.advance t).lbank bank).uv = true ∧
        ((s.advance t).lbank bank).settling.any (fun x => x + (s.advance t).settleNs bank ≤ (s.advance t).clk.lt)
        = true)
    ∧ (∃ (t : Nat) (bank : Fin 4) (s : State), s.clk.held = false ∧ ((s.advance t).lbank bank).uv = true ∧
        ((s.advance t).lbank bank).stagger = true ∧ ((s.advance t).lbank bank).lastStep + (s.advance t).stepNs
        bank ≤ (s.advance t).clk.lt) :=
  ⟨⟨60000, 1, 13100, st.setChan 34 { st := .on }, by decide +kernel⟩,
   ⟨60000, 1, 16400, st.setLbank 1 { uv := true }, by decide +kernel⟩,
   ⟨10000000, 1, (st.setLbank 1 { uv := true, settling := some 0 }).setChan 34 { st := .uvHeld }, by decide +kernel⟩,
   ⟨10000000, 1, (st.setLbank 1 { uv := true, stagger := true }).setChan 34 { st := .uvHeld }, by decide +kernel⟩⟩

theorem test_meets_openLoadAndBackfeed :
    (∃ (t : Nat) (s : State), s.clk.held = false ∧ (s.advance t).load.clockOn = true ∧ (s.advance t).load.steps
        ≠ 0 ∧ (s.advance t).load.steps % 1024 = 0)
    ∧ (∃ (t : Nat) (s : State), s.clk.held = false ∧ (s.advance t).load.clockOn = true ∧ (s.advance t).load.olAt
        + 2000000 ≤ (s.advance t).clk.lt)
    ∧ (∃ (t : Nat) (ch : Fin 128) (vout : Int) (s : State), s.clk.held = false ∧ ((s.advance t).chan ch).st =
        .off ∧ 800 ≤ vout)
    ∧ (∃ (t : Nat) (ch : Fin 128) (vout : Int) (s : State), s.clk.held = false ∧ ((s.advance t).chan ch).st =
        .backfed ∧ vout < 600)
    ∧ (∃ (t : Nat) (ch : Fin 128) (vout : Int) (mv : Nat) (s : State), s.clk.held = false ∧ ((s.advance t).chan
        ch).closeWait = true ∧ vout * 10 ≤ (mv : Int) + 1000 ∧ ((s.advance t).effCmd ch).1.mode = .on ∧ (s.advance
        t).inrEn ch = false ∧ ((s.advance t).chan ch).lease ≠ .expired ∧ ((s.advance t).chan ch).st ≠ .pwm ∧
        (((s.advance t).chan ch).st = .leaseSafe → ((s.advance t).chan ch).safePending = false))
    ∧ (∃ (t : Nat) (ch : Fin 128) (vout : Int) (mv : Nat) (s : State), s.clk.held = false ∧ ((s.advance t).chan
        ch).closeWait = true ∧ vout * 10 ≤ (mv : Int) + 1000 ∧ (s.advance t).wantsOn ch = true ∧ ((s.advance
        t).chan ch).st = .off ∧ (s.advance t).inrEn ch = true)
    ∧ (∃ (t : Nat) (ch : Fin 128) (vout : Int) (mv : Nat) (s : State), s.clk.held = false ∧ (mv : Int) + 1000 <
        vout * 10)
    ∧ (∃ (a : Acc) (ch : Fin 128) (s : State), s.clk.held = false ∧ (s.advance a.t).checkPage a (R.LSC_TRIP_ACK
        ch) true 4 = none ∧ ((s.advance a.t).chan ch).st = .tripped)
    ∧ (∃ (a : Acc) (ch : Fin 128) (key : Byte) (s : State), s.clk.held = false ∧ (s.advance a.t).checkPage a
        (R.LSC_TRIP_ACK ch) true 4 = none) :=
  ⟨⟨5, { st.setReg (R.LSC_PROT 3) 0x1000 with load := { clockOn := true, steps := 1024 } }, by decide +kernel⟩,
   ⟨2000005, ({ st.setReg (R.LSC_VOUT 3) 400 with load := { clockOn := true } } : State).setChan 3 { olCheck := true }, by decide +kernel⟩,
   ⟨5, 9, 800, st, by decide +kernel⟩,
   ⟨5, 9, 599, st.setChan 9 { st := .backfed }, by decide +kernel⟩,
   ⟨5, 9, 100, 24000, cfgChan 9 1 { closeWait := true, lease := .running }, by decide +kernel⟩,
   ⟨5, 9, 100, 24000, (cfgChan 9 1 { closeWait := true, lease := .running }).setReg (R.LSC_PROT 9) 8, by decide +kernel⟩,
   ⟨5, 9, 3000, 24000, st.setChan 9 { closeWait := true }, by decide +kernel⟩,
   ⟨acc0, 5, st.setChan 5 { st := .tripped, cause := 1 }, by decide +kernel⟩,
   ⟨acc0, 5, 0x5A, st.setChan 5 { lockout := true }, by decide +kernel⟩⟩

theorem test_meets_modelSteps :
    (∃ (t : Nat) (chans : List ChanSample) (banks : List BankSample) (s : State), s.clk.held = false ∧
        (s.advance t).load.clockOn = true)
    ∧ (∃ (t : Nat) (feed : Fin 2) (s : State), s.clk.held = false ∧ (s.advance t).cfgB (R.LSB_FEED_CFG (2 *
        feed)) 31 = true ∧ (((s.advance t).feedSt feed).restoring = false ∨ ((s.advance t).feedSt
        feed).lastRestore + (s.advance t).stepNs (2 * feed) ≤ (s.advance t).clk.lt) ∧ (s.advance t).restoreList
        feed ≠ [])
    ∧ (∃ (t : Nat) (s : State), s.clk.held = false ∧ (s.advance t).load.clockOn = false ∧ ((s.advance
        t).load.startOwed.isSome || (s.advance t).clockNeeded) = true)
    ∧ (∃ (t : Nat) (s : State), s.clk.held = false ∧ (s.advance t).load.clockOn = true ∧ (s.advance
        t).clockNeeded = false ∧ (s.advance t).load.neededAt + 1000000000 ≤ (s.advance t).clk.lt) :=
  ⟨⟨5, [⟨9, 30000, 900000000, 2400, 0, 30000, none, 0, 0, none, 0⟩], [⟨0, 24000⟩], cfgChan 9 1 { st := .on }, by decide +kernel⟩,
   ⟨5000, 0, ((cfgChan 9 1 { st := .tripped, cause := 8, lease := .running }).setReg (R.LSB_FEED_CFG 0) 0x80000000).setFeed 0 { restoring := true, todo := [9], lastRestore := 0 } |>.setReg (R.LSB_STAGGER 0) 0 |> (fun s => { s with clk := { lt := 200000 } }), by decide +kernel⟩,
   ⟨50, { st.setChan 9 { rise := 900000000 } with load := { (st.setChan 9 { rise := 900000000 }).load with startOwed := some 5 } }, by decide +kernel⟩,
   ⟨1000000000, { st with load := { clockOn := true } }, by decide +kernel⟩⟩

theorem test_meets_outputCommands :
    (∃ (t : Nat) (ch : Fin 128) (s : State), s.clk.held = false ∧ (s.advance t).load.clockOn = true ∧
        ((s.advance t).chan ch).st = .on ∧ ((s.advance t).chan ch).renewals = [] ∧ ((s.advance t).chan ch).lease ≠
        .expired ∧ ((s.advance t).effCmd ch).1.mode = .off)
    ∧ (∃ (t : Nat) (ch : Fin 128) (s : State), s.clk.held = false ∧ (s.advance t).load.clockOn = true ∧
        ((s.advance t).chan ch).st = .off ∧ ((s.advance t).chan ch).renewals = [] ∧ ((s.advance t).chan ch).lease
        = .running ∧ ((s.advance t).effCmd ch).1.mode = .on ∧ (s.advance t).inrEn ch = false ∧ (s.advance
        t).closeOk ch = true)
    ∧ (∃ (t : Nat) (gen : Fin 16) (s : State), s.clk.held = false ∧ (s.advance t).load.clockOn = true ∧
        ((s.advance t).pgenSt gen).cycle + ((s.advance t).pgenSt gen).period ≤ (s.advance t).cycleAt (s.advance
        t).clk.lt)
    ∧ (∃ (t : Nat) (ch : Fin 128) (s : State), s.clk.held = false ∧ (s.advance t).load.clockOn = true ∧
        ((s.advance t).chan ch).out.mode = .pwm)
    ∧ (∃ (t : Nat) (ch : Fin 128) (s : State), s.clk.held = false ∧ ((s.advance t).chan ch).lease = .running ∧
        ((s.advance t).chan ch).left = 0)
    ∧ (∃ (t : Nat) (ch : Fin 128) (s : State), s.clk.held = false ∧ ((s.advance t).chan ch).lease = .running ∧
        ((s.advance t).chan ch).left = 0 ∧ ((s.advance t).chan ch).st = .on ∧ (s.advance t).cfgInvalid ch = false
        ∧ (s.advance t).regF (R.LSC_LEASE ch) 17 16 = 0)
    ∧ (∃ (a : Acc) (page : Fin 16) (mask : Byte) (s : State), s.clk.held = false ∧ (s.advance a.t).checkPage a
        (R.LSC_RENEW_MASK page) true 4 = none)
    ∧ (∃ (a : Acc) (page : Fin 16) (mask : Byte) (s : State), s.clk.held = false ∧ (s.advance a.t).checkPage a
        (R.LSC_RENEW_MASK page) true 4 = none) :=
  ⟨⟨500, 34, cfgChan 34 0 { st := .on, lease := .running }, by decide +kernel⟩,
   ⟨500, 34, cfgChan 34 1 { lease := .running }, by decide +kernel⟩,
   ⟨20000000, 3, { st with load := { clockOn := true } }, by decide +kernel⟩,
   ⟨20000000, 34, cfgChan 34 2 { st := .pwm, out := ⟨.pwm, 400, 0⟩, pulses := [(5, 9)] }, by decide +kernel⟩,
   ⟨976563, 34, st.setChan 34 { lease := .running }, by decide +kernel⟩,
   ⟨976563, 34, cfgChan 34 1 { st := .on, lease := .running }, by decide +kernel⟩,
   ⟨acc0, 4, 5, st, by decide +kernel⟩,
   ⟨acc0, 4, 5, st, by decide +kernel⟩⟩

theorem test_meets_tagInterrogation :
    (∃ (a : Acc) (ch : Fin 128) (s : State), s.clk.held = false ∧ (s.advance a.t).checkPage a (R.LSC_ID_CMD ch)
        true 4 = none)
    ∧ (∃ (t : Nat) (ch : Fin 128) (s : State), s.clk.held = false ∧ (s.advance t).regF (R.LSC_ID_CFG ch) 23 16 ≠
        0 ∧ (s.advance t).regB (R.LSC_ID_CFG ch) 1 = true ∧ ((s.advance t).chan ch).lastInterrog + (s.advance
        t).regF (R.LSC_ID_CFG ch) 23 16 * 1000000000 ≤ (s.advance t).clk.lt)
    ∧ (∃ (t : Nat) (ch : Fin 128) (s : State), s.clk.held = false ∧ ((s.advance t).lbank (ch / 32)).interrog =
        none ∧ (s.advance t).tagReady ch = true ∧ (List.range (ch % 32)).any (fun k => (s.advance t).tagReady (ch
        / 32 * 32 + k)) = false)
    ∧ (∃ (t : Nat) (ch : Fin 128) (frame : List Byte) (id type : Nat) (s : State), s.clk.held = false ∧
        (s.advance t).tagBusy ch = true ∧ tagFrame frame = some (id, type) ∧ ((s.advance t).chan ch).tagAt +
        18601562 ≤ (s.advance t).clk.lt ∧ (s.advance t).clk.lt ≤ ((s.advance t).chan ch).tagAt + 19601563)
    ∧ (∃ (t : Nat) (ch : Fin 128) (frame : List Byte) (s : State), s.clk.held = false ∧ (s.advance t).tagBusy ch
        = true ∧ tagFrame frame = none ∧ ((s.advance t).chan ch).tagAt + tagListenAt + frame.length * 8 *
        1000000000 / 8192 ≤ (s.advance t).clk.lt ∧ (s.advance t).clk.lt ≤ ((s.advance t).chan ch).tagAt +
        tagSyncBy + frame.length * 8 * 1000000000 / 8192)
    ∧ (∃ (t : Nat) (ch : Fin 128) (s : State), s.clk.held = false ∧ (s.advance t).tagBusy ch = true ∧ ((s.advance
        t).chan ch).tagAt + tagSyncBy ≤ (s.advance t).clk.lt)
    ∧ (∃ (t : Nat) (ch : Fin 128) (s : State), s.clk.held = false ∧ (s.advance t).tagBusy ch = true ∧ (s.advance
        t).clk.lt ≤ ((s.advance t).chan ch).tagAt + 2000000)
    ∧ (∃ (t : Nat) (ch : Fin 128) (s : State), s.clk.held = false ∧ ((s.advance t).chan ch).tagRetry = true ∧
        ((s.advance t).chan ch).tagAt + 5000000 ≤ (s.advance t).clk.lt) :=
  ⟨⟨acc0, 7, st, by decide +kernel⟩,
   ⟨1000000000, 7, st.setReg (R.LSC_ID_CFG 7) 0x10002, by decide +kernel⟩,
   ⟨500, 39, { (st.setReg (R.LSC_ID_CFG 39) 2).setChan 39 { tagPending := true } with load := { ((st.setChan 39 { tagPending := true })).load with clockOn := true } }, by decide +kernel⟩,
   ⟨19000000, 39, [0x5A,0x01,0x23,0x45,0x67,0x89,0xAB,0xCD,0xEF,0x00,0x2A,0x01,0xFF,0x44], 0x0123456789ABCDEF, 0x2A, (st.setLbank 1 { interrog := some 39 }).setChan 39 { tagState := .busy, tagAttempts := 1 }, by decide +kernel⟩,
   ⟨6500000, 39, [0x5A], (st.setLbank 1 { interrog := some 39 }).setChan 39 { tagState := .busy, tagAttempts := 3 }, by decide +kernel⟩,
   ⟨6000000, 39, (st.setLbank 1 { interrog := some 39 }).setChan 39 { tagState := .busy, tagAttempts := 1 }, by decide +kernel⟩,
   ⟨500, 39, (st.setLbank 1 { interrog := some 39 }).setChan 39 { tagState := .busy, tagAttempts := 1 }, by decide +kernel⟩,
   ⟨5000500, 39, st.setChan 39 { tagRetry := true, tagAt := 500 }, by decide +kernel⟩⟩

theorem test_meets_ledger :
    (∃ (a : Acc) (ch : Fin 128) (s : State), s.clk.held = false ∧ (s.advance a.t).checkPage a (R.LSC_ID_CMD ch)
        true 4 = none ∧ (s.advance a.t).load.ledgRun = true ∧ (s.advance a.t).recLive ch = true)
    ∧ (∃ (a : Acc)  (s : State), s.clk.held = false ∧ (s.advance a.t).checkPage a (R.LEDG_CMD) true 4 = none ∧
        (s.advance a.t).load.ledgRestore = true)
    ∧ (∃ (a : Acc) (r : Nat) (s : State), s.clk.held = false ∧ (s.advance a.t).checkPage a (R.LEDG_CMD) true 4 =
        none ∧ (s.advance a.t).load.ledgRun = true ∧ (s.advance a.t).load.dirtyRecs = [r])
    ∧ (∃ (t : Nat) (s : State), s.clk.held = false ∧ (s.advance t).load.ledgRun = true ∧ (if (s.advance
        t).load.steps < (s.advance t).load.ledgAt then 0 else (s.advance t).load.ledgAt) + 1024 ≤ (s.advance
        t).load.steps)
    ∧ (∃ (t : Nat) (s : State), s.clk.held = false ∧ (s.advance t).load.ledgRun = true ∧ (s.advance
        t).load.lastJournal + max 1 ((s.advance t).regF R.LEDG_CFG 7 0) * 1000000000 ≤ (s.advance t).clk.lt)
    ∧ (∃ (t : Nat) (keeperNo : List (Fin 128 × Nat)) (s : State), s.clk.held = false ∧ (s.advance t).hw.unitId =
        1 ∧ (s.advance t).load.ledgRun = true ∧ (s.advance t).syncNs / 1000000000 ≠ (s.advance t).load.peerSecond)
    ∧ (∃ (t : Nat) (m : PeerCounts) (s : State), s.clk.held = false ∧ (s.advance t).hw.unitId = 0 ∧ (s.advance
        t).load.ledgRun = true ∧ (s.advance t).sharedLoad m.to_ = true ∧ (s.advance t).recLive m.to_ = true ∧
        (s.advance t).regF (R.LSC_ID_CFG m.to_) 30 24 = m.from_ ∧ m.replaced = 0)
    ∧ (∃ (t : Nat) (ch : Fin 128) (decayUs : Nat) (ma : Int) (s : State), s.clk.held = false ∧ (s.advance t).regB
        (R.LSC_ID_CFG ch) 0 = true ∧ ((s.advance t).chan ch).decayDue = true ∧ chRating ch ≤ ma.natAbs * 100) :=
  ⟨⟨acc0, 7, { st.putRec 7 9 1 1 with load := { ledgRun := true } }, by decide +kernel⟩,
   ⟨acc0, st, by decide +kernel⟩,
   ⟨acc0, 3, { st with load := { ledgRun := true, dirtyRecs := [3] } }, by decide +kernel⟩,
   ⟨500, { (st.putRec 7 9 1 1).setChan 7 { acc := { samples := 30 } } with load := { ((st.putRec 7 9 1 1).setChan 7 { acc := { samples := 30 } }).load with ledgRun := true, steps := 1024 } }, by decide +kernel⟩,
   ⟨255000000000, { st with load := { ledgRun := true, dirtyRecs := [3] } }, by decide +kernel⟩,
   ⟨2000000000, [(7, 4)], { ((st.putRec 7 9 1 1).setReg (R.LSC_ID_CFG 7) 0x80000000).setChan 7 { acc := { energyMj := 9 } } with hw := { unitId := 1, paired := true }, ulf := { state := .up }, load := { (st.setChan 7 { acc := { energyMj := 9 } }).load with ledgRun := true } }, by decide +kernel⟩,
   ⟨500, { from_ := 0, to_ := 7, fed := [], energyMj := 5, trips := [0, 1], outage := true, samples := 3, closings := 1, loadNo := 4, replaced := 0 }, { (st.putRec 7 9 1 1).setReg (R.LSC_ID_CFG 7) 0x80000000 with hw := { paired := true }, ulf := { state := .up }, load := { ledgRun := true } }, by decide +kernel⟩,
   ⟨500, 7, 2000000, 500, (st.setReg (R.LSC_ID_CFG 7) 1).setChan 7 { taken := [(0, 5)], decayDue := true }, by decide +kernel⟩⟩

theorem test_meets_analogAndDigitalInputs :
    (∃ (t : Nat) (k : Fin 64) (raw : Fin 16384) (supplies : List SupplyMeas) (s : State), s.clk.held = false ∧
        (s.advance t).ainMode k ≠ 0 ∧ (s.advance t).inputsRun = true ∧ ((s.advance t).ain k).burdenOff = none ∧
        ((s.advance t).ain k).due ≤ (s.advance t).clk.lt)
    ∧ (∃ (t : Nat) (k : Fin 64) (raw : Fin 16384) (supplies : List SupplyMeas) (s : State), s.clk.held = false ∧
        (s.advance t).ainMode k = 1 ∧ (s.advance t).ainSupply k = none ∧ (s.advance t).inputsRun = true ∧
        ((s.advance t).ain k).burdenOff = none ∧ ((s.advance t).ain k).due ≤ (s.advance t).clk.lt)
    ∧ (∃ (t : Nat) (k : Fin 64) (raw : Fin 16384) (supplies : List SupplyMeas) (s : State), s.clk.held = false ∧
        (s.advance t).ainMode k = 2 ∧ (s.advance t).inputsRun = true ∧ ((s.advance t).ain k).burdenOff = none ∧
        ((s.advance t).ain k).due ≤ (s.advance t).clk.lt)
    ∧ (∃ (t : Nat) (k : Fin 64) (raw : Fin 16384) (supplies : List SupplyMeas) (s : State), s.clk.held = false ∧
        (s.advance t).ainMode k = 3 ∧ (s.advance t).inputsRun = true ∧ ((s.advance t).ain k).burdenOff = none ∧
        ((s.advance t).ain k).due ≤ (s.advance t).clk.lt)
    ∧ (∃ (t : Nat) (k : Fin 64) (raw : Fin 16384) (supplies : List SupplyMeas) (x : Nat) (s : State), s.clk.held
        = false ∧ (s.advance t).ainMode k = 1 ∧ (s.advance t).ainSupply k = some x ∧ (s.advance t).inputsRun =
        true ∧ ((s.advance t).ain k).burdenOff = none ∧ ((s.advance t).ain k).due ≤ (s.advance t).clk.lt)
    ∧ (∃ (t : Nat) (k : Fin 64) (s : State), s.clk.held = false ∧ (s.advance t).ainMode k = 3 ∧ (s.advance
        t).inputsRun = true ∧ ((s.advance t).ain k).burdenOff = none)
    ∧ (∃ (t : Nat) (k : Fin 64) (s : State), s.clk.held = false ∧ ((s.advance t).ain k).burdenOff.any (fun x => x
        + 1000000000 ≤ (s.advance t).clk.lt) = true)
    ∧ (∃ (t : Nat) (k : Fin 96) (mv : Nat) (s : State), s.clk.held = false ∧ (s.advance t).dinPolled k = true ∧
        ((s.advance t).din k).due ≤ (s.advance t).clk.lt)
    ∧ (∃ (t : Nat) (k : Fin 4) (level : Bool) (s : State), s.clk.held = false ∧ (s.advance t).regB (R.WIN_CFG k)
        0 = true ∧ ((s.advance t).win k).level ≠ level) :=
  ⟨⟨500, 20, 8192, [], (st.setReg (R.AIN_CFG 20) 0x201).setAin 20 { fresh := false, y := 400 }, by decide +kernel⟩,
   ⟨500, 20, 8192, [], (st.setReg (R.AIN_CFG 20) 1).setAin 20 { fresh := true }, by decide +kernel⟩,
   ⟨500, 20, 8192, [], (st.setReg (R.AIN_CFG 20) 2).setAin 20 { fresh := true }, by decide +kernel⟩,
   ⟨500, 4, 8192, [], (st.setReg (R.AIN_CFG 4) 3).setAin 4 { fresh := true }, by decide +kernel⟩,
   ⟨500, 20, 8192, [⟨2, 5000, 9⟩], 2, (st.setReg (R.AIN_CFG 20) 0x1001).setAin 20 { fresh := true }, by decide +kernel⟩,
   ⟨500, 3, st.setReg (R.AIN_CFG 3) 3, by decide +kernel⟩,
   ⟨1000000500, 3, st.setAin 3 { burdenOff := some 500 }, by decide +kernel⟩,
   ⟨500, 30, 3000, (st.setReg (R.DIN_RISE_EN 1) 0x40).setDin 30 { load := false, count := 1 }, by decide +kernel⟩,
   ⟨500, 3, true, st.setReg (R.WIN_CFG 3) 1, by decide +kernel⟩⟩

theorem test_meets_frequencyAndSupplies :
    (∃ (t : Nat) (k : Fin 16) (high low pulse : Nat) (s : State), s.clk.held = false ∧ (s.advance t).finMode k
        ≠ 0 ∧ (s.advance t).inputsRun = true ∧ (s.advance t).regF (R.FIN_CFG k) 28 24 * 1000 ≤ pulse ∧ (s.advance
        t).regF (R.FIN_CFG k) 28 24 * 1000 ≤ low)
    ∧ (∃ (t : Nat) (k : Fin 16) (high low pulse : Nat) (s : State), s.clk.held = false ∧ pulse < (s.advance
        t).regF (R.FIN_CFG k) 28 24 * 1000 ∨ low < (s.advance t).regF (R.FIN_CFG k) 28 24 * 1000)
    ∧ (∃ (t : Nat) (k : Fin 16) (first last : Nat) (s : State), s.clk.held = false ∧ ((s.advance t).finMode k = 1
        ∨ (s.advance t).finMode k = 2) ∧ (s.advance t).inputsRun = true ∧ ((s.advance t).fin k).gateAt + max 1
        ((s.advance t).regF (R.FIN_CFG k) 15 8) * 1000000 ≤ (s.advance t).clk.lt ∧ 2 ≤ ((s.advance t).fin k).edges
        ∧ ((s.advance t).fin k).first = some first ∧ ((s.advance t).fin k).last = some last ∧ first < last)
    ∧ (∃ (t : Nat) (k : Fin 16) (s : State), s.clk.held = false ∧ ((s.advance t).finMode k = 1 ∨ (s.advance
        t).finMode k = 2) ∧ (s.advance t).inputsRun = true ∧ ((s.advance t).fin k).gateAt + max 1 ((s.advance
        t).regF (R.FIN_CFG k) 15 8) * 1000000 ≤ (s.advance t).clk.lt ∧ ((s.advance t).fin k).edges < 2)
    ∧ (∃ (t : Nat) (k : Fin 16) (s : State), s.clk.held = false ∧ (s.advance t).finMode k ≠ 0 ∧ (s.advance
        t).inputsRun = true ∧ ((s.advance t).fin k).stalled = false ∧ ((s.advance t).fin k).lastEdge + max 1
        ((s.advance t).regF (R.FIN_CFG k) 23 16) * 10000000 ≤ (s.advance t).clk.lt)
    ∧ (∃ (t : Nat) (k : Fin 8) (s : State), s.clk.held = false ∧ (s.advance t).ssupOn k = true)
    ∧ (∃ (t : Nat) (k : Fin 8) (s : State), s.clk.held = false ∧ (s.advance t).ssupOn k = true)
    ∧ (∃ (t : Nat) (k : Fin 8) (s : State), s.clk.held = false ∧ ((s.advance t).ssup k).fault = true ∧ (s.advance
        t).regB (R.SSUP_CFG k) 0 = true ∧ (s.advance t).regB (R.SSUP_CFG k) 2 = true ∧ ((s.advance t).ssup
        k).since + max 1 ((s.advance t).regF (R.SSUP_CFG k) 15 8) * 100000000 ≤ (s.advance t).clk.lt)
    ∧ (∃ (a : Acc) (k : Fin 8) (s : State), s.clk.held = false ∧ (s.advance a.t).checkPage a (R.SSUP_STAT k) true
        4 = none ∧ ((s.advance a.t).ssup k).fault = true ∧ (s.advance a.t).regB (R.SSUP_CFG k) 0 = true ∧
        (s.advance a.t).regB (R.SSUP_CFG k) 2 = false) :=
  ⟨⟨500, 9, 100, 5000, 100000, st.setReg (R.FIN_CFG 9) 1, by decide +kernel⟩,
   ⟨500, 9, 100, 5000, 900, st.setReg (R.FIN_CFG 9) 0x1000001, by decide +kernel⟩,
   ⟨1000000, 9, 10, 410, (st.setReg (R.FIN_CFG 9) 1).setFin 9 { first := some 10, last := some 410, edges := 3 }, by decide +kernel⟩,
   ⟨1000000, 9, (st.setReg (R.FIN_CFG 9) 1).setFin 9 { first := some 10, last := some 10, edges := 1, freq := 7 }, by decide +kernel⟩,
   ⟨3000000000, 9, (st.setReg (R.FIN_CFG 9) 1).setFin 9 { freq := 7, stalled := false }, by decide +kernel⟩,
   ⟨500, 5, st.setSsup 5 { on := true }, by decide +kernel⟩,
   ⟨500, 5, st.setSsup 5 { on := true }, by decide +kernel⟩,
   ⟨30000000000, 5, (st.setReg (R.SSUP_CFG 5) 5).setSsup 5 { fault := true }, by decide +kernel⟩,
   ⟨acc0, 5, (st.setReg (R.SSUP_CFG 5) 1).setSsup 5 { fault := true }, by decide +kernel⟩⟩

theorem test_meets_messageBufferCommands :
    (∃ (a : Acc) (ch : Fin 12) (mb : Fin 128) (s : State), s.clk.held = false ∧ ((a.req.val == 19 &&
        !(s.advance a.t).sec.svcOpen) || (State.accPart a != 0 && (s.advance a.t).mbOwner ch mb != State.accPart
        a)) = false ∧ (s.advance a.t).pageActive (37 + ch) = true ∧ ((s.advance a.t).mb ch mb).code.isIdle = true
        ∧ mbRefused (s.advance a.t) ch ((s.advance a.t).mb ch mb).words = false ∧ ((s.advance a.t).mb ch
        mb).launch = none)
    ∧ (∃ (a : Acc) (ch : Fin 12) (mb : Fin 128) (s : State), s.clk.held = false ∧ ((a.req.val == 19 &&
        !(s.advance a.t).sec.svcOpen) || (State.accPart a != 0 && (s.advance a.t).mbOwner ch mb != State.accPart
        a)) = false ∧ (s.advance a.t).pageActive (37 + ch) = true ∧ ((s.advance a.t).mb ch mb).code.isIdle = true
        ∧ mbRefused (s.advance a.t) ch ((s.advance a.t).mb ch mb).words = true ∧ ((s.advance a.t).mb ch mb).newDir
        = none)
    ∧ (∃ (a : Acc) (ch : Fin 12) (mb : Fin 128) (s : State), s.clk.held = false ∧ ((a.req.val == 19 &&
        !(s.advance a.t).sec.svcOpen) || (State.accPart a != 0 && (s.advance a.t).mbOwner ch mb != State.accPart
        a)) = false ∧ (s.advance a.t).pageActive (37 + ch) = false)
    ∧ (∃ (a : Acc) (ch : Fin 12) (mb : Fin 128) (s : State), s.clk.held = false ∧ ((a.req.val == 19 &&
        !(s.advance a.t).sec.svcOpen) || (State.accPart a != 0 && (s.advance a.t).mbOwner ch mb != State.accPart
        a)) = false ∧ ((s.advance a.t).mb ch mb).code = .txActive)
    ∧ (∃ (a : Acc) (ch : Fin 12) (mb : Fin 128) (s : State), s.clk.held = false ∧ ((a.req.val == 19 &&
        !(s.advance a.t).sec.svcOpen) || (State.accPart a != 0 && (s.advance a.t).mbOwner ch mb != State.accPart
        a)) = false ∧ ((s.advance a.t).mb ch mb).code = .txPending ∧ ((s.advance a.t).mb ch mb).newDir = none)
    ∧ (∃ (a : Acc) (ch : Fin 12) (mb : Fin 128) (s : State), s.clk.held = false ∧ ((a.req.val == 19 &&
        !(s.advance a.t).sec.svcOpen) || (State.accPart a != 0 && (s.advance a.t).mbOwner ch mb != State.accPart
        a)) = false ∧ ((s.advance a.t).mb ch mb).code = .rxFull)
    ∧ (∃ (t : Nat) (ch : Fin 12) (mb : Fin 128) (at_ : Nat) (sync : Bool) (s : State), s.clk.held = false ∧
        ((s.advance t).mb ch mb).launch = some (at_, sync) ∧ ((s.advance t).mb ch mb).code = .txPending ∧
        (s.advance t).baseReached at_ sync = true)
    ∧ (∃ (t : Nat) (ch : Fin 12) (mb : Fin 128) (at_ : Nat) (sync : Bool) (s : State), s.clk.held = false ∧
        ((s.advance t).mb ch mb).launch = some (at_, sync) ∧ ((s.advance t).mb ch mb).code = .txPending ∧
        ((s.advance t).mb ch mb).newDir = none ∧ (s.advance t).launchLate ch at_ sync = true)
    ∧ (∃ (a : Acc) (ch : Fin 12) (s : State), s.clk.held = false ∧ (s.advance a.t).checkPage a (R.CAN_TXSCMD ch)
        true 4 = none ∧ ((s.advance a.t).can ch).stream.code = .txActive) :=
  ⟨⟨acc0, 3, 9, st.setMb 3 9 { code := .txDone, attempts := 4 }, by decide +kernel⟩,
   ⟨acc0, 3, 9, st.setMb 3 9 { code := .txDone, words := [(0xC, 0x10000)] }, by decide +kernel⟩,
   ⟨acc0, 3, 9, st.setPage 40 { (st.page 40) with mode := .quiesced }, by decide +kernel⟩,
   ⟨acc0, 3, 9, st.setMb 3 9 { code := .txActive }, by decide +kernel⟩,
   ⟨acc0, 3, 9, st.setMb 3 9 { code := .txPending }, by decide +kernel⟩,
   ⟨acc0, 3, 9, st.setMb 3 9 { code := .rxFull }, by decide +kernel⟩,
   ⟨500, 3, 9, 400, false, st.setMb 3 9 { code := .txPending, words := [(0xC, 0x200000), (0x18, 400)] }, by decide +kernel⟩,
   ⟨5000000, 3, 9, 400, false, (st.setReg (R.CAN_LAUNCH 3) 7).setMb 3 9 { code := .txPending, words := [(0xC, 0x200000), (0x18, 400)] }, by decide +kernel⟩,
   ⟨acc0, 9, st.setCan 9 { stream := { code := .txActive } }, by decide +kernel⟩⟩

theorem test_meets_canTransmission :
    (∃ (t : Nat) (ch : Fin 12) (s : State), s.clk.held = false ∧ ((s.advance t).can ch).pendingCfg = true ∧
        ((s.advance t).can ch).tx = none)
    ∧ (∃ (t : Nat) (ch : Fin 12) (ecc : EccFound) (mb : Nat) (s : State), s.clk.held = false ∧ (s.advance
        t).txsHead ch = none ∧ (s.advance t).canSends ch = true ∧ ((s.advance t).can ch).tx = none ∧ (s.advance
        t).mayStart (37 + ch) = true ∧ (s.advance t).bestBuffer ch = some mb)
    ∧ (∃ (t : Nat) (ch : Fin 12) (ecc : EccFound) (q : Nat) (p : Packet) (s : State), s.clk.held = false ∧
        (s.advance t).txsHead ch = some (q, p) ∧ (s.advance t).holdTx ((s.advance t).pageOwner (canPage ch)) =
        false ∧ (s.advance t).canSends ch = true ∧ ((s.advance t).can ch).tx = none ∧ (s.advance t).mayStart (37 +
        ch) = true ∧ (s.advance t).bestBuffer ch = none)
    ∧ (∃ (t : Nat) (ch : Fin 12) (delay : Option (Fin 128)) (mb : Nat) (f : CanFrame) (stamp : Nat) (s : State),
        s.clk.held = false ∧ ((s.advance t).can ch).tx = some ⟨.buffer mb, f, stamp⟩ ∧ ((s.advance t).can ch).mode
        ch = 1 ∧ ((s.advance t).mb ch mb).held = none ∧ ((s.advance t).mb ch mb).newDir = none)
    ∧ (∃ (t : Nat) (ch : Fin 12) (mb : Nat) (f : CanFrame) (stamp : Nat) (s : State), s.clk.held = false ∧
        ((s.advance t).can ch).tx = some ⟨.buffer mb, f, stamp⟩ ∧ ((s.advance t).mb ch mb).held = none ∧
        ((s.advance t).mb ch mb).cancelPending = false)
    ∧ (∃ (t : Nat) (ch : Fin 12) (lec : Fin 8) (dataPhase exempt : Bool) (delay : Option (Fin 128)) (mb : Nat) (f
        : CanFrame) (stamp : Nat) (s : State), s.clk.held = false ∧ ((s.advance t).can ch).tx = some ⟨.buffer mb,
        f, stamp⟩ ∧ ((s.advance t).mb ch mb).held = none ∧ ((s.advance t).mb ch mb).cancelPending = false ∧
        ((s.advance t).can ch).lastTry ((s.advance t).mb ch mb).attempts = false)
    ∧ (∃ (t : Nat) (ch : Fin 12) (lec : Fin 8) (dataPhase exempt : Bool) (delay : Option (Fin 128)) (mb : Nat) (f
        : CanFrame) (stamp : Nat) (s : State), s.clk.held = false ∧ ((s.advance t).can ch).tx = some ⟨.buffer mb,
        f, stamp⟩ ∧ ((s.advance t).mb ch mb).held = none ∧ ((s.advance t).mb ch mb).newDir = none ∧ ((s.advance
        t).mb ch mb).cancelPending = false ∧ ((s.advance t).can ch).lastTry ((s.advance t).mb ch mb).attempts =
        true) :=
  ⟨⟨500, 3, (st.setReg (R.CAN_CTRL 3) 1).setCan 3 { pendingCfg := true }, by decide +kernel⟩,
   ⟨500, 3, .clean, 9, (st.setCan 3 { ctrl := 1, ready := some 0 }).setMb 3 9 { code := .txPending, eligible := true }, by decide +kernel⟩,
   ⟨500, 9, .clean, 700, canP, canQ, by decide +kernel⟩,
   ⟨500, 3, some 7, 9, { id := 5 }, 100, st.setCan 3 { ctrl := 1, ready := some 0, tec := 8, tx := some ⟨.buffer 9, { id := 5 }, 100⟩, mbs := [(9, { code := .txActive })] }, by decide +kernel⟩,
   ⟨500, 3, 9, { id := 5 }, 100, st.setCan 3 { tx := some ⟨.buffer 9, { id := 5 }, 100⟩, mbs := [(9, { code := .txActive })] }, by decide +kernel⟩,
   ⟨500, 3, 4, false, false, none, 9, { id := 5 }, 100, st.setCan 3 { tx := some ⟨.buffer 9, { id := 5 }, 100⟩, mbs := [(9, { code := .txActive })] }, by decide +kernel⟩,
   ⟨500, 3, 4, false, false, none, 9, { id := 5 }, 100, st.setCan 3 { ctrl := 0x1000000, tx := some ⟨.buffer 9, { id := 5 }, 100⟩, mbs := [(9, { code := .txActive })] }, by decide +kernel⟩⟩

theorem test_meets_canReception :
    (∃ (t : Nat) (ch : Fin 12) (frame : CanFrame) (stamp entry : Nat) (s : State), s.clk.held = false ∧
        (s.advance t).canLive ch = true ∧ ((s.advance t).can ch).mode ch = 1 ∧ ((s.advance t).can ch).busOff =
        false ∧ (s.advance t).canTakes ch frame = true ∧ (List.range 256).find? ((s.advance t).filterHits ch
        frame) = some entry ∧ fld ((s.advance t).filterWord ch entry 2) 31 30 = 1 ∧ ((s.advance t).mb ch (fld
        ((s.advance t).filterWord ch entry 2) 6 0)).code = .rxEmpty ∧ frame.data.length ≤ 64)
    ∧ (∃ (t : Nat) (ch : Fin 12) (kind : CanRxErr) (lec : Fin 8) (dataPhase exempt : Bool) (s : State),
        s.clk.held = false ∧ (s.advance t).canLive ch = true ∧ ((s.advance t).can ch).confines ch = true ∧
        ((s.advance t).can ch).mode ch ≠ 4 ∧ (kind ≠ .protocolException ∨ bit ((s.advance t).can ch).ctrl 18 =
        false))
    ∧ (∃ (a : Acc) (ch : Fin 12) (s : State), s.clk.held = false ∧ (s.advance a.t).checkPage a (R.CAN_CMD ch)
        true 4 = none ∧ ((s.advance a.t).can ch).busOff = true ∧ bit ((s.advance a.t).can ch).ctrl 19 = false ∧
        ((s.advance a.t).can ch).recovering = false)
    ∧ (∃ (t : Nat) (ch : Fin 12) (s : State), s.clk.held = false ∧ ((s.advance t).can ch).busOff = true ∧
        ((s.advance t).can ch).recovering = true ∧ ((s.advance t).can ch).recAt + canNs (128 * 11 * bitCycles
        ((s.advance t).can ch).nbt) ≤ (s.advance t).clk.lt)
    ∧ (∃ (t : Nat) (ch : Fin 12) (s : State), s.clk.held = false ∧ (s.advance t).busAsleep = true ∧ (s.advance
        t).regB (R.CAN_WAKE ch) 0 = true ∧ ((s.advance t).pwr.state = .dormant → (s.advance t).regB (R.CAN_WAKE
        ch) 2 = true))
    ∧ (∃ (t : Nat) (ch : Fin 12) (frame : CanFrame) (s : State), s.clk.held = false ∧ (s.advance t).pwr.state =
        .park ∧ ch.val < 8 ∧ (s.advance t).regB (R.CAN_WAKE ch) 1 = true ∧ frame.fdf = false ∧ frame.xlf = false ∧
        frame.id % 2 ^ 29 = fld ((s.advance t).reg (R.CAN_WUF_ID ch)) 28 0 ∧ frame.ide = (s.advance t).regB
        (R.CAN_WUF_ID ch) 29)
    ∧ (∃ (a : Acc) (ch : Fin 12) (saOnly : Bool) (s : State), s.clk.held = false ∧ (s.advance a.t).checkPage a
        (R.CAN_SAL_CTRL ch) true 4 = none) :=
  ⟨⟨500, 3, { id := 5, len := 2, data := [1, 2] }, 90, 0, { st.setCan 3 { ctrl := 1, ready := some 0, rec' := 9, mbs := [(9, { code := .rxEmpty })] } with regions := [(35, { active := [(0x30383000, 0x80000005), (0x30383004, 0x1FFFFFFF), (0x30383008, 0x40000009)] })] }, by decide +kernel⟩,
   ⟨500, 3, .detected, 4, true, false, st.setCan 3 { ctrl := 1, ready := some 0, rec' := 9 }, by decide +kernel⟩,
   ⟨acc0, 3, st.setCan 3 { busOff := true }, by decide +kernel⟩,
   ⟨50000000, 3, st.setCan 3 { busOff := true, recovering := true, tec := 256 }, by decide +kernel⟩,
   ⟨500, 3, { st.setReg (R.CAN_WAKE 3) 1 with pwr := { state := .park } }, by decide +kernel⟩,
   ⟨500, 3, { id := 5 }, { ((st.setReg (R.CAN_WAKE 3) 3).setReg (R.CAN_WUF_ID 3) 5).setReg (R.CAN_WUF_MASK 3) 0x3FFFFFFF with pwr := { state := .park } }, by decide +kernel⟩,
   ⟨acc0, 3, true, st, by decide +kernel⟩⟩

theorem test_meets_linSchedule :
    (∃ (a : Acc) (l : Fin 8) (table : Fin 8) (s : State), s.clk.held = false ∧ (s.advance a.t).checkPage a
        (R.LIN_CMD l) true 4 = none ∧ (s.advance a.t).linMode l = 1)
    ∧ (∃ (a : Acc) (l : Fin 8) (s : State), s.clk.held = false ∧ (s.advance a.t).checkPage a (R.LIN_CMD l) true 4
        = none ∧ (s.advance a.t).linMode l = 1)
    ∧ (∃ (t : Nat) (l : Fin 8) (s : State), s.clk.held = false ∧ (s.advance t).linMode l = 1 ∧ ((s.advance t).lin
        l).state = .awake ∧ (s.advance t).holdTx ((s.advance t).pageOwner (49 + l / 2)) = false ∧ ((s.advance
        t).lin l).slotEnd ≤ (s.advance t).clk.lt ∧ ((s.advance t).lin l).sleepAsked = true)
    ∧ (∃ (t : Nat) (l : Fin 8) (table : Fin 4) (s : State), s.clk.held = false ∧ (s.advance t).linMode l = 1 ∧
        ((s.advance t).lin l).state = .awake ∧ (s.advance t).holdTx ((s.advance t).pageOwner (49 + l / 2)) = false
        ∧ ((s.advance t).lin l).slotEnd ≤ (s.advance t).clk.lt ∧ ((s.advance t).lin l).sleepAsked = false ∧
        (s.advance t).pwr.zsp.silent = false ∧ ((s.advance t).lin l).want = none ∧ ((s.advance t).lin l).collRun =
        none ∧ ((s.advance t).lin l).sched = table ∧ (s.advance t).schedLen l table ≠ 0 ∧ (s.advance t).regF
        (R.LIN_ENTRY l ((s.advance t).schedEntry l table ((s.advance t).lin l).place)) 10 8 = 0 ∧ (s.advance
        t).regF (R.LIN_ENTRY l ((s.advance t).schedEntry l table ((s.advance t).lin l).place)) 5 0 < 62)
    ∧ (∃ (t : Nat) (l : Fin 8) (bits rate stamp : Nat) (pid : Byte) (s : State), s.clk.held = false ∧ (s.advance
        t).linMode l = 2 ∧ ((s.advance t).lin l).state = .awake ∧ 11 ≤ bits ∧ 85 * (s.advance t).linBaud l ≤ 100 *
        rate ∧ 100 * rate ≤ 115 * (s.advance t).linBaud l ∧ pid.toNat = linPid (pid.toNat % 64) ∧ pid.toNat % 64 <
        62 ∧ (s.advance t).linDir l (pid.toNat % 64) = 1 ∧ (s.advance t).holdTx ((s.advance t).pageOwner (49 + l /
        2)) = false ∧ (s.advance t).pwr.zsp.silent = false)
    ∧ (∃ (t : Nat) (l : Fin 8) (bits rate stamp : Nat) (pid : Byte) (s : State), s.clk.held = false ∧ (s.advance
        t).linMode l = 2 ∧ ((s.advance t).lin l).state = .awake ∧ 11 ≤ bits ∧ 85 * (s.advance t).linBaud l ≤ 100 *
        rate ∧ 100 * rate ≤ 115 * (s.advance t).linBaud l ∧ pid.toNat ≠ linPid (pid.toNat % 64))
    ∧ (∃ (t : Nat) (l : Fin 8) (f : LinFrame) (data : List Byte) (checksum : Byte) (s : State), s.clk.held =
        false ∧ ((s.advance t).lin l).frame = some f ∧ f.data = some [] ∧ checksum = (s.advance t).linChecksum l
        f.fid data ∧ (s.advance t).linDir l f.fid = 2 ∧ f.fid ≠ 0x3C)
    ∧ (∃ (t : Nat) (l : Fin 8) (f : LinFrame) (data : List Byte) (checksum : Byte) (s : State), s.clk.held =
        false ∧ ((s.advance t).lin l).frame = some f ∧ f.data = some [] ∧ f.coll = none ∧ checksum ≠ (s.advance
        t).linChecksum l f.fid data)
    ∧ (∃ (t : Nat) (l : Fin 8) (f : LinFrame) (d : List Byte) (data : List Byte) (checksum : Byte) (s : State),
        s.clk.held = false ∧ ((s.advance t).lin l).frame = some f ∧ f.data = some d ∧ d ≠ [] ∧ f.sleepCmd = false)
    ∧ (∃ (t : Nat) (l : Fin 8) (someByte : Bool) (f : LinFrame) (s : State), s.clk.held = false ∧ ((s.advance
        t).lin l).frame = some f ∧ f.master = true ∧ f.stamp + (44 + 10 * (s.advance t).linLen l f.fid) *
        1400000000 / f.rate ≤ (s.advance t).clk.lt)
    ∧ (∃ (a : Acc) (l : Fin 8) (i : Fin 64) (s : State), s.clk.held = false ∧ ((a.req.val == 19 && !(s.advance
        a.t).sec.svcOpen) || !(s.advance a.t).mayOwn (State.accPart a) (49 + l / 2)) = false ∧ (s.advance
        a.t).linDir l i = 1)
    ∧ (∃ (a : Acc) (l : Fin 8) (i : Fin 64) (s : State), s.clk.held = false ∧ ((a.req.val == 19 && !(s.advance
        a.t).sec.svcOpen) || !(s.advance a.t).mayOwn (State.accPart a) (49 + l / 2)) = false) :=
  ⟨⟨acc0, 5, 2, st.setReg (R.LIN_CFG 5) 1, by decide +kernel⟩,
   ⟨acc0, 5, st.setReg (R.LIN_CFG 5) 1, by decide +kernel⟩,
   ⟨500, 5, (st.setReg (R.LIN_CFG 5) 1).setLin 5 { state := .awake, sleepAsked := true }, by decide +kernel⟩,
   ⟨500, 5, 2, (((st.setReg (R.LIN_CFG 5) 1).setReg (R.LIN_SCHED 5 2) 0x204).setReg (R.LIN_ENTRY 5 5) 0x1E0009).setLin 5 { state := .awake, sched := 2, place := 1 }, by decide +kernel⟩,
   ⟨500, 5, 13, 9600, 400, 0x49, ((st.setReg (R.LIN_CFG 5) 0x25800002).setReg (R.LIN_FCFG 5 9) 0x21).setLin 5 { state := .awake, wakes := 1 }, by decide +kernel⟩,
   ⟨500, 5, 13, 9600, 400, 0x09, ((st.setReg (R.LIN_CFG 5) 0x25800002).setReg (R.LIN_FCFG 5 9) 0x21).setLin 5 { state := .awake, wakes := 1 }, by decide +kernel⟩,
   ⟨500, 5, { fid := 9, stamp := 400, master := false, rate := 9600, idEnd := 450, data := some [] }, [1, 2], 0xB3, ((st.setReg (R.LIN_CFG 5) 2).setReg (R.LIN_FCFG 5 9) 0x22).setLin 5 { state := .awake, frame := some { fid := 9, stamp := 400, master := false, rate := 9600, idEnd := 450, data := some [] } }, by decide +kernel⟩,
   ⟨500, 5, { fid := 9, stamp := 400, master := false, rate := 9600, idEnd := 450, data := some [] }, [1, 2], 0xB4, ((st.setReg (R.LIN_CFG 5) 2).setReg (R.LIN_FCFG 5 9) 0x22).setLin 5 { state := .awake, frame := some { fid := 9, stamp := 400, master := false, rate := 9600, idEnd := 450, data := some [] } }, by decide +kernel⟩,
   ⟨500, 5, { fid := 9, stamp := 400, master := true, rate := 9600, idEnd := 450, data := some [7] }, [7], [7], 0x11, ((st.setReg (R.LIN_CFG 5) 1).setReg (R.LIN_FCFG 5 9) 0x11).setLin 5 { state := .awake, frame := some { fid := 9, stamp := 400, master := true, rate := 9600, idEnd := 450, data := some [7] } }, by decide +kernel⟩,
   ⟨500000000, 5, true, { fid := 9, stamp := 400, master := true, rate := 9600, idEnd := 3000000 }, (st.setReg (R.LIN_CFG 5) 1).setLin 5 { state := .awake, frame := some { fid := 9, stamp := 400, master := true, rate := 9600, idEnd := 3000000 } }, by decide +kernel⟩,
   ⟨acc0, 5, 9, st.setReg (R.LIN_FCFG 5 9) 1, by decide +kernel⟩,
   ⟨acc0, 5, 9, st, by decide +kernel⟩⟩

theorem test_meets_linSleep :
    (∃ (a : Acc) (l : Fin 8) (s : State), s.clk.held = false ∧ (s.advance a.t).checkPage a (R.LIN_CMD l) true 4
        = none ∧ ((s.advance a.t).lin l).state = .sleep ∧ (s.advance a.t).pwr.zsp.silent = false ∧ (s.advance
        a.t).linMode l = 2 ∧ ((s.advance a.t).lin l).wakeBlock ≤ (s.advance a.t).clk.lt)
    ∧ (∃ (a : Acc) (l : Fin 8) (s : State), s.clk.held = false ∧ (s.advance a.t).checkPage a (R.LIN_CMD l) true 4
        = none ∧ ((s.advance a.t).lin l).state = .sleep ∧ (s.advance a.t).pwr.zsp.silent = false ∧ (s.advance
        a.t).linMode l = 1)
    ∧ (∃ (t : Nat) (l : Fin 8) (s : State), s.clk.held = false ∧ ((s.advance t).lin l).state = .sleep ∧
        (s.advance t).linMode l = 2 ∧ (s.advance t).regB (R.LIN_CFG l) 3 = false)
    ∧ (∃ (t : Nat) (l : Fin 8) (s : State), s.clk.held = false ∧ (s.advance t).linMode l = 2 ∧ ((s.advance t).lin
        l).state = .awake ∧ ((s.advance t).lin l).lastBus + clamp 4 10 ((s.advance t).regF (R.LIN_CFG l) 15 12) *
        1000000000 ≤ (s.advance t).clk.lt)
    ∧ (∃ (t : Nat) (l : Fin 8) (s : State), s.clk.held = false ∧ (s.advance t).linMode l = 2 ∧ ((s.advance t).lin
        l).state = .waking ∧ ((s.advance t).lin l).wakeAt + 150000000 ≤ (s.advance t).clk.lt)
    ∧ (∃ (t : Nat) (l : Fin 8) (at_ : Nat) (s : State), s.clk.held = false ∧ ((s.advance t).lin l).resumeAt =
        some at_ ∧ (s.advance t).linMode l = 1 ∧ at_ ≤ (s.advance t).clk.lt) :=
  ⟨⟨acc0, 5, (st.setReg (R.LIN_CFG 5) 2).setLin 5 { state := .sleep }, by decide +kernel⟩,
   ⟨acc0, 5, (st.setReg (R.LIN_CFG 5) 1).setLin 5 { state := .sleep }, by decide +kernel⟩,
   ⟨500, 5, (st.setReg (R.LIN_CFG 5) 2).setLin 5 { state := .sleep }, by decide +kernel⟩,
   ⟨10000000000, 5, (st.setReg (R.LIN_CFG 5) 2).setLin 5 { state := .awake }, by decide +kernel⟩,
   ⟨150000000, 5, (st.setReg (R.LIN_CFG 5) 2).setLin 5 { state := .waking, wakes := 3 }, by decide +kernel⟩,
   ⟨500, 5, 400, (st.setReg (R.LIN_CFG 5) 1).setLin 5 { state := .waking, resumeAt := some 400 }, by decide +kernel⟩⟩

theorem test_meets_switchReceiveAndTransmit :
    (∃ (t : Nat) (port : Fin 27) (stamp : Nat) (bytes : List Byte) (tag : Option SecTag) (ecc : EccFound) (f :
        Nat) (s1 : State) (s : State), s.clk.held = false ∧ ((s.advance t).page (57 + port)).mode ≠ .resetting ∧
        (s.advance t).portTakes port = true ∧ (s.advance t).openFrame (min (bytes.length + 4) 9216) = (some f, s1)
        ∧ (s1.stage1 port bytes true tag).1 = true)
    ∧ (∃ (t : Nat) (port : Fin 27) (stamp : Nat) (bytes : List Byte) (tag : Option SecTag) (f : Nat) (s1 : State)
        (s : State), s.clk.held = false ∧ ((s.advance t).page (57 + port)).mode ≠ .resetting ∧ (s.advance
        t).portTakes port = true ∧ (s.advance t).openFrame (min (bytes.length + 4) 9216) = (some f, s1) ∧
        (s1.stage1 port bytes true tag).1 = true ∧ isPtp port bytes = false)
    ∧ (∃ (t : Nat) (port : Fin 27) (stamp : Nat) (bytes : List Byte) (tag : Option SecTag) (ecc : EccFound) (f :
        Nat) (s1 : State) (s : State), s.clk.held = false ∧ ((s.advance t).page (57 + port)).mode ≠ .resetting ∧
        (s.advance t).portTakes port = true ∧ (s.advance t).openFrame (min (bytes.length + 4) 9216) = (some f, s1))
    ∧ (∃ (t : Nat) (port : Fin 27) (rx : EthRx) (ecc : EccFound) (s : State), s.clk.held = false ∧ ((s.advance
        t).page (57 + port)).mode ≠ .resetting ∧ (s.advance t).portTakes port = false ∧ ((s.advance t).port
        port).arriving = none)
    ∧ (∃ (t : Nat) (d : Fin 2) (p : Packet) (s1 : State) (frame : List Byte) (launch : Option (Nat × Bool)) (ecc
        cells : EccFound) (s : State), s.clk.held = false ∧ (s.advance t).domQueue d ((s.advance t).regF
        (R.PTP_QUEUES d) 27 16) = true ∧ (s.advance t).stopsWork ((s.advance t).queueOwner ((s.advance t).regF
        (R.PTP_QUEUES d) 27 16)) = false ∧ (s.advance t).popPacket ((s.advance t).regF (R.PTP_QUEUES d) 27 16) =
        some (p, s1) ∧ hostFrame p.data = some (frame, launch) ∧ leVal ((p.data.drop 10).take 1) < 18)
    ∧ (∃ (t : Nat) (d : Fin 2) (p : Packet) (s1 : State) (ecc cells : EccFound) (s : State), s.clk.held = false ∧
        (s.advance t).domQueue d ((s.advance t).regF (R.PTP_QUEUES d) 27 16) = true ∧ (s.advance t).stopsWork
        ((s.advance t).queueOwner ((s.advance t).regF (R.PTP_QUEUES d) 27 16)) = false ∧ (s.advance t).popPacket
        ((s.advance t).regF (R.PTP_QUEUES d) 27 16) = some (p, s1) ∧ hostFrame p.data = none)
    ∧ (∃ (t : Nat) (port : Fin 27) (da q : Nat) (p : Packet) (s : State), s.clk.held = false ∧ (s.advance
        t).portServes port = true ∧ ((s.advance t).port port).sending = none ∧ ((s.advance t).port port).preempted
        = none ∧ ((s.advance t).updCredits port).pickQueue port (fun _ => true) = some q ∧ (s.advance t).headOf
        port q = some p ∧ (p.copy.map (·.ptp)).getD .none = .none ∧ (s.advance t).msecTxOn port p = false)
    ∧ (∃ (t : Nat) (port : Fin 27) (q : Nat) (p : Packet) (m : CopyMeta) (s : State), s.clk.held = false ∧
        (s.advance t).endingFrame port = some (q, p, m))
    ∧ (∃ (t : Nat) (port : Fin 27) (q : Nat) (p : Packet) (m : CopyMeta) (ecc : EccFound) (s : State), s.clk.held
        = false ∧ (s.advance t).endingFrame port = some (q, p, m) ∧ q < 8 ∧ m.stomped = false ∧ (m.txMirror = none
        ∨ m.mirror = true))
    ∧ (∃ (t : Nat) (q : Fin 216) (p : Packet) (rest : List Packet) (s : State), s.clk.held = false ∧ ((s.advance
        t).queue q).visible = p :: rest ∧ unbegun p = true ∧ p.popped = 0 ∧ p.born + (s.advance t).ageNs q <
        (s.advance t).clk.lt) :=
  ⟨⟨0, 3, 90, List.replicate 60 1, none, .clean, 0, (sw1.openFrame 64).2, sw1, by decide +kernel⟩,
   ⟨0, 3, 90, List.replicate 60 1, none, 0, (sw1.openFrame 64).2, sw1, by decide +kernel⟩,
   ⟨0, 3, 90, List.replicate 60 1, none, .clean, 0, (sw1.openFrame 64).2, sw1, by decide +kernel⟩,
   ⟨0, 3, .head 90 (List.replicate 128 1), .clean, st, by decide +kernel⟩,
   ⟨0, 1, txqP, ((txqS.popPacket 700).getD (txqP, st)).2, padTo 60 (List.replicate 14 7), none, .clean, .clean, txqS, by decide +kernel⟩,
   ⟨0, 1, jP, ((txqB.popPacket 700).getD (jP, st)).2, .clean, .clean, txqB, by decide +kernel⟩,
   ⟨0, 3, 7, 5, txP, txS, by decide +kernel⟩,
   ⟨0, 3, 5, txP2, (txP2.copy.getD {}), txE, by decide +kernel⟩,
   ⟨0, 3, 5, txP2, (txP2.copy.getD {}), .clean, txE, by decide +kernel⟩,
   ⟨300000000, 29, txP, [], txS, by decide +kernel⟩⟩

theorem test_meets_switchTimers :
    (∃ (t : Nat) (port : Fin 27) (g : GateSeg) (s : State), s.clk.held = false ∧ (s.advance t).oldEntry port =
        false ∧ (s.advance t).gateNow port = some g)
    ∧ (∃ (t : Nat) (port : Fin 27) (g : Nat) (s : State), s.clk.held = false ∧ (s.advance t).oldEntry port =
        false ∧ (s.advance t).gateNow port = none ∧ g = (s.advance t).initGates port)
    ∧ (∃ (t : Nat) (port : Fin 27) (s : State), s.clk.held = false ∧ (s.advance t).oldEntry port = true)
    ∧ (∃ (t : Nat) (port : Fin 27) (ok : Bool) (s : State), s.clk.held = false ∧ ((s.advance t).port port).verify
        = .verifying)
    ∧ (∃ (t : Nat) (f : Fin 512) (s : State), s.clk.held = false ∧ bit ((s.advance t).regionWord 50 (0x30310000 +
        32 * f)) 31 = true ∧ ((s.advance t).recov f).fresh = false ∧ ((s.advance t).recov f).lastFrame + max 1
        (fld ((s.advance t).regionWord 50 (0x30310000 + 32 * f)) 23 8) * 1000000 ≤ (s.advance t).clk.lt)
    ∧ (∃ (t : Nat) (port : Fin 27) (up : Bool) (rate : Fin 7) (role : Bool) (sqi : Fin 8) (plca : Bool) (s :
        State), s.clk.held = false ∧ port ≠ 26)
    ∧ (∃ (t : Nat) (port : Fin 27) (up : Bool) (rate : Fin 7) (role : Bool) (sqi : Fin 8) (plca : Bool) (s :
        State), s.clk.held = false ∧ port = 26) :=
  ⟨⟨0, 3, ⟨0, 0, 1000, 0, 0x0F⟩, { ((st.setReg (R.SWP_TAS_CTRL 3) 0x10001).setReg (R.SWP_TAS_CYCLE 3) 1000).setDom 0 { state := .synced } with regions := [(3, { active := [(0x30101800, 0x0F), (0x30101804, 500)] })] }, by decide +kernel⟩,
   ⟨0, 3, 0xFF, st, by decide +kernel⟩,
   ⟨0, 3, (st.setDom 0 { state := .synced }).setPort 3 { oldUntil := some 500, gates := 3 }, by decide +kernel⟩,
   ⟨0, 3, true, st.setPort 3 { verify := .verifying }, by decide +kernel⟩,
   ⟨3000000, 5, { st.setRecov 5 { fresh := false } with regions := [(50, { active := [(0x303100A0, 0x80000200)] })] }, by decide +kernel⟩,
   ⟨0, 3, true, 2, true, 5, false, st.setReg (R.SWP_PORT_CFG 3) 0x05F20001, by decide +kernel⟩,
   ⟨0, 26, true, 2, true, 5, false, st, by decide +kernel⟩⟩

theorem test_meets_metersAndSequences :
    (∃ (a : Acc) (index : Fin 1024) (s : State), s.clk.held = false ∧ (s.advance a.t).checkPage a
        (R.SWC_POL_SEL) true 4 = none)
    ∧ (∃ (a : Acc) (index : Fin 1024) (s : State), s.clk.held = false ∧ (s.advance a.t).checkPage a
        (R.SWC_POL_SEL) true 4 = none)
    ∧ (∃ (a : Acc) (index : Fin 1024) (s : State), s.clk.held = false ∧ (s.advance a.t).checkPage a
        (R.SWC_POL_SEL) true 4 = none)
    ∧ (∃ (a : Acc) (gen : Bool) (index : Fin 512) (s : State), s.clk.held = false ∧ (s.advance a.t).checkPage a
        (R.SWC_FRER_SEL) true 4 = none)
    ∧ (∃ (a : Acc) (gen : Bool) (index : Fin 512) (s : State), s.clk.held = false ∧ (s.advance a.t).checkPage a
        (R.SWC_FRER_SEL) true 4 = none)
    ∧ (∃ (a : Acc) (gen : Bool) (index : Fin 512) (s : State), s.clk.held = false ∧ (s.advance a.t).checkPage a
        (R.SWC_FRER_SEL) true 4 = none) :=
  ⟨⟨acc0, 900, st.setMeter 900 { red := true, redCount := 4 }, by decide +kernel⟩,
   ⟨acc0, 900, st.setMeter 900 { red := true, redCount := 4 }, by decide +kernel⟩,
   ⟨acc0, 900, st.setMeter 900 { red := true, redCount := 4 }, by decide +kernel⟩,
   ⟨acc0, true, 300, st.setGenFn 300 { next := 9 }, by decide +kernel⟩,
   ⟨acc0, false, 300, st.setRecov 300 { passed := 9 }, by decide +kernel⟩,
   ⟨acc0, false, 300, st.setRecov 300 { last := 9 }, by decide +kernel⟩⟩

theorem test_meets_queueAccess :
    (∃ (a : Acc) (q : Fin 4096) (off : Fin 2016) (val : Nat) (p : Packet) (s : State), s.clk.held = false ∧
        (s.advance a.t).apCheck a q off 4 = none ∧ KMap.get? ((s.advance a.t).queue q).opens a.req = some p ∧
        p.dead = false ∧ p.data.length < 131072 ∧ p.data.length % 256 ≠ 0)
    ∧ (∃ (a : Acc) (q : Fin 4096) (val : Word) (p : Packet) (s : State), s.clk.held = false ∧ (s.advance
        a.t).apCheck a q 0x7E0 4 = none ∧ KMap.get? ((s.advance a.t).queue q).opens a.req = some p ∧ p.dead =
        false ∧ p.data.length < 131072)
    ∧ (∃ (a : Acc) (q : Fin 4096) (p : Packet) (s : State), s.clk.held = false ∧ (s.advance a.t).apCheck a q
        0x7E4 4 = none ∧ KMap.get? ((s.advance a.t).queue q).opens a.req = some p ∧ p.dead = false)
    ∧ (∃ (a : Acc) (q : Fin 4096) (val : Word) (s : State), s.clk.held = false ∧ (s.advance a.t).apCheck a q
        0x7E0 4 = none ∧ KMap.get? ((s.advance a.t).queue q).opens a.req = none)
    ∧ (∃ (a : Acc) (q : Fin 4096) (size : Nat) (p : Packet) (rest : List Packet) (ecc : EccFound) (s : State),
        s.clk.held = false ∧ (s.advance a.t).apCheck a q 0x800 size = none ∧ ((s.advance a.t).queue q).visible = p
        :: rest ∧ (s.advance a.t).readable q = true ∧ p.copy.all (fun m => m.txMirror.isNone || m.mirror) = true ∧
        ecc ≠ .uncorrectable)
    ∧ (∃ (a : Acc) (q : Fin 4096) (size : Nat) (p : Packet) (rest : List Packet) (s : State), s.clk.held = false
        ∧ (s.advance a.t).apCheck a q 0x800 size = none ∧ ((s.advance a.t).queue q).visible = p :: rest ∧
        (s.advance a.t).readable q = true)
    ∧ (∃ (a : Acc) (q : Fin 4096) (size : Nat) (ecc : EccFound) (s : State), s.clk.held = false ∧ (s.advance
        a.t).apCheck a q 0x800 size = none ∧ (((s.advance a.t).queue q).visible = [] ∨ (s.advance a.t).readable q
        = false))
    ∧ (∃ (a : Acc) (q : Fin 4096) (off : Fin 32) (size : Nat) (ecc : EccFound) (s : State), s.clk.held = false ∧
        (s.advance a.t).apCheck a q (0x800 + off) size = none ∧ off ≠ 0)
    ∧ (∃ (a : Acc) (q : Fin 4096) (s : State), s.clk.held = false ∧ (s.advance a.t).apCheck a q 0x828 4 = none)
    ∧ (∃ (a : Acc) (q : Fin 4096) (s : State), s.clk.held = false ∧ (s.advance a.t).apCheck a q 0x828 4 = none)
    ∧ (∃ (a : Acc) (q : Fin 4096) (s : State), s.clk.held = false ∧ (s.advance a.t).apCheck a q 0xFE0 4 = none)
    ∧ (∃ (t : Nat) (q : Fin 4096) (s : State), s.clk.held = false ∧ isMsgQueue q = true) :=
  ⟨⟨acc0, 700, 8, 0x01020304, qp, st.setQueue 700 { opens := [(0, qp)] }, by decide +kernel⟩,
   ⟨acc0, 700, 2, qp, st.setQueue 700 { opens := [(0, qp)], gap := 3 }, by decide +kernel⟩,
   ⟨acc0, 700, qp, st.setQueue 700 { opens := [(0, qp)], gap := 3 }, by decide +kernel⟩,
   ⟨acc0, 700, 2, st, by decide +kernel⟩,
   ⟨acc0, 700, 32, qp, [], .corrected, st.setQueue 700 { visible := [qp] }, by decide +kernel⟩,
   ⟨acc0, 700, 32, qp, [], st.setQueue 700 { visible := [qp] }, by decide +kernel⟩,
   ⟨acc0, 700, 32, .clean, st, by decide +kernel⟩,
   ⟨acc0, 700, 8, 4, .clean, st.setQueue 700 { latches := [(0, ⟨List.replicate 32 5, 0⟩)] }, by decide +kernel⟩,
   ⟨acc0, 700, st.setQueue 700 { visible := [qp] }, by decide +kernel⟩,
   ⟨acc0, 700, st.setQueue 700 { visible := [qp] }, by decide +kernel⟩,
   ⟨acc0, 700, st.setQueue 700 { visible := [qp, { qp with seen := some 10000000 }] }, by decide +kernel⟩,
   ⟨11000000, 700, st.setQueue 700 { visible := [qp] }, by decide +kernel⟩⟩

theorem test_meets_banksAndTrace :
    (∃ (t : Nat) (bank : Fin 32) (s : State), s.clk.held = false ∧ ((s.advance t).pbank bank).state = .draining
        ∧ (s.advance t).poolF (16 ≤ bank.val) < (s.advance t).poolReserve (16 ≤ bank.val))
    ∧ (∃ (t : Nat) (bank : Fin 32) (s : State), s.clk.held = false ∧ ((s.advance t).pbank bank).state = .paused ∧
        (s.advance t).poolReserve (16 ≤ bank.val) + 512 ≤ (s.advance t).poolF (16 ≤ bank.val))
    ∧ (∃ (t : Nat) (bank : Fin 32) (s : State), s.clk.held = false ∧ ((s.advance t).pbank bank).state = .draining
        ∧ ((s.advance t).pbank bank).used = 0)
    ∧ (∃ (t : Nat) (slot q : Nat) (ecc : EccFound) (s : State), s.clk.held = false ∧ (s.advance t).traceOn = true
        ∧ (s.advance t).nextSlot = some slot ∧ (s.advance t).slotQueue slot = some q ∧ (s.advance
        t).pool.trace.posting = none ∧ (s.advance t).pool.trace.frozen = false)
    ∧ (∃ (a : Acc)  (s : State), s.clk.held = false ∧ (s.advance a.t).checkPage a (R.QMGR_TRACE_CMD) true 4 =
        none ∧ (s.advance a.t).pool.trace.frozen = false ∧ (s.advance a.t).pool.trace.posting = none)
    ∧ (∃ (t : Nat) (s : State), s.clk.held = false ∧ (s.advance t).pool.trace.posting = some 0)
    ∧ (∃ (a : Acc)  (s : State), s.clk.held = false ∧ (s.advance a.t).checkPage a (R.QMGR_TRACE_CMD) true 4 =
        none)
    ∧ (∃ (a : Acc)  (s : State), s.clk.held = false ∧ (s.advance a.t).checkPage a (R.QMGR_TRACE_CMD) true 4 =
        none) :=
  ⟨⟨0, 3, (st.setReg R.QMGR_RESERVE 70000).setPbank 3 { state := .draining, taken := [0, 1, 2, 3, 4, 5, 6] }, by decide +kernel⟩,
   ⟨0, 3, st.setPbank 3 { state := .paused, taken := [0, 1, 2, 3, 4, 5, 6] }, by decide +kernel⟩,
   ⟨0, 3, st.setPbank 3 { state := .draining }, by decide +kernel⟩,
   ⟨0, 2, 700, .clean, ((((st.setReg R.QMGR_TRACE_CTRL 0x80000000).setReg R.QMGR_TRACE_BASE_HI 8).setReg R.QMGR_TRACE_SIZE 1).setReg (R.QMGR_TRACE_Q 2) (word (0x80000000 + 700))).setQueue 700 { visible := [qp] }, by decide +kernel⟩,
   ⟨acc0, st, by decide +kernel⟩,
   ⟨0, st.setTrace { posting := some 0 }, by decide +kernel⟩,
   ⟨acc0, st.setTrace { frozen := true }, by decide +kernel⟩,
   ⟨acc0, st.setTrace { frozen := true, wptr := 32 }, by decide +kernel⟩⟩

theorem test_meets_dmaChannelCommands :
    (∃ (a : Acc) (ch pc : Fin 64) (s : State), s.clk.held = false ∧ (s.advance a.t).checkPage a (R.DMA_CMD ch)
        true 4 = none ∧ (((s.advance a.t).dchan ch).state = .idle ∨ ((s.advance a.t).dchan ch).state = .halted) ∧
        ((s.advance a.t).dchan ch).removing = false ∧ ((s.advance a.t).page (101 + ch / 8)).mode = .active ∧
        (s.advance a.t).resetDrains (101 + ch / 8) = false)
    ∧ (∃ (a : Acc) (ch pc : Fin 64) (s : State), s.clk.held = false ∧ (s.advance a.t).checkPage a (R.DMA_CMD ch)
        true 4 = none ∧ (((s.advance a.t).dchan ch).state ≠ .idle ∧ ((s.advance a.t).dchan ch).state ≠ .halted) ∨
        ((s.advance a.t).dchan ch).removing = true)
    ∧ (∃ (a : Acc) (ch : Fin 64) (s : State), s.clk.held = false ∧ (s.advance a.t).checkPage a (R.DMA_CMD ch)
        true 4 = none ∧ ((s.advance a.t).dchan ch).runs = false)
    ∧ (∃ (a : Acc) (ch : Fin 64) (s : State), s.clk.held = false ∧ (s.advance a.t).checkPage a (R.DMA_CMD ch)
        true 4 = none ∧ ((s.advance a.t).dchan ch).state ≠ .fault)
    ∧ (∃ (a : Acc) (ch : Fin 64) (s : State), s.clk.held = false ∧ (s.advance a.t).checkPage a (R.DMA_CMD ch)
        true 4 = none ∧ ((s.advance a.t).dchan ch).runs = true ∧ ((s.advance a.t).dchan ch).inStep = false)
    ∧ (∃ (a : Acc) (ch : Fin 64) (s : State), s.clk.held = false ∧ (s.advance a.t).checkPage a (R.DMA_CMD ch)
        true 4 = none ∧ ((s.advance a.t).dchan ch).state = .fault)
    ∧ (∃ (a : Acc) (page : Fin 8) (mask : Byte) (s : State), s.clk.held = false ∧ (s.advance a.t).checkPage a
        (R.DMA_TRIG page) true 4 = none)
    ∧ (∃ (t : Nat) (ch : Fin 64) (s : State), s.clk.held = false ∧ ((s.advance t).dchan ch).removing = true ∧
        ((s.advance t).dchan ch).rests = true ∧ (s.advance t).chanReads ch = 0) :=
  ⟨⟨acc0, 20, 40, st.setDchan 20 { state := .idle }, by decide +kernel⟩,
   ⟨acc0, 20, 40, st.setDchan 20 { state := .running }, by decide +kernel⟩,
   ⟨acc0, 20, st.setDchan 20 { state := .idle }, by decide +kernel⟩,
   ⟨acc0, 20, st.setDchan 20 { state := .idle }, by decide +kernel⟩,
   ⟨acc0, 20, st.setDchan 20 { state := .running }, by decide +kernel⟩,
   ⟨acc0, 20, st.setDchan 20 { state := .fault }, by decide +kernel⟩,
   ⟨acc0, 2, 0x14, st, by decide +kernel⟩,
   ⟨0, 20, st.setDchan 20 { state := .idle, removing := true }, by decide +kernel⟩⟩

theorem test_meets_dmaControlInstructions :
    (∃ (t : Nat) (ch : Fin 64) (s : State), s.clk.held = false ∧ ((s.advance t).dchan ch).state = .running ∧
        fld ((s.advance t).dmaWord ch 0) 31 28 = 0 ∧ ((s.advance t).dchan ch).stop = false ∧ ((s.advance t).page
        (101 + ch / 8)).mode = .active ∧ (s.advance t).resetDrains (101 + ch / 8) = false ∧ ((s.advance t).dchan
        ch).pc < 63 ∧ ((s.advance t).dchan ch).fencing = false ∧ (s.advance t).needsFence ch = false)
    ∧ (∃ (t : Nat) (ch : Fin 64) (s : State), s.clk.held = false ∧ ((s.advance t).dchan ch).state = .running ∧
        fld ((s.advance t).dmaWord ch 0) 31 28 = 6 ∧ ((s.advance t).dchan ch).stop = false ∧ ((s.advance t).page
        (101 + ch / 8)).mode = .active ∧ (s.advance t).resetDrains (101 + ch / 8) = false ∧ ((s.advance t).dchan
        ch).pc < 63 ∧ ((s.advance t).dchan ch).fencing = false ∧ (s.advance t).needsFence ch = false)
    ∧ (∃ (t : Nat) (ch : Fin 64) (s : State), s.clk.held = false ∧ ((s.advance t).dchan ch).state = .running ∧
        fld ((s.advance t).dmaWord ch 0) 31 28 = 6 ∧ ((s.advance t).dchan ch).stop = false ∧ ((s.advance t).page
        (101 + ch / 8)).mode = .active ∧ (s.advance t).resetDrains (101 + ch / 8) = false ∧ ((s.advance t).dchan
        ch).pc < 63 ∧ ((s.advance t).dchan ch).fencing = true ∧ ((s.advance t).dchan ch).acked = true)
    ∧ (∃ (t : Nat) (ch : Fin 64) (s : State), s.clk.held = false ∧ ((s.advance t).dchan ch).state = .running ∧
        fld ((s.advance t).dmaWord ch 0) 31 28 = 2 ∧ ((s.advance t).dchan ch).stop = false ∧ ((s.advance t).page
        (101 + ch / 8)).mode = .active ∧ (s.advance t).resetDrains (101 + ch / 8) = false ∧ ((s.advance t).dchan
        ch).pc < 63 ∧ bit ((s.advance t).dmaWord ch 0) 27 = false)
    ∧ (∃ (t : Nat) (ch : Fin 64) (s : State), s.clk.held = false ∧ ((s.advance t).dchan ch).state = .running ∧
        fld ((s.advance t).dmaWord ch 0) 31 28 = 2 ∧ ((s.advance t).dchan ch).stop = false ∧ ((s.advance t).page
        (101 + ch / 8)).mode = .active ∧ (s.advance t).resetDrains (101 + ch / 8) = false ∧ ((s.advance t).dchan
        ch).pc < 63 ∧ bit ((s.advance t).dmaWord ch 0) 27 = true)
    ∧ (∃ (t : Nat) (ch : Fin 64) (s : State), s.clk.held = false ∧ ((s.advance t).dchan ch).state = .running ∧
        fld ((s.advance t).dmaWord ch 0) 31 28 = 3 ∧ ((s.advance t).dchan ch).stop = false ∧ ((s.advance t).page
        (101 + ch / 8)).mode = .active ∧ (s.advance t).resetDrains (101 + ch / 8) = false ∧ ((s.advance t).dchan
        ch).pc < 63 ∧ fld ((s.advance t).dmaWord ch 0) 27 24 = 2 ∧ bit ((s.advance t).dmaWord ch 0) 23 = false)
    ∧ (∃ (t : Nat) (ch : Fin 64) (s : State), s.clk.held = false ∧ ((s.advance t).dchan ch).state = .running ∧
        fld ((s.advance t).dmaWord ch 0) 31 28 = 3 ∧ ((s.advance t).dchan ch).stop = false ∧ ((s.advance t).page
        (101 + ch / 8)).mode = .active ∧ (s.advance t).resetDrains (101 + ch / 8) = false ∧ ((s.advance t).dchan
        ch).pc < 63 ∧ fld ((s.advance t).dmaWord ch 0) 27 24 = 3 ∧ ((s.advance t).dmaWord ch 1).toNat ≠ 0)
    ∧ (∃ (t : Nat) (ch : Fin 64) (s : State), s.clk.held = false ∧ ((s.advance t).dchan ch).state = .running ∧
        fld ((s.advance t).dmaWord ch 0) 31 28 = 3 ∧ ((s.advance t).dchan ch).stop = false ∧ ((s.advance t).page
        (101 + ch / 8)).mode = .active ∧ (s.advance t).resetDrains (101 + ch / 8) = false ∧ ((s.advance t).dchan
        ch).pc < 63 ∧ fld ((s.advance t).dmaWord ch 0) 27 24 = 4)
    ∧ (∃ (t : Nat) (ch : Fin 64) (s : State), s.clk.held = false ∧ ((s.advance t).dchan ch).state = .running ∧
        fld ((s.advance t).dmaWord ch 0) 31 28 = 3 ∧ 5 ≤ fld ((s.advance t).dmaWord ch 0) 27 24)
    ∧ (∃ (t : Nat) (ch : Fin 64) (q : Nat) (s : State), s.clk.held = false ∧ ((s.advance t).dchan ch).state =
        .waiting ∧ ((s.advance t).dchan ch).waitQ = some q ∧ ((s.advance t).queue q).visible ≠ [] ∧ ((s.advance
        t).dchan ch).stop = false ∧ ((s.advance t).page (101 + ch / 8)).mode = .active ∧ (s.advance t).resetDrains
        (101 + ch / 8) = false)
    ∧ (∃ (t : Nat) (ch : Fin 64) (s : State), s.clk.held = false ∧ ((s.advance t).dchan ch).state = .waiting ∧
        ((s.advance t).dchan ch).waitQ = none ∧ fld ((s.advance t).dmaWord ch 0) 31 28 = 3 ∧ fld ((s.advance
        t).dmaWord ch 0) 27 24 = 3 ∧ bit ((s.advance t).dmaWord ch 0) 23 = false ∧ ((s.advance t).dchan
        ch).waitSince + ((s.advance t).dmaWord ch 1).toNat ≤ (s.advance t).clk.lt ∧ ((s.advance t).dchan ch).stop
        = false ∧ ((s.advance t).page (101 + ch / 8)).mode = .active ∧ (s.advance t).resetDrains (101 + ch / 8) =
        false ∧ ((s.advance t).dchan ch).pc < 63)
    ∧ (∃ (t : Nat) (ch : Fin 64) (s : State), s.clk.held = false ∧ ((s.advance t).dchan ch).state = .waiting ∧
        ((s.advance t).dchan ch).waitQ = none ∧ fld ((s.advance t).dmaWord ch 0) 31 28 = 3 ∧ fld ((s.advance
        t).dmaWord ch 0) 27 24 = 3 ∧ (s.advance t).clk.lt < ((s.advance t).dchan ch).waitSince + ((s.advance
        t).dmaWord ch 1).toNat)
    ∧ (∃ (t : Nat) (ch : Fin 64) (s : State), s.clk.held = false ∧ ((s.advance t).dchan ch).state = .running ∧
        fld ((s.advance t).dmaWord ch 0) 31 28 = 4 ∧ ((s.advance t).dchan ch).stop = false ∧ ((s.advance t).page
        (101 + ch / 8)).mode = .active ∧ (s.advance t).resetDrains (101 + ch / 8) = false ∧ ((s.advance t).dchan
        ch).pc < 63 ∧ (s.advance t).dmaTurn ch = true ∧ bit ((s.advance t).dmaWord ch 0) 22 = false ∧ bit
        ((s.advance t).dmaWord ch 0) 26 = true ∧ (rangeOf ((s.advance t).signalAddr ch)).isMem = true ∧ (s.advance
        t).memCheck (s.advance t).pt.active ((s.advance t).dmaAcc ch (s.advance t).pt.active).part 9 ((s.advance
        t).signalAddr ch) 4 .write = none ∧ (s.advance t).mirrorClosed ((s.advance t).dmaAcc ch (s.advance
        t).pt.active).part ((s.advance t).signalAddr ch) 4 = false)
    ∧ (∃ (t : Nat) (ch : Fin 64) (s : State), s.clk.held = false ∧ ((s.advance t).dchan ch).state = .running ∧
        fld ((s.advance t).dmaWord ch 0) 31 28 = 4 ∧ ((s.advance t).dchan ch).stop = false ∧ ((s.advance t).page
        (101 + ch / 8)).mode = .active ∧ (s.advance t).resetDrains (101 + ch / 8) = false ∧ ((s.advance t).dchan
        ch).pc < 63 ∧ bit ((s.advance t).dmaWord ch 0) 22 = false ∧ bit ((s.advance t).dmaWord ch 0) 26 = false ∧
        bit ((s.advance t).dmaWord ch 0) 27 = true)
    ∧ (∃ (t : Nat) (ch : Fin 64) (s : State), s.clk.held = false ∧ ((s.advance t).dchan ch).state = .running ∧ 7
        ≤ fld ((s.advance t).dmaWord ch 0) 31 28)
    ∧ (∃ (t : Nat) (ch : Fin 64) (addr : Nat) (s : State), s.clk.held = false ∧ ((s.advance t).dchan ch).state =
        .running ∧ inDram addr 1 = true ∧ ((s.advance t).dchan ch).move.isSome = true) :=
  ⟨⟨0, 20, st.setDchan 20 { state := .running, pc := 4 }, by decide +kernel⟩,
   ⟨0, 20, (st.setDchan 20 { state := .running, pc := 4 }).writeNum 0x22F05040 4 0x60000000, by decide +kernel⟩,
   ⟨0, 20, (st.setDchan 20 { state := .running, pc := 4, fencing := true, acked := true }).writeNum 0x22F05040 4 0x60000000, by decide +kernel⟩,
   ⟨0, 20, (st.setDchan 20 { state := .running, pc := 4 }).writeNum 0x22F05040 4 0x20020003, by decide +kernel⟩,
   ⟨0, 20, (st.setDchan 20 { state := .running, pc := 4 }).writeNum 0x22F05040 4 0x28020001, by decide +kernel⟩,
   ⟨0, 20, ((st.setDchan 20 { state := .running, pc := 4 }).writeNum 0x22F05040 4 0x32000000).writeNum 0x22F05044 4 900, by decide +kernel⟩,
   ⟨0, 20, ((st.setDchan 20 { state := .running, pc := 4 }).writeNum 0x22F05040 4 0x33000000).writeNum 0x22F05044 4 900, by decide +kernel⟩,
   ⟨0, 20, (st.setDchan 20 { state := .running, pc := 4, trig := true }).writeNum 0x22F05040 4 0x34000000, by decide +kernel⟩,
   ⟨0, 20, (st.setDchan 20 { state := .running, pc := 4 }).writeNum 0x22F05040 4 0x35000000, by decide +kernel⟩,
   ⟨0, 20, 700, (st.setDchan 20 { state := .waiting, waitQ := some 700 }).setQueue 700 { visible := [qp] }, by decide +kernel⟩,
   ⟨1000, 20, ((st.setDchan 20 { state := .waiting, pc := 4 }).writeNum 0x22F05040 4 0x33000000).writeNum 0x22F05044 4 900, by decide +kernel⟩,
   ⟨800, 20, ((st.setDchan 20 { state := .waiting, pc := 4 }).writeNum 0x22F05040 4 0x33000000).writeNum 0x22F05044 4 900, by decide +kernel⟩,
   ⟨0, 20, ((((st.setDchan 20 { state := .running, pc := 4 }).writeNum 0x22F05040 4 0x44000000).writeNum 0x22F05044 4 0x100).writeNum 0x22F05048 4 8).writeNum 0x22F0504C 4 77, by decide +kernel⟩,
   ⟨0, 20, (st.setDchan 20 { state := .running, pc := 4 }).writeNum 0x22F05040 4 0x48000000, by decide +kernel⟩,
   ⟨0, 20, (st.setDchan 20 { state := .running, pc := 4 }).writeNum 0x22F05040 4 0x90000000, by decide +kernel⟩,
   ⟨0, 20, 0x800000040, st.setDchan 20 { state := .running, pc := 4, move := some dmS.2 }, by decide +kernel⟩⟩

theorem test_meets_dmaMovesAndRings :
    (∃ (t : Nat) (ch : Fin 64) (ecc : EccFound) (m : DmaMove) (s : State), s.clk.held = false ∧ ((s.advance
        t).dchan ch).state = .running ∧ fld ((s.advance t).dmaWord ch 0) 31 28 = 1 ∧ ((s.advance t).dchan ch).stop
        = false ∧ ((s.advance t).page (101 + ch / 8)).mode = .active ∧ (s.advance t).resetDrains (101 + ch / 8) =
        false ∧ ((s.advance t).dchan ch).pc < 63 ∧ (s.advance t).dmaTurn ch = true ∧ ((s.advance t).dchan ch).move
        = none ∧ m = ((s.advance t).dchan ch).moveOf ((s.advance t).dmaWord ch 0) ((s.advance t).dmaWord ch 1)
        ((s.advance t).dmaWord ch 2) ((s.advance t).dmaWord ch 3) none ∧ (s.advance t).moveRefused ch m = none ∧
        m.skind = 2 ∧ m.dkind = 1 ∧ m.len ≤ 64)
    ∧ (∃ (t : Nat) (ch : Fin 64) (s : State), s.clk.held = false ∧ ((s.advance t).dchan ch).state = .running ∧
        fld ((s.advance t).dmaWord ch 0) 31 28 = 5 ∧ ((s.advance t).dchan ch).stop = false ∧ ((s.advance t).page
        (101 + ch / 8)).mode = .active ∧ (s.advance t).resetDrains (101 + ch / 8) = false ∧ ((s.advance t).dchan
        ch).pc < 63 ∧ (s.advance t).dmaTurn ch = true ∧ ((s.advance t).dchan ch).back = none ∧ ((s.advance
        t).dchan ch).move = none ∧ fld ((s.advance t).dmaWord ch 0) 27 24 ≠ 0 ∧ fld ((s.advance t).dmaWord ch 1) 4
        0 = 0 ∧ (rangeOf ((s.advance t).dmaRingBase ch + 32 * ((s.advance t).dchan ch).ringIdx)).isMem = true ∧
        (s.advance t).memCheck (s.advance t).pt.active ((s.advance t).dmaAcc ch (s.advance t).pt.active).part 9
        ((s.advance t).dmaRingBase ch + 32 * ((s.advance t).dchan ch).ringIdx) 32 .read = none ∧ bit (word
        ((s.advance t).readNum ((s.advance t).dmaRingBase ch + 32 * ((s.advance t).dchan ch).ringIdx) 4)) 31 =
        false ∧ (s.advance t).ringEmpty ch = 0)
    ∧ (∃ (t : Nat) (ch : Fin 64) (d : WriteBack) (s : State), s.clk.held = false ∧ ((s.advance t).dchan ch).state
        = .running ∧ fld ((s.advance t).dmaWord ch 0) 31 28 = 5 ∧ ((s.advance t).dchan ch).stop = false ∧
        ((s.advance t).page (101 + ch / 8)).mode = .active ∧ (s.advance t).resetDrains (101 + ch / 8) = false ∧
        ((s.advance t).dchan ch).pc < 63 ∧ (s.advance t).dmaTurn ch = true ∧ ((s.advance t).dchan ch).back = some
        d ∧ (rangeOf (d.desc + 0x18)).isMem = true ∧ (rangeOf d.desc).isMem = true ∧ (s.advance t).memCheck
        (s.advance t).pt.active ((s.advance t).dmaAcc ch (s.advance t).pt.active).part 9 (d.desc + 0x18) 8 .write
        = none ∧ (s.advance t).memCheck (s.advance t).pt.active ((s.advance t).dmaAcc ch (s.advance
        t).pt.active).part 9 d.desc 4 .write = none ∧ (s.advance t).mirrorClosed ((s.advance t).dmaAcc ch
        (s.advance t).pt.active).part (d.desc + 0x18) 8 = false ∧ (s.advance t).mirrorClosed ((s.advance t).dmaAcc
        ch (s.advance t).pt.active).part d.desc 4 = false) :=
  ⟨⟨0, 20, .clean, dmS.2, dmS.1, by decide +kernel⟩,
   ⟨0, 20, ((st.setDchan 20 { state := .running, pc := 4, ringIdx := 1 }).writeNum 0x22F05040 4 0x54000008).writeNum 0x22F05044 4 0x100, by decide +kernel⟩,
   ⟨0, 20, { desc := 0x800000120, word0 := 0x80000005, bytes := 4, result := .ok }, ((st.setDchan 20 { state := .running, pc := 4, ringIdx := 1, back := some { desc := 0x800000120, word0 := 0x80000005, bytes := 4, result := .ok } }).writeNum 0x22F05040 4 0x54000008).writeNum 0x22F05044 4 0x100, by decide +kernel⟩⟩

theorem test_meets_gatewayJobs :
    (∃ (t : Nat) (e : GwEvent) (rest : List GwEvent) (i : Nat) (ecc : EccFound) (s : State), s.clk.held = false
        ∧ ecc ≠ .uncorrectable ∧ (s.advance t).gway.queue = e :: rest ∧ (s.advance t).regB R.GW_CTRL 0 = true ∧
        (s.advance t).pageActive 109 = true ∧ gwLookup (s.advance t).gwSet.active e = some i ∧ (s.advance
        t).groupOn (gwGroup (s.advance t).gwSet.active i) = true ∧ ((s.advance t).groupOwner (gwGroup (s.advance
        t).gwSet.active i) = 0 ∨ (s.advance t).ownsSource ((s.advance t).groupOwner (gwGroup (s.advance
        t).gwSet.active i)) e = true) ∧ ((s.advance t).trigger (gwEntry (s.advance t).gwSet.active i 3) e).1 =
        true)
    ∧ (∃ (t : Nat) (e : GwEvent) (rest : List GwEvent) (s : State), s.clk.held = false ∧ (s.advance t).gway.queue
        = e :: rest ∧ (s.advance t).regB R.GW_CTRL 0 = true ∧ (s.advance t).pageActive 109 = true)
    ∧ (∃ (t : Nat) (j : RouteJob) (rest : List RouteJob) (w0 w1 w2 w3 : Word) (y : Int) (ecc : EccFound) (s :
        State), s.clk.held = false ∧ ecc ≠ .uncorrectable ∧ (s.advance t).gway.jobs = j :: rest ∧ (s.advance
        t).jobMayRun j = true ∧ j.rights = true ∧ w0 = gwEntry ((s.advance t).gwSet.copyOf j.colour) j.entry 0 ∧
        w1 = gwEntry ((s.advance t).gwSet.copyOf j.colour) j.entry 1 ∧ w2 = gwEntry ((s.advance t).gwSet.copyOf
        j.colour) j.entry 2 ∧ w3 = gwEntry ((s.advance t).gwSet.copyOf j.colour) j.entry 3 ∧ fld w1 29 28 = 1 ∧
        routeValid 1 j.event.kind w2 = true ∧ sinkKind w2 = 3 ∧ (fieldBits (fld w0 8 0) (fld w0 13 9 + 1) (bit w0
        14)).any (fun k => 8 * j.event.data.length ≤ k) = false ∧ bit w0 23 = false ∧ y = convert w0 w3 (fld w0 13
        9 + 1) (fieldValue j.event.data (fieldBits (fld w0 8 0) (fld w0 13 9 + 1) (bit w0 14))))
    ∧ (∃ (t : Nat) (j : RouteJob) (rest : List RouteJob) (s : State), s.clk.held = false ∧ (s.advance
        t).gway.jobs = j :: rest ∧ (s.advance t).jobMayRun j = true)
    ∧ (∃ (t : Nat) (c : Fin 32) (f : OpenFrame) (s : State), s.clk.held = false ∧ ((s.advance t).container
        c).open' = some f ∧ f.opened + fld f.batch 17 0 * 1000 ≤ (s.advance t).clk.lt ∧ (s.advance t).portEn 25 =
        true ∧ (s.advance t).pageActive 82 = true)
    ∧ (∃ (t : Nat) (c : Fin 32) (f : OpenFrame) (s : State), s.clk.held = false ∧ ((s.advance t).container
        c).open' = some f ∧ f.opened + fld f.batch 17 0 * 1000 ≤ (s.advance t).clk.lt ∧ ((s.advance t).portEn 25 =
        false ∨ (s.advance t).pageActive 82 = false))
    ∧ (∃ (t : Nat) (p : Packet) (rest : List Packet) (ecc : EccFound) (s : State), s.clk.held = false ∧
        ((s.advance t).queue 207).visible = p :: rest ∧ (s.advance t).p25Ready 207 = true ∧ p.copy.all (fun m =>
        m.txMirror.isNone || m.mirror) = true)
    ∧ (∃ (t : Nat) (s : State), s.clk.held = false ∧ (s.advance t).p25Ready 207 = true)
    ∧ (∃ (t : Nat) (g : Fin 256) (s : State), s.clk.held = false ∧ (s.advance t).gway.draining.contains g.val =
        true ∧ (s.advance t).allJobs.any (fun j => j.group == g.val) = false)
    ∧ (∃ (a : Acc) (all : Bool) (slot : Fin 4096) (s : State), s.clk.held = false ∧ (s.advance a.t).checkPage a
        (R.GW_SLOT_CLR) true 4 = none) :=
  ⟨⟨0, gwE, [], 5, .corrected, gwS, by decide +kernel⟩,
   ⟨0, gwE, [], gwS, by decide +kernel⟩,
   ⟨0, gwJ, [], 0x00000E00, 0x98000000, 0x30022000, 0x00010000, 0x20, .corrected, gwS2, by decide +kernel⟩,
   ⟨0, gwJ, [], gwS2, by decide +kernel⟩,
   ⟨0, 7, { cfg := 0, batch := 0, da := 0, sid := 0, sa := 0, etype := 0, opened := 0 }, (st.setReg (R.SWP_PORT_CFG 25) 0x05F20001).setContainer 7 { open' := some { cfg := 0, batch := 0, da := 0, sid := 0, sa := 0, etype := 0, opened := 0 } }, by decide +kernel⟩,
   ⟨0, 7, { cfg := 0, batch := 0, da := 0, sid := 0, sa := 0, etype := 0, opened := 0 }, st.setContainer 7 { open' := some { cfg := 0, batch := 0, da := 0, sid := 0, sa := 0, etype := 0, opened := 0 } }, by decide +kernel⟩,
   ⟨0, p25P, [], .clean, st.setQueue 207 { visible := [p25P] }, by decide +kernel⟩,
   ⟨0, st.setQueue 207 { visible := [p25P] }, by decide +kernel⟩,
   ⟨0, 9, { st with gway := { draining := [9] } }, by decide +kernel⟩,
   ⟨acc0, false, 9, (st.setSlot 9 5).setSlot 8 7, by decide +kernel⟩⟩

theorem test_meets_transportSessions :
    (∃ (t : Nat) (ch : Fin 12) (ecc : EccFound) (p : Packet) (sa da size k : Nat) (s : State), s.clk.held =
        false ∧ (s.advance t).tpeServes ch = true ∧ (s.advance t).pageActive 111 = true ∧ (s.advance t).stopsWork
        ((s.advance t).queueOwner ((s.advance t).tpeTxq ch)) = false ∧ (s.advance t).freeSlot = some k ∧
        (s.advance t).tpe.sessions.any (fun x => x.2.state != .free && x.2.ch == ch && x.2.tx && x.2.own == sa &&
        (if da = 255 then x.2.mode == .bam else x.2.mode != .bam && x.2.peer == da)) = false ∧ ((s.advance
        t).queue ((s.advance t).tpeTxq ch)).visible.head? = some p ∧ sa = leVal ((p.data.drop 12).take 1) ∧ da =
        leVal ((p.data.drop 13).take 1) ∧ size = leVal ((p.data.drop 16).take 4) % 2 ^ 17 ∧ p.data.length = size +
        24 ∧ 9 ≤ size ∧ size ≤ 65536 ∧ (s.advance t).ownAddr ch sa = true ∧ (da = 255 → size ≤ 1785))
    ∧ (∃ (t : Nat) (ch : Fin 12) (ecc : EccFound) (p : Packet) (da : Nat) (s : State), s.clk.held = false ∧
        (s.advance t).tpeServes ch = true ∧ (s.advance t).pageActive 111 = true ∧ (s.advance t).stopsWork
        ((s.advance t).queueOwner ((s.advance t).tpeTxq ch)) = false ∧ ((s.advance t).queue ((s.advance t).tpeTxq
        ch)).visible.head? = some p ∧ da = leVal ((p.data.drop 13).take 1) ∧ (p.data.length ≠ leVal ((p.data.drop
        16).take 4) % 2 ^ 17 + 24 ∨ leVal ((p.data.drop 16).take 4) % 2 ^ 17 < 9 ∨ 65536 < leVal ((p.data.drop
        16).take 4) % 2 ^ 17 ∨ (s.advance t).ownAddr ch (leVal ((p.data.drop 12).take 1)) = false ∨ (da = 255 ∧
        1785 < leVal ((p.data.drop 16).take 4) % 2 ^ 17)))
    ∧ (∃ (t : Nat) (ch : Fin 12) (frame : CanFrame) (stamp own k : Nat) (s : State), s.clk.held = false ∧ own =
        frame.id / 256 % 256 ∧ (s.advance t).tpeServes ch = true ∧ (s.advance t).pageActive 111 = true ∧
        (s.advance t).freeSlot = some k ∧ (s.advance t).findSess ch own (frame.id % 256) false (fun m => m !=
        .bam) = none ∧ frame.ide = true ∧ frame.rtr = false ∧ frame.fdf = false ∧ frame.xlf = false ∧
        frame.data.length = 8 ∧ frame.id / 2 ^ 16 % 2 ^ 10 = 0xEC ∧ own ≠ 255 ∧ (s.advance t).ownAddr ch own =
        true ∧ leVal (frame.data.take 1) = 16 ∧ 9 ≤ leVal ((frame.data.drop 1).take 2) ∧ leVal ((frame.data.drop
        1).take 2) ≤ 1785)
    ∧ (∃ (t : Nat) (ch : Fin 12) (frame : CanFrame) (stamp : Nat) (s : State), s.clk.held = false ∧ (s.advance
        t).tpe.sessions = [] ∧ (s.advance t).tpe.extra = [] ∧ (s.advance t).pageActive 111 = true ∧ frame.id / 2 ^
        16 % 2 ^ 10 = 0xEC ∧ frame.id / 256 % 256 ≠ 255 ∧ leVal (frame.data.take 1) = 16 ∧ (leVal
        ((frame.data.drop 1).take 2) < 9 ∨ 1785 < leVal ((frame.data.drop 1).take 2)))
    ∧ (∃ (t : Nat) (ch : Fin 12) (k count next : Nat) (x : Session) (s : State), s.clk.held = false ∧ KMap.get?
        (s.advance t).tpe.flight ch = some ⟨some k, .cts count next⟩ ∧ ((s.advance t).mb ch ((s.advance t).regF
        (R.TPE_CHCFG ch) 6 0)).code = .txDone ∧ (s.advance t).tpe.sessions.filter (fun e => e.1 == k) = [(k, x)])
    ∧ (∃ (t : Nat) (slot : Fin 256) (x : Session) (s : State), s.clk.held = false ∧ (s.advance
        t).tpe.sessions.filter (fun e => e.1 == slot.val) = [(slot.val, x)] ∧ x.state ≠ .free ∧ x.timer ≠ .none ∧
        x.since + x.timer.ns ≤ (s.advance t).clk.lt ∧ x.mode ≠ .bam)
    ∧ (∃ (t : Nat) (slot : Fin 256) (x : Session) (s : State), s.clk.held = false ∧ (s.advance
        t).tpe.sessions.filter (fun e => e.1 == slot.val) = [(slot.val, x)] ∧ x.state ≠ .free ∧ x.timer ≠ .none ∧
        x.since + x.timer.ns ≤ (s.advance t).clk.lt ∧ x.mode = .bam)
    ∧ (∃ (t : Nat) (slot : Fin 256) (x : Session) (g : Nat) (s : State), s.clk.held = false ∧ (s.advance
        t).tpe.sessions.filter (fun e => e.1 == slot.val) = [(slot.val, x)] ∧ x.gapUntil = some g ∧ g ≤ (s.advance
        t).clk.lt) :=
  ⟨⟨0, 3, .clean, tpP, 0x21, 0x33, 10, 0, tpS, by decide +kernel⟩,
   ⟨0, 3, .clean, jP, 4, tpS.setQueue 701 { visible := [jP] }, by decide +kernel⟩,
   ⟨0, 3, { id := 0x18EC2133, ide := true, len := 8, data := [16, 20, 0, 3, 255, 0, 0xEE, 0] }, 90, 0x21, 0, tpS, by decide +kernel⟩,
   ⟨0, 3, { id := 0x18EC2133, ide := true, len := 8, data := [16, 8, 0, 3, 255, 0, 0xEE, 0] }, 90, tpS, by decide +kernel⟩,
   ⟨0, 3, 0, 2, 1, { state := .receiving }, { st.setMb 3 9 { code := .txDone } with regs := [(R.TPE_CHCFG 3, 9)], tpe := { sessions := [(0, { state := .receiving })], flight := [(3, ⟨some 0, .cts 2 1⟩)] } }, by decide +kernel⟩,
   ⟨800000000, 4, { state := .receiving, timer := .t1, mode := .rts, peer := 7 }, st.setSess 4 { state := .receiving, timer := .t1, mode := .rts, peer := 7 }, by decide +kernel⟩,
   ⟨800000000, 4, { state := .receiving, timer := .t1, mode := .bam, peer := 7 }, st.setSess 4 { state := .receiving, timer := .t1, mode := .bam, peer := 7 }, by decide +kernel⟩,
   ⟨800, 4, { state := .sending, gapUntil := some 700 }, 700, st.setSess 4 { state := .sending, gapUntil := some 700 }, by decide +kernel⟩⟩

theorem test_meets_partitionCommands :
    (∃ (a : Acc) (target : Fin 32) (s : State), s.clk.held = false ∧ (s.advance a.t).checkPage a (R.PART_CMD)
        true 4 = none ∧ target ≠ 0 ∧ ((s.advance a.t).part target).state = .running)
    ∧ (∃ (a : Acc) (target : Fin 32) (s : State), s.clk.held = false ∧ (s.advance a.t).checkPage a (R.PART_CMD)
        true 4 = none ∧ target ≠ 0 ∧ ((s.advance a.t).part target).state = .running)
    ∧ (∃ (a : Acc) (target : Fin 32) (s : State), s.clk.held = false ∧ (s.advance a.t).checkPage a (R.PART_CMD)
        true 4 = none ∧ target ≠ 0 ∧ ((s.advance a.t).part target).state = .stopped)
    ∧ (∃ (a : Acc) (target : Fin 32) (key : Byte) (s : State), s.clk.held = false ∧ (s.advance a.t).checkPage a
        (R.PART_CMD) true 4 = none ∧ key ≠ 0xA5)
    ∧ (∃ (a : Acc) (target : Fin 32) (s : State), s.clk.held = false ∧ (s.advance a.t).checkPage a (R.PART_CMD)
        true 4 = none ∧ target = 0)
    ∧ (∃ (a : Acc) (target : Fin 32) (s : State), s.clk.held = false ∧ (s.advance a.t).checkPage a (R.PART_CMD)
        true 4 = none ∧ target ≠ 0 ∧ ((s.advance a.t).part target).state = .resetting)
    ∧ (∃ (a : Acc) (target : Fin 32) (key : Byte) (s : State), s.clk.held = false ∧ (s.advance a.t).checkPage a
        (R.PART_CMD) true 4 = none ∧ key ≠ 0xA5)
    ∧ (∃ (a : Acc) (target : Fin 32) (s : State), s.clk.held = false ∧ (s.advance a.t).checkPage a (R.PART_CMD)
        true 4 = none ∧ target = 0)
    ∧ (∃ (a : Acc) (target : Fin 32) (s : State), s.clk.held = false ∧ (s.advance a.t).checkPage a (R.PART_CMD)
        true 4 = none ∧ target ≠ 0 ∧ ((s.advance a.t).part target).state = .resetting)
    ∧ (∃ (a : Acc) (target : Fin 32) (key : Byte) (s : State), s.clk.held = false ∧ (s.advance a.t).checkPage a
        (R.PART_CMD) true 4 = none ∧ key ≠ 0xA5)
    ∧ (∃ (a : Acc) (target : Fin 32) (s : State), s.clk.held = false ∧ (s.advance a.t).checkPage a (R.PART_CMD)
        true 4 = none ∧ target = 0)
    ∧ (∃ (a : Acc) (target : Fin 32) (s : State), s.clk.held = false ∧ (s.advance a.t).checkPage a (R.PART_CMD)
        true 4 = none ∧ target ≠ 0 ∧ ((s.advance a.t).part target).state = .resetting)
    ∧ (∃ (a : Acc) (target : Fin 32) (s : State), s.clk.held = false ∧ (s.advance a.t).checkPage a (R.PART_CMD)
        true 4 = none ∧ target ≠ 0 ∧ (((s.advance a.t).part target).state = .running ∨ ((s.advance a.t).part
        target).state = .off))
    ∧ (∃ (a : Acc) (target : Fin 32) (s : State), s.clk.held = false ∧ (s.advance a.t).checkPage a (R.PART_CMD)
        true 4 = none ∧ target ≠ 0 ∧ (((s.advance a.t).part target).state = .stopped ∨ ((s.advance a.t).part
        target).state = .off))
    ∧ (∃ (a : Acc) (target : Fin 32) (s : State), s.clk.held = false ∧ (s.advance a.t).checkPage a (R.PART_CMD)
        true 4 = none ∧ target ≠ 0 ∧ (((s.advance a.t).part target).state = .stopped ∨ ((s.advance a.t).part
        target).state = .off))
    ∧ (∃ (a : Acc) (t : Nat) (s : State), s.clk.held = false ∧ (s.advance a.t).checkPage a (R.PART_CMD) true 4 =
        none)
    ∧ (∃ (a : Acc) (t : Nat) (key : Byte) (s : State), s.clk.held = false ∧ (s.advance a.t).checkPage a
        (R.PART_CMD) true 4 = none ∧ key ≠ 0xA5)
    ∧ (∃ (t : Nat) (s : State), s.clk.held = false ∧ ((s.advance t).part 0).state = .running) :=
  ⟨⟨acc0, 2, st.setPart 2 { state := .running }, by decide +kernel⟩,
   ⟨acc0, 2, st.setPart 2 { state := .running }, by decide +kernel⟩,
   ⟨acc0, 2, st.setPart 2 { state := .stopped }, by decide +kernel⟩,
   ⟨acc0, 2, 0x5A, st, by decide +kernel⟩,
   ⟨acc0, 0, st, by decide +kernel⟩,
   ⟨acc0, 2, st.setPart 2 { state := .resetting }, by decide +kernel⟩,
   ⟨acc0, 2, 0x5A, st, by decide +kernel⟩,
   ⟨acc0, 0, st, by decide +kernel⟩,
   ⟨acc0, 2, st.setPart 2 { state := .resetting }, by decide +kernel⟩,
   ⟨acc0, 2, 0x5A, st, by decide +kernel⟩,
   ⟨acc0, 0, st, by decide +kernel⟩,
   ⟨acc0, 2, st.setPart 2 { state := .resetting }, by decide +kernel⟩,
   ⟨acc0, 2, st.setPart 2 { state := .running }, by decide +kernel⟩,
   ⟨acc0, 2, st.setPart 2 { state := .stopped }, by decide +kernel⟩,
   ⟨acc0, 2, st.setPart 2 { state := .stopped }, by decide +kernel⟩,
   ⟨acc0, 0, (st.setPart 4 { state := .running }).setPart 9 { state := .running }, by decide +kernel⟩,
   ⟨acc0, 0, 3, st, by decide +kernel⟩,
   ⟨0, st, by decide +kernel⟩⟩

theorem test_meets_partitionResets :
    (∃ (t : Nat) (p : Fin 32) (s : State), s.clk.held = false ∧ ((s.advance t).part p).state = .resetting ∧
        ((s.advance t).part p).phase = .drain ∧ (s.advance t).partInflight p = 0)
    ∧ (∃ (t : Nat) (p : Fin 32) (s : State), s.clk.held = false ∧ ((s.advance t).part p).state = .resetting ∧
        ((s.advance t).part p).phase = .drain ∧ (s.advance t).partInflight p ≠ 0 ∧ ((s.advance t).part p).drainEnd
        ≤ (s.advance t).clk.lt)
    ∧ (∃ (t : Nat) (p : Fin 32) (s : State), s.clk.held = false ∧ ((s.advance t).part p).state = .resetting ∧
        ((s.advance t).part p).phase = .squash ∧ (s.advance t).partItems p true = 0)
    ∧ (∃ (t : Nat) (p : Fin 32) (s : State), s.clk.held = false ∧ ((s.advance t).part p).state = .resetting ∧
        ((s.advance t).part p).phase = .clean ∧ (s.advance t).partXacts p = 0 ∧ (s.advance t).hostReady p = true)
    ∧ (∃ (t : Nat) (s : State), s.clk.held = false ∧ (s.advance t).parts.clusterDown = true ∧ (s.advance
        t).clusterParts.all (fun p => ((s.advance t).part p).phase == .clean && (s.advance t).partXacts p == 0) =
        true)
    ∧ (∃ (t : Nat) (core : Fin 10) (p since : Nat) (s : State), s.clk.held = false ∧ KMap.get? (s.advance
        t).parts.current core = some (p, since) ∧ since + (s.advance t).sliceNs p ≤ (s.advance t).clk.lt)
    ∧ (∃ (t : Nat) (s : State), s.clk.held = false ∧ (s.advance t).scrubbing = true ∧ (s.advance t).dramc.due ≤
        (s.advance t).clk.lt * 2 ^ 28)
    ∧ (∃ (t : Nat) (s : State), s.clk.held = false ∧ (s.advance t).scrubbing = true ∧ (s.advance t).dramc.due ≤
        (s.advance t).clk.lt * 2 ^ 28)
    ∧ (∃ (t : Nat) (found : EccFound) (s : State), s.clk.held = false ∧ (s.advance t).scrubbing = false ∨
        (s.advance t).clk.lt * 2 ^ 28 < (s.advance t).dramc.due)
    ∧ (∃ (a : Acc)  (s : State), s.clk.held = false ∧ (s.advance a.t).checkPage a (R.DRAMC_ERR_POP) true 4 = none) :=
  ⟨⟨0, 2, st.setPart 2 { state := .resetting, phase := .drain }, by decide +kernel⟩,
   ⟨500, 2, { st.setPart 2 { state := .resetting, phase := .drain, drainEnd := 400 } with ulf := { reads := [{ tag := 1, req := 1, part := 2, addr := 0x41000000, since := 0 }] } }, by decide +kernel⟩,
   ⟨0, 2, st.setPart 2 { state := .resetting, phase := .squash }, by decide +kernel⟩,
   ⟨0, 2, st.setPart 2 { state := .resetting, phase := .clean, cause := .command }, by decide +kernel⟩,
   ⟨0, { st.setPart 9 { state := .resetting, phase := .clean, cause := .cluster } with parts := { (st.setPart 9 { state := .resetting, phase := .clean, cause := .cluster }).parts with clusterDown := true } }, by decide +kernel⟩,
   ⟨100000, 8, 0, 0, st, by decide +kernel⟩,
   ⟨0, { st.setReg R.DRAMC_SCRUB 0x80000000 with dramc := { ready := true } }, by decide +kernel⟩,
   ⟨0, { st.setReg R.DRAMC_SCRUB 0x80000000 with dramc := { ready := true } }, by decide +kernel⟩,
   ⟨0, .clean, st, by decide +kernel⟩,
   ⟨acc0, { st with dramc := { errValid := true } }, by decide +kernel⟩⟩

theorem test_meets_powerStates :
    (∃ (t : Nat) (executing : Bool) (timers : List (Fin 32 × Nat)) (st1 : PwrState) (s : State), s.clk.held =
        false ∧ (s.advance t).pwr.target = none ∧ (s.advance t).pwr.exiting = false ∧ (s.advance t).pwr.zsp.state
        ≠ .asleep ∧ ((s.advance t).setPwr { (s.advance t).pwr with executing := executing }).encke (((s.advance
        t).setPwr { (s.advance t).pwr with executing := executing }).knownEvents timers) = st1 ∧ (s.advance
        t).pwr.state.code < st1.code)
    ∧ (∃ (t : Nat) (st1 : PwrState) (s : State), s.clk.held = false ∧ (s.advance t).pwr.target = some st1 ∧
        (s.advance t).pwr.began + st1.entryNs ≤ (s.advance t).clk.lt)
    ∧ (∃ (t : Nat) (x : Nat) (s : State), s.clk.held = false ∧ (s.advance t).pwr.exitAt = some x ∧ x ≤ (s.advance
        t).clk.lt ∧ (s.advance t).pwr.target = none ∧ (s.advance t).pwr.exiting = false ∧ (s.advance t).pwr.state
        ≠ .run ∧ (s.advance t).pwr.zsp.state ≠ .asleep)
    ∧ (∃ (t : Nat) (paired : Bool) (unit : Fin 2) (s : State), s.clk.held = false ∧ (s.advance t).pwr.exiting =
        true ∧ (s.advance t).pwr.state ≠ .dormant)
    ∧ (∃ (t : Nat) (paired : Bool) (unit : Fin 2) (s : State), s.clk.held = false ∧ (s.advance t).pwr.exiting =
        true ∧ (s.advance t).pwr.state = .dormant)
    ∧ (∃ (t : Nat) (s : State), s.clk.held = false ∧ (s.advance t).pwr.state = .drowse ∧ (s.advance t).pwr.slow =
        true)
    ∧ (∃ (a : Acc) (val : Word) (s : State), s.clk.held = false ∧ (s.advance a.t).checkPage a
        (R.PWR_NEXT_NEED_HI) true 4 = none)
    ∧ (∃ (t : Nat) (p : Fin 32) (s : State), s.clk.held = false ∧ (s.advance t).isRunning p = true ∧ ((s.advance
        t).need p).time ≤ (s.advance t).clk.lt ∧ (s.advance t).pwr.zsp.state = .ready ∧ (s.advance t).notReady ≠ 0) :=
  ⟨⟨0, false, [], .drowse, st.setReg R.PWR_CFG 5, by decide +kernel⟩,
   ⟨40000000, .park, { st with pwr := { target := some .park } }, by decide +kernel⟩,
   ⟨4000, 3000, { st with pwr := { state := .nap, exitAt := some 3000 } }, by decide +kernel⟩,
   ⟨4000, true, 1, { st with pwr := { state := .nap, exiting := true } }, by decide +kernel⟩,
   ⟨4000, true, 1, { st with pwr := { state := .dormant, exiting := true } }, by decide +kernel⟩,
   ⟨4000, { st with pwr := { state := .drowse, slow := true } }, by decide +kernel⟩,
   ⟨acc0, 5, st, by decide +kernel⟩,
   ⟨4000, 0, { st with pwr := { zsp := { state := .ready }, needs := [(0, { time := 5 })] } }, by decide +kernel⟩⟩

theorem test_meets_sleepProtocol :
    (∃ (t : Nat) (eth : Bool) (ecc : EccFound) (body : List Byte) (stamp : Nat) (out : State) (s : State),
        s.clk.held = false ∧ (s.advance t).zspTake eth ecc = some (body, stamp, out) ∧ body ≠ [] ∧ zspByte body 0
        = 1 ∧ zspByte body 2 = (s.advance t).regF R.PWR_ZSP_CFG 13 8 ∧ out.pwr.zsp.seen ≠ some (body, !eth) ∧
        out.pwr.zsp.state.awakeLike = true)
    ∧ (∃ (t : Nat) (eth : Bool) (ecc : EccFound) (body : List Byte) (stamp : Nat) (out : State) (s : State),
        s.clk.held = false ∧ (s.advance t).zspTake eth ecc = some (body, stamp, out) ∧ body ≠ [] ∧ zspByte body 0
        = 3 ∧ zspByte body 2 = (s.advance t).regF R.PWR_ZSP_CFG 13 8 ∧ out.pwr.zsp.seen ≠ some (body, !eth) ∧
        out.pwr.zsp.state.awakeLike = true)
    ∧ (∃ (t : Nat) (eth : Bool) (ecc : EccFound) (body : List Byte) (stamp : Nat) (out : State) (s : State),
        s.clk.held = false ∧ (s.advance t).zspTake eth ecc = some (body, stamp, out) ∧ body ≠ [] ∧ zspByte body 0
        = 4 ∧ zspByte body 2 = (s.advance t).regF R.PWR_ZSP_CFG 13 8 ∧ out.pwr.zsp.seen ≠ some (body, !eth) ∧
        (out.pwr.zsp.state = .ready ∨ out.pwr.zsp.state = .notReady))
    ∧ (∃ (t : Nat) (eth : Bool) (ecc : EccFound) (body : List Byte) (stamp : Nat) (out : State) (s : State),
        s.clk.held = false ∧ (s.advance t).zspTake eth ecc = some (body, stamp, out) ∧ body ≠ [] ∧ zspByte body 0
        = 2 ∧ zspByte body 1 = out.pwr.zsp.round ∧ zspByte body 2 < 64)
    ∧ (∃ (t : Nat) (s : State), s.clk.held = false ∧ (s.advance t).pwr.zsp.state = .committed ∧ (s.advance
        t).pwr.zsp.tc ≤ (s.advance t).clk.lt)
    ∧ (∃ (a : Acc) (delay : Fin 65536) (s : State), s.clk.held = false ∧ (s.advance a.t).checkPage a (R.PWR_CMD)
        true 4 = none ∧ (s.advance a.t).regB R.PWR_CFG 4 = false ∧ (s.advance a.t).pwr.zsp.state.awakeLike = true) :=
  ⟨⟨0, false, .clean, [1, 7, 0, 255, 255, 255, 255, 255], 0, (zspS [1, 7, 0, 255, 255, 255, 255, 255] .awake).mbRelease 3 9, zspS [1, 7, 0, 255, 255, 255, 255, 255] .awake, by decide +kernel⟩,
   ⟨0, false, .clean, [3, 7, 0, 255, 9, 1, 255, 255], 0, (zspS [3, 7, 0, 255, 9, 1, 255, 255] .ready).mbRelease 3 9, zspS [3, 7, 0, 255, 9, 1, 255, 255] .ready, by decide +kernel⟩,
   ⟨0, false, .clean, [4, 7, 0, 255, 9, 1, 255, 255], 0, (zspS [4, 7, 0, 255, 9, 1, 255, 255] .ready).mbRelease 3 9, zspS [4, 7, 0, 255, 9, 1, 255, 255] .ready, by decide +kernel⟩,
   ⟨0, false, .clean, [2, 0, 5, 3, 9, 1, 255, 255], 0, (zspS [2, 0, 5, 3, 9, 1, 255, 255] .ready).mbRelease 3 9, zspS [2, 0, 5, 3, 9, 1, 255, 255] .ready, by decide +kernel⟩,
   ⟨500, { st with pwr := { zsp := { state := .committed, tc := 400 } } }, by decide +kernel⟩,
   ⟨acc0, 300, st, by decide +kernel⟩⟩

theorem test_meets_networkWake :
    (∃ (t : Nat) (cause : WakeCause) (index : Fin 256) (s : State), s.clk.held = false ∧ cause.requests = true
        ∧ (s.advance t).wakeKnown cause index = false ∧ (s.advance t).pwr.zsp.state = .committed ∧ (s.advance
        t).pwr.zsp.latched = none)
    ∧ (∃ (a : Acc)  (s : State), s.clk.held = false ∧ (s.advance a.t).checkPage a (R.PWR_CMD) true 4 = none ∧
        (s.advance a.t).pwr.zsp.state = .awake)
    ∧ (∃ (t : Nat) (lines : Fin 4) (s : State), s.clk.held = false ∧ fld (word lines &&& ((s.advance t).reg
        R.PWR_WAKE_CFG >>> 16)) 1 0 ≠ 0 ∧ (s.advance t).pwr.zsp.driving = none ∧ (s.advance t).pwr.zsp.state =
        .asleep ∧ (s.advance t).pwr.zsp.latched = none)
    ∧ (∃ (t : Nat) (f : Nat) (s : State), s.clk.held = false ∧ (s.advance t).pwr.zsp.latched = none ∧ (s.advance
        t).pwr.zsp.driveFrom = some f ∧ f ≤ (s.advance t).clk.lt)
    ∧ (∃ (t : Nat) (d : Nat) (s : State), s.clk.held = false ∧ (s.advance t).pwr.zsp.driving = some d ∧ d +
        (s.advance t).driveNs ≤ (s.advance t).clk.lt)
    ∧ (∃ (t : Nat) (s : State), s.clk.held = false ∧ (s.advance t).pwr.zsp.silent = false ∧ (s.advance
        t).pwr.zsp.reasonCan = true)
    ∧ (∃ (t : Nat) (s : State), s.clk.held = false ∧ (s.advance t).pwr.zsp.silent = false ∧ (s.advance
        t).pwr.zsp.reasonEth = true)
    ∧ (∃ (t : Nat) (r : Nat) (s : State), s.clk.held = false ∧ (s.advance t).pwr.zsp.firstReady = some r ∧
        (s.advance t).regF R.PWR_ZSP_CTRL 15 8 ≠ 0 ∧ (s.advance t).pwr.zsp.salDone = false ∧ r + (s.advance
        t).regF R.PWR_ZSP_CTRL 15 8 * 1000000000 ≤ (s.advance t).clk.lt)
    ∧ (∃ (t : Nat) (s : State), s.clk.held = false ∧ (s.advance t).regF R.PWR_CFG 31 24 ≠ 0 ∧ (s.advance t).regF
        R.PWR_CFG 31 24 * 60 ≤ (s.advance t).awakeS ∧ (s.advance t).regB R.PWR_ZSP_CTRL 0 = true ∧ (s.advance
        t).pwr.zsp.maxDone = false ∧ (s.advance t).pwr.zsp.state.awakeLike = true) :=
  ⟨⟨500, .can, 3, { st with pwr := { zsp := { state := .committed, tc := 400 } } }, by decide +kernel⟩,
   ⟨acc0, st, by decide +kernel⟩,
   ⟨500, 2, { st.setReg R.PWR_WAKE_CFG 0x30000 with pwr := { zsp := { state := .asleep, silent := true } } }, by decide +kernel⟩,
   ⟨500, 400, { st with pwr := { zsp := { driveFrom := some 400 } } }, by decide +kernel⟩,
   ⟨300000000, 400, { st with pwr := { zsp := { driving := some 400 } } }, by decide +kernel⟩,
   ⟨500, { st with pwr := { zsp := { reasonCan := true } } }, by decide +kernel⟩,
   ⟨500, { st with pwr := { zsp := { reasonEth := true } } }, by decide +kernel⟩,
   ⟨5000000000, 400, { st.setReg R.PWR_ZSP_CTRL 0x00080200 with pwr := { zsp := { firstReady := some 400 } } }, by decide +kernel⟩,
   ⟨70000000000, (st.setReg R.PWR_CFG 0x01000005).setReg R.PWR_ZSP_CTRL 1, by decide +kernel⟩⟩

theorem test_meets_linkTraining :
    (∃ (t : Nat) (s : State), s.clk.held = false ∧ (s.advance t).ulf.state = .down ∧ (s.advance t).ulf.holdoff
        ≤ (s.advance t).clk.lt ∧ (s.advance t).ulf.since + 1000000 ≤ (s.advance t).clk.lt)
    ∧ (∃ (t : Nat) (s : State), s.clk.held = false ∧ (s.advance t).ulf.state = .train ∧ (s.advance t).clk.lt ≤
        (s.advance t).ulf.since + 1000000)
    ∧ (∃ (t : Nat) (s : State), s.clk.held = false ∧ (s.advance t).ulf.state = .train ∧ (s.advance t).ulf.since +
        1000000 ≤ (s.advance t).clk.lt)
    ∧ (∃ (t : Nat) (unit : Fin 2) (paired : Bool) (major p np c tun prc : Byte) (s : State), s.clk.held = false ∧
        (s.advance t).ulf.state = .param ∧ unit.val ≠ (s.advance t).hw.unitId ∧ paired = true ∧ (s.advance
        t).hw.paired = true ∧ major = 1)
    ∧ (∃ (t : Nat) (unit : Fin 2) (paired : Bool) (major p np c tun prc : Byte) (s : State), s.clk.held = false ∧
        (s.advance t).ulf.state = .param ∧ ¬ (unit.val ≠ (s.advance t).hw.unitId ∧ paired = true ∧ (s.advance
        t).hw.paired = true ∧ major = 1))
    ∧ (∃ (t : Nat) (lock : Fin 4) (s : State), s.clk.held = false ∧ (s.advance t).ulf.state = .up ∧ (lock ≠ 3 ∨
        (s.advance t).ulf.lastGood + 1000 ≤ (s.advance t).clk.lt))
    ∧ (∃ (a : Acc)  (s : State), s.clk.held = false ∧ (s.advance a.t).checkPage a (R.ULF_CMD) true 4 = none ∧
        (s.advance a.t).ulf.state = .up)
    ∧ (∃ (t : Nat) (s : State), s.clk.held = false ∧ (s.advance t).ulf.state = .retrain ∧ (s.advance t).clk.lt ≤
        (s.advance t).ulf.since + 200000 ∧ (s.advance t).ulf.replay.any (fun x => x.sends == 7) = false)
    ∧ (∃ (t : Nat) (s : State), s.clk.held = false ∧ (s.advance t).ulf.state = .retrain ∧ (s.advance t).clk.lt ≤
        (s.advance t).ulf.since + 200000 ∧ (s.advance t).ulf.replay.any (fun x => x.sends == 7) = true)
    ∧ (∃ (t : Nat) (s : State), s.clk.held = false ∧ (s.advance t).ulf.state = .retrain ∧ (s.advance t).ulf.since
        + 200000 ≤ (s.advance t).clk.lt) :=
  ⟨⟨2000000, ulfS { state := .down }, by decide +kernel⟩,
   ⟨2000, ulfS { state := .train }, by decide +kernel⟩,
   ⟨2000000, ulfS { state := .train }, by decide +kernel⟩,
   ⟨2000, 1, true, 1, 100, 20, 90, 255, 9, ulfS { state := .param }, by decide +kernel⟩,
   ⟨2000, 0, true, 1, 100, 20, 90, 255, 9, ulfS { state := .param }, by decide +kernel⟩,
   ⟨20, 2, ulfS ulfUp, by decide +kernel⟩,
   ⟨acc0, ulfS ulfUp, by decide +kernel⟩,
   ⟨20, ulfS { ulfUp with state := .retrain }, by decide +kernel⟩,
   ⟨20, ulfS { ulfUp with state := .retrain, replay := [⟨4, { type := 4 }, 7⟩] }, by decide +kernel⟩,
   ⟨200020, ulfS { ulfUp with state := .retrain }, by decide +kernel⟩⟩

theorem test_meets_linkTransfers :
    (∃ (t : Nat) (flit : List Byte) (crc : Word) (bad : List Nat) (s : State), s.clk.held = false ∧ (s.advance
        t).ulf.state = .up ∧ (crc32c flit ≠ crc.toNat ∨ flit.length ≠ 72 ∨ 12 ≤ leVal (flit.take 8) % 16))
    ∧ (∃ (t : Nat) (flit : List Byte) (crc : Word) (bad : List Nat) (s : State), s.clk.held = false ∧ (s.advance
        t).ulf.state = .up ∧ flit.length = 72 ∧ crc32c flit = crc.toNat ∧ 2 ≤ leVal (flit.take 8) % 16 ∧ leVal
        (flit.take 8) % 16 < 12 ∧ leVal (flit.take 8) / 2 ^ 12 % 4096 ≠ ((s.advance t).ulf.ack + 1) % 4096)
    ∧ (∃ (t : Nat) (flit : List Byte) (crc : Word) (bad : List Nat) (s : State), s.clk.held = false ∧ (s.advance
        t).ulf.state = .up ∧ flit.length = 72 ∧ crc32c flit = crc.toNat ∧ leVal (flit.take 8) % 16 = 4 ∧ leVal
        (flit.take 8) / 2 ^ 12 % 4096 = ((s.advance t).ulf.ack + 1) % 4096)
    ∧ (∃ (t : Nat) (s : State), s.clk.held = false ∧ (s.advance t).ulf.nak = true ∧ (s.advance t).ulf.nakSince +
        2000 ≤ (s.advance t).clk.lt)
    ∧ (∃ (t : Nat) (tag part : Nat) (l : List (Nat × Nat)) (s : State), s.clk.held = false ∧ (s.advance
        t).ulf.fencesIn = (tag, part) :: l)
    ∧ (∃ (t : Nat) (x : Combined) (s : State), s.clk.held = false ∧ (s.advance t).ulf.comb = some x ∧ (s.advance
        t).ulf.combAt + 16 * (s.advance t).cycleNs ≤ (s.advance t).clk.lt)
    ∧ (∃ (a : Acc)  (s : State), s.clk.held = false ∧ (s.advance a.t).checkPage a (R.ULF_CMD) true 4 = none)
    ∧ (∃ (a : Acc) (addr : Nat) (s : State), s.clk.held = false ∧ rangeOf addr = .partner ∧ addr % 4 = 0 ∧
        a.req.val ≠ 19 ∧ (s.advance a.t).hw.paired = true ∧ (s.advance a.t).ulf.state = .up)
    ∧ (∃ (a : Acc) (addr : Nat) (s : State), s.clk.held = false ∧ rangeOf addr = .partner ∧ addr % 4 = 0 ∧
        a.req.val ≠ 19 ∧ (s.advance a.t).ulf.state = .down)
    ∧ (∃ (t : Nat) (c : CplRx) (l : List CplRx) (r : ViewRead) (s : State), s.clk.held = false ∧ (s.advance
        t).ulf.cplIn = c :: l ∧ (s.advance t).ulf.reads.find? (fun r => r.tag == c.tag) = some r ∧ r.chan = none ∧
        c.status = 0 ∧ ((s.advance t).part r.part).state ≠ .resetting)
    ∧ (∃ (t : Nat) (c : CplRx) (l : List CplRx) (r : ViewRead) (s : State), s.clk.held = false ∧ (s.advance
        t).ulf.cplIn = c :: l ∧ (s.advance t).ulf.reads.find? (fun r => r.tag == c.tag) = some r ∧ r.chan = none ∧
        c.status = 1)
    ∧ (∃ (t : Nat) (c : CplRx) (l : List CplRx) (r : ViewRead) (s : State), s.clk.held = false ∧ (s.advance
        t).ulf.cplIn = c :: l ∧ (s.advance t).ulf.reads.find? (fun r => r.tag == c.tag) = some r ∧ r.chan = none ∧
        c.status = 0 ∧ ((s.advance t).part r.part).state = .resetting)
    ∧ (∃ (t : Nat) (c : CplRx) (l : List CplRx) (r : ViewRead) (s : State), s.clk.held = false ∧ (s.advance
        t).ulf.cplIn = c :: l ∧ (s.advance t).ulf.reads.find? (fun r => r.tag == c.tag) = some r ∧ r.chan = none ∧
        2 ≤ c.status)
    ∧ (∃ (t : Nat) (r : ViewRead) (s : State), s.clk.held = false ∧ (s.advance t).ulf.reads.find? (fun r =>
        decide (r.since + (s.advance t).readTimeUs * 1000 ≤ (s.advance t).clk.lt)) = some r ∧ r.chan = none) :=
  ⟨⟨20, flF, 5, [], ulfS ulfUp, by decide +kernel⟩,
   ⟨20, flG, word (crc32c flG), [], ulfS ulfUp, by decide +kernel⟩,
   ⟨20, flF, word (crc32c flF), [], ulfS ulfUp, by decide +kernel⟩,
   ⟨3000, ulfS { ulfUp with nak := true }, by decide +kernel⟩,
   ⟨3000, 77, 3, [], ulfS { ulfUp with fencesIn := [(77, 3)], wfLost := [(3, 6)] }, by decide +kernel⟩,
   ⟨3000, ⟨1, 2, 0x80000000, [1, 2]⟩, ulfS { ulfUp with comb := some ⟨1, 2, 0x80000000, [1, 2]⟩ }, by decide +kernel⟩,
   ⟨acc0, ulfS { ulfUp with lers := [(0, [⟨1, 2, 3, 1⟩])] }, by decide +kernel⟩,
   ⟨acc0, 0x41010000, ulfS ulfUp, by decide +kernel⟩,
   ⟨acc0, 0x41010000, ulfS { state := .down }, by decide +kernel⟩,
   ⟨50, ⟨7, 0, 99⟩, [], ⟨7, 0, 0, 0x40010000, 0, none⟩, ulfS { ulfUp with cplIn := [⟨7, 0, 99⟩], reads := [⟨7, 0, 0, 0x40010000, 0, none⟩] }, by decide +kernel⟩,
   ⟨50, ⟨7, 1, 0⟩, [], ⟨7, 0, 0, 0x40010000, 0, none⟩, ulfS { ulfUp with cplIn := [⟨7, 1, 0⟩], reads := [⟨7, 0, 0, 0x40010000, 0, none⟩] }, by decide +kernel⟩,
   ⟨50, ⟨7, 0, 99⟩, [], ⟨7, 3, 0, 0x40010000, 0, none⟩, (ulfS { ulfUp with cplIn := [⟨7, 0, 99⟩], reads := [⟨7, 3, 0, 0x40010000, 0, none⟩] }).setPart 3 { state := .resetting }, by decide +kernel⟩,
   ⟨50, ⟨7, 2, 0⟩, [], ⟨7, 0, 0, 0x40010000, 0, none⟩, ulfS { ulfUp with cplIn := [⟨7, 2, 0⟩], reads := [⟨7, 0, 0, 0x40010000, 0, none⟩] }, by decide +kernel⟩,
   ⟨2000000, ⟨7, 0, 0, 0x40010000, 0, none⟩, ulfS { ulfUp with reads := [⟨7, 0, 0, 0x40010000, 0, none⟩] }, by decide +kernel⟩⟩

theorem test_linkTransfers_bytes : ∃ (x : SentFlit) (ack credClass credCount : Nat) (nak : Bool), x.flit.type < 16 ∧
    x.flit.payload.length ≤ 64 ∧ x.seq < 4096 ∧ ack < 4096 ∧ credClass < 8 ∧ credCount < 32 ∧ x.flit.tag < 65536 ∧
    x.bytes ack nak credClass credCount = leBytes 8 0x0007012F0FFFF034 ++ List.replicate 64 (0 : Byte) :=
  ⟨⟨4095, { type := 4, tag := 7, payload := [0, 0, 0] }, 1⟩, 0xF0F, 1, 1, false, by decide +kernel⟩

theorem test_meets_pairContact :
    (∃ (t : Nat) (diverged : Word) (m : PairMsg) (out : State) (s : State), s.clk.held = false ∧ (s.advance
        t).takeMsg 2 = some (m, out) ∧ (s.advance t).pairOn = true ∧ (s.advance t).pair.left = false ∧ word
        m.word0 = (s.advance t).pairedMask ∧ word m.word1 = (s.advance t).prefMask)
    ∧ (∃ (t : Nat) (diverged : Word) (m : PairMsg) (out : State) (s : State), s.clk.held = false ∧ (s.advance
        t).takeMsg 2 = some (m, out) ∧ (s.advance t).pairOn = true ∧ (s.advance t).pair.left = false ∧ ¬ (word
        m.word0 = (s.advance t).pairedMask ∧ word m.word1 = (s.advance t).prefMask))
    ∧ (∃ (t : Nat) (s : State), s.clk.held = false ∧ (s.advance t).pair.contact = true ∧ (s.advance t).clk.lt %
        100000 = 0 ∧ (s.advance t).ulf.state = .up ∧ (s.advance t).ulf.replay.length < 256 ∧ 1 ≤ (s.advance
        t).ulf.credPr ∧ (s.advance t).ulf.waitP = [] ∧ (s.advance t).ulf.waitNp = [] ∧ (s.advance t).ulf.waitC =
        [] ∧ (s.advance t).ulf.waitT = [] ∧ (s.advance t).ulf.waitPr = [])
    ∧ (∃ (t : Nat) (m : PairMsg) (out : State) (s : State), s.clk.held = false ∧ (s.advance t).takeMsg 1 = some
        (m, out) ∧ (s.advance t).pair.contact = true ∧ (s.advance t).pair.leaving = false)
    ∧ (∃ (t : Nat) (part : Fin 32) (m : PairMsg) (out : State) (s : State), s.clk.held = false ∧ (s.advance
        t).takeMsg 1 = some (m, out) ∧ (s.advance t).pair.contact = true ∧ (s.advance t).pairOn = true ∧
        (s.advance t).isPaired part = true ∧ (s.advance t).holds part = true ∧ bit (word m.word0) part = true ∧
        ((s.advance t).pp part).offered = true ∧ (s.advance t).pair.handover = none)
    ∧ (∃ (t : Nat) (part : Fin 32) (m : PairMsg) (out : State) (s : State), s.clk.held = false ∧ (s.advance
        t).takeMsg 1 = some (m, out) ∧ (s.advance t).pair.contact = true ∧ (s.advance t).pair.leased = false ∧
        (s.advance t).pairOn = true ∧ (s.advance t).isPaired part = true ∧ (s.advance t).holds part = true ∧ bit
        (word m.word0) part = true ∧ ((s.advance t).pp part).offered = false ∧ ((s.advance t).pp part).split =
        false)
    ∧ (∃ (t : Nat) (part : Fin 32) (m : PairMsg) (out : State) (s : State), s.clk.held = false ∧ (s.advance
        t).takeMsg 1 = some (m, out) ∧ (s.advance t).pair.contact = true ∧ (s.advance t).pairOn = true ∧
        (s.advance t).isPaired part = true ∧ (s.advance t).holds part = false ∧ (s.advance t).roleOf part ≠ .none
        ∧ bit (word m.word0) part = false ∧ (s.advance t).pair.left = false ∧ (s.advance t).healthy part = true ∧
        ((s.advance t).regF (R.PAIR_PCFG part) 30 30 = (s.advance t).hw.unitId % 2 ∨ bit (word m.word1) part =
        false))
    ∧ (∃ (t : Nat) (s : State), s.clk.held = false ∧ (s.advance t).pair.contact = false ∨ (s.advance t).clk.lt %
        100000 ≠ 0)
    ∧ (∃ (t : Nat) (m : PairMsg) (out : State) (s : State), s.clk.held = false ∧ (s.advance t).takeMsg 1 = some
        (m, out) ∧ (s.advance t).pair.contact = false)
    ∧ (∃ (t : Nat) (diverged : Word) (m : PairMsg) (out : State) (s : State), s.clk.held = false ∧ (s.advance
        t).takeMsg 2 = some (m, out) ∧ ((s.advance t).pairOn = false ∨ (s.advance t).pair.left = true))
    ∧ (∃ (a : Acc)  (s : State), s.clk.held = false ∧ (s.advance a.t).checkPage a (R.PAIR_HEART) true 4 = none)
    ∧ (∃ (t : Nat) (part : Fin 32) (h : Nat) (s : State), s.clk.held = false ∧ (s.advance t).regF (R.PAIR_PCFG
        part) 23 16 ≠ 0 ∧ ((s.advance t).pp part).heart = some h ∧ h + (s.advance t).regF (R.PAIR_PCFG part) 23 16
        * 1000000 < (s.advance t).clk.lt) :=
  ⟨⟨0, 0, { kind := 2, word0 := 8 }, prS (prR .solo) ulfUp, prS (prR .solo) (prU { kind := 2, word0 := 8 }), by decide +kernel⟩,
   ⟨0, 0, { kind := 2, word0 := 9 }, prS (prR .solo) ulfUp, prS (prR .solo) (prU { kind := 2, word0 := 9 }), by decide +kernel⟩,
   ⟨200000, prS { prR .active with contact := true } ulfUp, by decide +kernel⟩,
   ⟨0, { kind := 1, word0 := 8 }, prS { prR .standby with contact := true } ulfUp, prS { prR .standby with contact := true } (prU { kind := 1, word0 := 8 }), by decide +kernel⟩,
   ⟨0, 3, { kind := 1, word0 := 8 }, prS { contact := true, parts := [(3, { role := .active, offered := true })] } ulfUp, prS { contact := true, parts := [(3, { role := .active, offered := true })] } (prU { kind := 1, word0 := 8 }), by decide +kernel⟩,
   ⟨0, 3, { kind := 1, word0 := 8 }, prS { contact := true, parts := [(3, { role := .active, claimed := true })] } ulfUp, prS { contact := true, parts := [(3, { role := .active, claimed := true })] } (prU { kind := 1, word0 := 8 }), by decide +kernel⟩,
   ⟨0, 3, { kind := 1 }, prS { contact := true, parts := [(3, { role := .standby })] } ulfUp, prS { contact := true, parts := [(3, { role := .standby })] } (prU { kind := 1 }), by decide +kernel⟩,
   ⟨250000, prS { prR .active with contact := true } ulfUp, by decide +kernel⟩,
   ⟨0, { kind := 1, word0 := 8 }, prS (prR .standby) ulfUp, prS (prR .standby) (prU { kind := 1, word0 := 8 }), by decide +kernel⟩,
   ⟨0, 0, { kind := 2, word0 := 8 }, prS { prR .solo with left := true } ulfUp, prS { prR .solo with left := true } (prU { kind := 2, word0 := 8 }), by decide +kernel⟩,
   ⟨acc0, prS (prR .standby) {}, by decide +kernel⟩,
   ⟨3000000, 3, 0, (prS { parts := [(3, { heart := some 0 })] } {}).setReg (R.PAIR_PCFG 3) 0x80020000, by decide +kernel⟩⟩

theorem test_meets_pairTakeover :
    (∃ (t : Nat) (part : Fin 32) (m : PairMsg) (out : State) (s : State), s.clk.held = false ∧ (s.advance
        t).msgFor 3 part = some (m, out) ∧ (s.advance t).mayClaim part = true)
    ∧ (∃ (t : Nat) (part : Fin 32) (s : State), s.clk.held = false ∧ ((s.advance t).msgFor 3 part).isNone = true
        ∧ (s.advance t).mayClaim part = true ∧ (s.advance t).claimsSuspended = false ∧ 320 ≤ (s.advance t).ageUs
        (s.advance t).pair.leaseAt ∧ (s.advance t).pair.authIn = false)
    ∧ (∃ (t : Nat) (part : Fin 32) (s : State), s.clk.held = false ∧ ((s.advance t).msgFor 3 part).isNone = true
        ∧ (s.advance t).mayClaim part = true ∧ (s.advance t).claimsSuspended = false ∧ (s.advance t).pair.authIn =
        true ∧ (s.advance t).reg R.PAIR_BB_PORTS ≠ 0 ∧ 10000 ≤ (s.advance t).ageUs (s.advance t).pair.leaseAt ∧
        10000 ≤ (s.advance t).ageUs (s.advance t).pair.bbAt)
    ∧ (∃ (t : Nat) (part : Fin 32) (s : State), s.clk.held = false ∧ ((s.advance t).msgFor 3 part).isNone = true
        ∧ (s.advance t).claimsSuspended = true)
    ∧ (∃ (t : Nat) (part : Fin 32) (s : State), s.clk.held = false ∧ ((s.advance t).msgFor 3 part).isNone = true
        ∧ ((s.advance t).mayClaim part = false ∨ (s.advance t).fastClaim = false ∧ (s.advance t).slowClaim =
        false))
    ∧ (∃ (t : Nat) (part : Fin 32) (m : PairMsg) (out : State) (s : State), s.clk.held = false ∧ (s.advance
        t).msgFor 3 part = some (m, out) ∧ (s.advance t).mayClaim part = false)
    ∧ (∃ (t : Nat) (x : Nat) (s : State), s.clk.held = false ∧ (s.advance t).pair.suspend = some x ∧ x ≤
        (s.advance t).clk.lt)
    ∧ (∃ (a : Acc) (target : Fin 32) (s : State), s.clk.held = false ∧ (s.advance a.t).checkPage a (R.PAIR_CMD)
        true 4 = none ∧ (s.advance a.t).roleOf target = .active ∧ (s.advance a.t).pair.contact = true ∧ (s.advance
        a.t).partnerReady target = true ∧ ((s.advance a.t).bank target).pending = none ∧ (s.advance
        a.t).pair.handover = none)
    ∧ (∃ (a : Acc) (target : Fin 32) (s : State), s.clk.held = false ∧ (s.advance a.t).checkPage a (R.PAIR_CMD)
        true 4 = none ∧ ¬ ((s.advance a.t).roleOf target = .active ∧ (s.advance a.t).pair.contact = true ∧
        (s.advance a.t).partnerReady target = true ∧ ((s.advance a.t).bank target).pending = none ∧ (s.advance
        a.t).pair.handover = none))
    ∧ (∃ (a : Acc) (key : Byte) (s : State), s.clk.held = false ∧ (s.advance a.t).checkPage a (R.PAIR_CMD) true 4
        = none ∧ key ≠ 0x96)
    ∧ (∃ (a : Acc) (key : Byte) (s : State), s.clk.held = false ∧ (s.advance a.t).checkPage a (R.PAIR_CMD) true 4
        = none ∧ key ≠ 0x96)
    ∧ (∃ (a : Acc)  (s : State), s.clk.held = false ∧ (s.advance a.t).checkPage a (R.PAIR_CMD) true 4 = none ∧
        (s.advance a.t).pairOn = false ∨ (s.advance a.t).pair.leaving = true ∨ (s.advance a.t).pair.left = true)
    ∧ (∃ (a : Acc)  (s : State), s.clk.held = false ∧ (s.advance a.t).checkPage a (R.PAIR_CMD) true 4 = none ∧
        (s.advance a.t).pair.leaving = false ∧ (s.advance a.t).pair.left = false)
    ∧ (∃ (a : Acc)  (s : State), s.clk.held = false ∧ (s.advance a.t).checkPage a (R.PAIR_CMD) true 4 = none ∧
        (s.advance a.t).pair.left = true)
    ∧ (∃ (a : Acc) (key : Byte) (target : Fin 32) (s : State), s.clk.held = false ∧ (s.advance a.t).checkPage a
        (R.PAIR_CMD) true 4 = none ∧ key ≠ 0x96)
    ∧ (∃ (t : Nat) (h : Handover) (s : State), s.clk.held = false ∧ (s.advance t).pair.handover = some h ∧
        h.released = false ∧ (s.advance t).ulf.postedDone = true)
    ∧ (∃ (a : Acc)  (s : State), s.clk.held = false ∧ (s.advance a.t).checkPage a (R.PAIR_CMD) true 4 = none ∧
        (s.advance a.t).pairOn = true ∧ (s.advance a.t).pair.leaving = false ∧ (s.advance a.t).pair.left = false ∧
        (s.advance a.t).pair.handover = none ∧ ∀ p : Fin 32, (s.advance a.t).holds p = false)
    ∧ (∃ (a : Acc) (p : Nat) (s : State), s.clk.held = false ∧ (s.advance a.t).checkPage a (R.PAIR_CMD) true 4 =
        none ∧ (s.advance a.t).pair.leaving = false ∧ (s.advance a.t).pair.left = false ∧ (s.advance
        a.t).pair.handover = none ∧ (s.advance a.t).pairedParts.find? (fun p => (s.advance a.t).holds p) = some p
        ∧ (s.advance a.t).partnerReady p = false)
    ∧ (∃ (a : Acc)  (s : State), s.clk.held = false ∧ (s.advance a.t).checkPage a (R.PAIR_CMD) true 4 = none ∧
        (s.advance a.t).pair.leaving = true ∧ (s.advance a.t).pair.left = false)
    ∧ (∃ (t : Nat) (m : PairMsg) (out : State) (s : State), s.clk.held = false ∧ (s.advance t).takeMsg 10 = some
        (m, out) ∧ (s.advance t).pair.contact = true) :=
  ⟨⟨0, 3, { kind := 3, part := 3 }, prS { prR .standby with contact := true } ulfUp, prS { prR .standby with contact := true } (prU { kind := 3, part := 3 }), by decide +kernel⟩,
   ⟨400000, 3, prS { prR .standby with leaseAt := some 0 } ulfUp, by decide +kernel⟩,
   ⟨11000000, 3, (prS { prR .standby with leaseAt := some 0, authIn := true } ulfUp).setReg R.PAIR_BB_PORTS 3, by decide +kernel⟩,
   ⟨400000, 3, prS { prR .standby with suspend := some 900000 } ulfUp, by decide +kernel⟩,
   ⟨300000, 3, prS { prR .standby with leaseAt := some 0 } ulfUp, by decide +kernel⟩,
   ⟨0, 3, { kind := 3, part := 3 }, prS (prR .active) ulfUp, prS (prR .active) (prU { kind := 3, part := 3 }), by decide +kernel⟩,
   ⟨400000, 500, prS { prR .standby with suspend := some 500 } ulfUp, by decide +kernel⟩,
   ⟨acc0, 3, prS { prR .active with contact := true, leased := true, pSynced := 8, pHealthy := 8 } ulfUp, by decide +kernel⟩,
   ⟨acc0, 3, prS (prR .standby) ulfUp, by decide +kernel⟩,
   ⟨acc0, 5, prS (prR .active) ulfUp, by decide +kernel⟩,
   ⟨acc0, 5, prS (prR .active) ulfUp, by decide +kernel⟩,
   ⟨acc0, st, by decide +kernel⟩,
   ⟨acc0, st, by decide +kernel⟩,
   ⟨acc0, prS { prR .standby with left := true } ulfUp, by decide +kernel⟩,
   ⟨acc0, 5, 3, prS { prR .active with contact := true } ulfUp, by decide +kernel⟩,
   ⟨400000, { part := 3 }, prS { prR .active with handover := some { part := 3 } } ulfUp, by decide +kernel⟩,
   ⟨acc0, prS { prR .standby with contact := true } ulfUp, by decide +kernel⟩,
   ⟨acc0, 3, prS { prR .active with contact := true } ulfUp, by decide +kernel⟩,
   ⟨acc0, prS { prR .active with leaving := true } ulfUp, by decide +kernel⟩,
   ⟨0, { kind := 10 }, prS { prR .active with contact := true } ulfUp, prS { prR .active with contact := true } (prU { kind := 10 }), by decide +kernel⟩⟩

theorem test_meets_pairCommit :
    (∃ (t : Nat) (part : Fin 32) (m : PairMsg) (out : State) (s : State), s.clk.held = false ∧ (s.advance
        t).msgFor 4 part = some (m, out) ∧ (s.advance t).pair.contact = true ∧ (s.advance t).pairOn = true ∧
        (s.advance t).isPaired part = true ∧ (s.advance t).roleOf part = .standby ∧ (s.advance t).partnerRole part
        = .active ∧ ((s.advance t).bank part).pending = none ∧ (s.advance t).timeOk m.time = true)
    ∧ (∃ (t : Nat) (part : Fin 32) (m : PairMsg) (out : State) (s : State), s.clk.held = false ∧ (s.advance
        t).msgFor 4 part = some (m, out) ∧ (s.advance t).pair.contact = false ∧ ((s.advance t).bank part).pending
        = none)
    ∧ (∃ (t : Nat) (part : Fin 32) (m : PairMsg) (out : State) (s : State), s.clk.held = false ∧ (s.advance
        t).msgFor 4 part = some (m, out) ∧ ((s.advance t).exchange part = none ∨ (s.advance t).hw.unitId ≠ 1) ∧
        (s.advance t).prepareReason part m ≠ 0)
    ∧ (∃ (t : Nat) (part : Fin 32) (m : PairMsg) (out : State) (c : PendingCommit) (s : State), s.clk.held =
        false ∧ (s.advance t).msgFor 4 part = some (m, out) ∧ (s.advance t).exchange part = some c ∧ (s.advance
        t).hw.unitId = 0 ∧ c.stage = .prepared ∧ (s.advance t).pairOn = true ∧ (s.advance t).isPaired part = true)
    ∧ (∃ (t : Nat) (part : Fin 32) (m : PairMsg) (out : State) (c : PendingCommit) (s : State), s.clk.held =
        false ∧ (s.advance t).msgFor 4 part = some (m, out) ∧ (s.advance t).exchange part = some c ∧ (s.advance
        t).hw.unitId = 1 ∧ c.stage = .prepared ∧ (s.advance t).pairOn = true ∧ (s.advance t).isPaired part = true
        ∧ (s.advance t).pair.contact = true ∧ (s.advance t).roleOf part = .standby ∧ (s.advance t).partnerRole
        part = .active ∧ (s.advance t).timeOk m.time = true)
    ∧ (∃ (t : Nat) (part : Fin 32) (m : PairMsg) (out : State) (c : PendingCommit) (s : State), s.clk.held =
        false ∧ (s.advance t).msgFor 4 part = some (m, out) ∧ (s.advance t).exchange part = some c ∧ (s.advance
        t).hw.unitId = 1 ∧ c.stage = .prepared ∧ ((s.advance t).pair.contact = false ∨ (s.advance t).roleOf part ≠
        .standby ∨ (s.advance t).partnerRole part ≠ .active) ∧ (s.advance t).pairOn = true ∧ (s.advance
        t).isPaired part = true)
    ∧ (∃ (t : Nat) (part : Fin 32) (m : PairMsg) (out : State) (c : PendingCommit) (s : State), s.clk.held =
        false ∧ (s.advance t).msgFor 4 part = some (m, out) ∧ (s.advance t).exchange part = some c ∧ (s.advance
        t).hw.unitId ≠ 0 ∧ c.stage = .none ∧ ((s.advance t).isPaired part && (s.advance t).pairOn) = false ∧
        (s.advance t).pair.contact = true ∧ c.time = m.time ∧ (s.advance t).timeOk m.time = true)
    ∧ (∃ (t : Nat) (part : Fin 32) (m : PairMsg) (out : State) (c : PendingCommit) (s : State), s.clk.held =
        false ∧ (s.advance t).msgFor 5 part = some (m, out) ∧ (s.advance t).exchange part = some c ∧
        (c.fromPartner = true ∨ c.stage ≠ .prepared))
    ∧ (∃ (t : Nat) (part : Fin 32) (c : PendingCommit) (s : State), s.clk.held = false ∧ (s.advance t).exchange
        part = some c ∧ c.time ≤ (s.advance t).syncNs + 250000 ∧ c.ownDrain = none ∧ c.fromPartner = false ∧
        c.stage = .prepared)
    ∧ (∃ (t : Nat) (part : Fin 32) (c : PendingCommit) (s : State), s.clk.held = false ∧ (s.advance t).exchange
        part = some c ∧ ((s.advance t).syncNs + 250000 < c.time ∨ c.ownDrain.isSome = true))
    ∧ (∃ (t : Nat) (part : Fin 32) (c : PendingCommit) (s : State), s.clk.held = false ∧ (s.advance t).exchange
        part = some c ∧ c.time ≤ (s.advance t).syncNs + 100000 ∧ c.fromPartner = false ∧ c.stage = .accepted ∧
        c.verdict = some 6 ∧ c.ownDrain ≠ some true)
    ∧ (∃ (t : Nat) (part : Fin 32) (c : PendingCommit) (s : State), s.clk.held = false ∧ (s.advance t).exchange
        part = some c ∧ c.time ≤ (s.advance t).syncNs + 100000 ∧ c.fromPartner = false ∧ (c.stage = .prepared ∧
        c.verdict ≠ some 6 ∨ c.stage = .accepted ∧ c.verdict ≠ some 0 ∧ c.verdict ≠ some 6) ∧ c.ownDrain ≠ some
        true)
    ∧ (∃ (t : Nat) (part : Fin 32) (c : PendingCommit) (s : State), s.clk.held = false ∧ (s.advance t).exchange
        part = some c ∧ ((s.advance t).syncNs + 100000 < c.time ∨ c.fromPartner = true))
    ∧ (∃ (t : Nat) (part : Fin 32) (m : PairMsg) (out : State) (c : PendingCommit) (s : State), s.clk.held =
        false ∧ (s.advance t).msgFor 8 part = some (m, out) ∧ (s.advance t).exchange part = some c ∧ c.fromPartner
        = true ∧ c.time ≤ (s.advance t).syncNs)
    ∧ (∃ (t : Nat) (part : Fin 32) (m : PairMsg) (out : State) (s : State), s.clk.held = false ∧ (s.advance
        t).msgFor 8 part = some (m, out) ∧ (s.advance t).exchange part = none)
    ∧ (∃ (t : Nat) (part : Fin 32) (m : PairMsg) (out : State) (s : State), s.clk.held = false ∧ (s.advance
        t).msgFor 5 part = some (m, out) ∧ (s.advance t).exchange part = none ∧ m.reason ≠ 7)
    ∧ (∃ (t : Nat) (part : Fin 32) (m : PairMsg) (out : State) (s : State), s.clk.held = false ∧ (s.advance
        t).msgFor 6 part = some (m, out) ∧ (s.advance t).exchange part = none ∧ m.reason ≠ 7)
    ∧ (∃ (t : Nat) (part : Fin 32) (m : PairMsg) (out : State) (s : State), s.clk.held = false ∧ (s.advance
        t).msgFor 7 part = some (m, out) ∧ (s.advance t).exchange part = none ∧ m.reason ≠ 7)
    ∧ (∃ (t : Nat) (part : Fin 32) (m : PairMsg) (out : State) (s : State), s.clk.held = false ∧ (s.advance
        t).msgFor 9 part = some (m, out) ∧ (s.advance t).exchange part = none ∧ m.reason ≠ 7)
    ∧ (∃ (t : Nat) (s : State), s.clk.held = false ∧ (s.advance t).pair.sync = none)
    ∧ (∃ (t : Nat) (part : Fin 32) (s : State), s.clk.held = false ∧ (s.advance t).roleOf part = .joining ∧
        (s.advance t).partnerRole part = .active ∧ ((s.advance t).bank part).pending = none ∧ (s.advance
        t).commitDrains part false = true)
    ∧ (∃ (t : Nat) (part : Fin 32) (m : PairMsg) (out : State) (c : PendingCommit) (s : State), s.clk.held =
        false ∧ (s.advance t).msgFor 5 part = some (m, out) ∧ (s.advance t).exchange part = some c ∧ c.fromPartner
        = false ∧ c.stage = .prepared)
    ∧ (∃ (t : Nat) (part : Fin 32) (m : PairMsg) (out : State) (c : PendingCommit) (s : State), s.clk.held =
        false ∧ (s.advance t).msgFor 6 part = some (m, out) ∧ (s.advance t).exchange part = some c ∧ c.fromPartner
        = false ∧ m.reason ≠ 7)
    ∧ (∃ (t : Nat) (part : Fin 32) (m : PairMsg) (out : State) (s : State), s.clk.held = false ∧ (s.advance
        t).msgFor 6 part = some (m, out) ∧ m.reason = 7)
    ∧ (∃ (t : Nat) (part : Fin 32) (c : PendingCommit) (s : State), s.clk.held = false ∧ (s.advance t).exchange
        part = some c ∧ c.time ≤ (s.advance t).syncNs + 250000 ∧ c.ownDrain = none ∧ c.fromPartner = false ∧
        c.stage = .accepted)
    ∧ (∃ (t : Nat) (part : Fin 32) (c : PendingCommit) (s : State), s.clk.held = false ∧ (s.advance t).exchange
        part = some c ∧ c.time ≤ (s.advance t).syncNs + 250000 ∧ c.ownDrain = none ∧ c.fromPartner = true)
    ∧ (∃ (t : Nat) (part : Fin 32) (m : PairMsg) (out : State) (c : PendingCommit) (s : State), s.clk.held =
        false ∧ (s.advance t).msgFor 7 part = some (m, out) ∧ (s.advance t).exchange part = some c ∧ c.fromPartner
        = false)
    ∧ (∃ (t : Nat) (part : Fin 32) (c : PendingCommit) (s : State), s.clk.held = false ∧ (s.advance t).exchange
        part = some c ∧ c.time ≤ (s.advance t).syncNs + 100000 ∧ c.fromPartner = false ∧ c.stage = .accepted ∧
        c.verdict = some 0 ∧ c.ownDrain = some false)
    ∧ (∃ (t : Nat) (part : Fin 32) (c : PendingCommit) (s : State), s.clk.held = false ∧ (s.advance t).exchange
        part = some c ∧ c.time ≤ (s.advance t).syncNs + 100000 ∧ c.fromPartner = false ∧ c.stage = .accepted ∧
        c.ownDrain = some true)
    ∧ (∃ (t : Nat) (part : Fin 32) (m : PairMsg) (out : State) (c : PendingCommit) (s : State), s.clk.held =
        false ∧ (s.advance t).msgFor 8 part = some (m, out) ∧ (s.advance t).exchange part = some c ∧ c.fromPartner
        = true ∧ (s.advance t).syncNs < c.time)
    ∧ (∃ (t : Nat) (part : Fin 32) (m : PairMsg) (out : State) (c : PendingCommit) (s : State), s.clk.held =
        false ∧ (s.advance t).msgFor 9 part = some (m, out) ∧ (s.advance t).exchange part = some c ∧ m.reason = 0)
    ∧ (∃ (t : Nat) (part : Fin 32) (m : PairMsg) (out : State) (c : PendingCommit) (s : State), s.clk.held =
        false ∧ (s.advance t).msgFor 9 part = some (m, out) ∧ (s.advance t).exchange part = some c ∧ m.reason ≠ 0)
    ∧ (∃ (t : Nat) (p : Nat) (s : State), s.clk.held = false ∧ (s.advance t).pair.sync = some (p, .memory []))
    ∧ (∃ (t : Nat) (part : Fin 32) (s : State), s.clk.held = false ∧ (s.advance t).roleOf part = .joining ∧
        (s.advance t).partnerRole part = .active ∧ ((s.advance t).bank part).pending = none ∧ (s.advance
        t).commitDrains part false = false)
    ∧ (∃ (t : Nat) (part : Fin 32) (s : State), s.clk.held = false ∧ (s.advance t).roleOf part = .active ∧
        (s.advance t).pair.sync = some (part.val, .tables)) :=
  ⟨⟨0, 3, { kind := 4, part := 3, word0 := 2, time := 5000000 }, prS { prR .standby with contact := true, leased := true, pActive := 8 } ulfUp, prS { prR .standby with contact := true, leased := true, pActive := 8 } (prU { kind := 4, part := 3, word0 := 2, time := 5000000 }), by decide +kernel⟩,
   ⟨0, 3, { kind := 4, part := 3, word0 := 2, time := 5000000 }, prS (prR .standby) ulfUp, prS (prR .standby) (prU { kind := 4, part := 3, word0 := 2, time := 5000000 }), by decide +kernel⟩,
   ⟨0, 3, { kind := 4, part := 3, word0 := 2, time := 5000000 }, prS { prR .active with contact := true } ulfUp, prS { prR .active with contact := true } (prU { kind := 4, part := 3, word0 := 2, time := 5000000 }), by decide +kernel⟩,
   ⟨0, 3, { kind := 4, part := 3, time := 5000000 }, { prC { kind := 4, part := 3, time := 5000000 } { time := 1000000, all := false, pairMode := true, stage := .prepared } with ulf := ulfUp }, { time := 1000000, all := false, pairMode := true, stage := .prepared }, prC { kind := 4, part := 3, time := 5000000 } { time := 1000000, all := false, pairMode := true, stage := .prepared }, by decide +kernel⟩,
   ⟨0, 3, { kind := 4, part := 3, word0 := 2, time := 5000000 }, crS ulfUp, { time := 1000000, all := false, pairMode := true, stage := .prepared }, crS (prU { kind := 4, part := 3, word0 := 2, time := 5000000 }), by decide +kernel⟩,
   ⟨0, 3, { kind := 4, part := 3, word0 := 2, time := 5000000 }, { crS ulfUp with pair := prR .active }, { time := 1000000, all := false, pairMode := true, stage := .prepared }, { crS (prU { kind := 4, part := 3, word0 := 2, time := 5000000 }) with pair := prR .active }, by decide +kernel⟩,
   ⟨0, 0, { kind := 4, part := 0, time := 5000000 }, jtS ulfUp, { time := 5000000, all := true, pairMode := true }, jtS (prU { kind := 4, part := 0, time := 5000000 }), by decide +kernel⟩,
   ⟨0, 3, { kind := 5, part := 3 }, { prC { kind := 5, part := 3 } { time := 1000000, all := false, pairMode := true, stage := .accepted, fromPartner := true } with ulf := ulfUp }, { time := 1000000, all := false, pairMode := true, stage := .accepted, fromPartner := true }, prC { kind := 5, part := 3 } { time := 1000000, all := false, pairMode := true, stage := .accepted, fromPartner := true }, by decide +kernel⟩,
   ⟨900000, 3, { time := 1000000, all := false, pairMode := true, stage := .prepared }, prC { kind := 1 } { time := 1000000, all := false, pairMode := true, stage := .prepared }, by decide +kernel⟩,
   ⟨9000, 3, { time := 1000000, all := false, pairMode := true, stage := .prepared }, prC { kind := 1 } { time := 1000000, all := false, pairMode := true, stage := .prepared }, by decide +kernel⟩,
   ⟨950000, 3, { time := 1000000, all := false, pairMode := true, stage := .accepted, verdict := some 6, ownDrain := some false }, prC { kind := 1 } { time := 1000000, all := false, pairMode := true, stage := .accepted, verdict := some 6, ownDrain := some false }, by decide +kernel⟩,
   ⟨950000, 3, { time := 1000000, all := false, pairMode := true, stage := .accepted }, prC { kind := 1 } { time := 1000000, all := false, pairMode := true, stage := .accepted }, by decide +kernel⟩,
   ⟨9000, 3, { time := 1000000, all := false, pairMode := true, stage := .accepted }, prC { kind := 1 } { time := 1000000, all := false, pairMode := true, stage := .accepted }, by decide +kernel⟩,
   ⟨2000000, 3, { kind := 8, part := 3 }, ({ prC { kind := 8, part := 3 } { time := 1000000, all := false, pairMode := true, stage := .verdictGiven, fromPartner := true } with ulf := ulfUp }).advance 2000000, { time := 1000000, all := false, pairMode := true, stage := .verdictGiven, fromPartner := true }, prC { kind := 8, part := 3 } { time := 1000000, all := false, pairMode := true, stage := .verdictGiven, fromPartner := true }, by decide +kernel⟩,
   ⟨0, 3, { kind := 8, part := 3 }, prS (prR .standby) ulfUp, prS (prR .standby) (prU { kind := 8, part := 3 }), by decide +kernel⟩,
   ⟨0, 3, { kind := 5, part := 3 }, prS (prR .standby) ulfUp, prS (prR .standby) (prU { kind := 5, part := 3 }), by decide +kernel⟩,
   ⟨0, 3, { kind := 6, part := 3 }, prS (prR .standby) ulfUp, prS (prR .standby) (prU { kind := 6, part := 3 }), by decide +kernel⟩,
   ⟨0, 3, { kind := 7, part := 3 }, prS (prR .standby) ulfUp, prS (prR .standby) (prU { kind := 7, part := 3 }), by decide +kernel⟩,
   ⟨0, 3, { kind := 9, part := 3 }, prS (prR .standby) ulfUp, prS (prR .standby) (prU { kind := 9, part := 3 }), by decide +kernel⟩,
   ⟨50, prS (prR .active) ulfUp, by decide +kernel⟩,
   ⟨50, 3, { prS { prR .joining with contact := true, leased := true, pActive := 8 } ulfUp with gwSet := { holder := some 3, other := .draining } }, by decide +kernel⟩,
   ⟨0, 3, { kind := 5, part := 3 }, { prC { kind := 5, part := 3 } { time := 1000000, all := false, pairMode := true, stage := .prepared } with ulf := ulfUp }, { time := 1000000, all := false, pairMode := true, stage := .prepared }, prC { kind := 5, part := 3 } { time := 1000000, all := false, pairMode := true, stage := .prepared }, by decide +kernel⟩,
   ⟨0, 3, { kind := 6, part := 3, reason := 2 }, { prC { kind := 6, part := 3, reason := 2 } { time := 1000000, all := false, pairMode := true, stage := .prepared } with ulf := ulfUp }, { time := 1000000, all := false, pairMode := true, stage := .prepared }, prC { kind := 6, part := 3, reason := 2 } { time := 1000000, all := false, pairMode := true, stage := .prepared }, by decide +kernel⟩,
   ⟨0, 3, { kind := 6, part := 3, reason := 7 }, prS (prR .standby) ulfUp, prS (prR .standby) (prU { kind := 6, part := 3, reason := 7 }), by decide +kernel⟩,
   ⟨900000, 3, { time := 1000000, all := false, pairMode := true, stage := .accepted }, prC { kind := 1 } { time := 1000000, all := false, pairMode := true, stage := .accepted }, by decide +kernel⟩,
   ⟨900000, 3, { time := 1000000, all := false, pairMode := true, stage := .accepted, fromPartner := true }, prC { kind := 1 } { time := 1000000, all := false, pairMode := true, stage := .accepted, fromPartner := true }, by decide +kernel⟩,
   ⟨0, 3, { kind := 7, part := 3 }, { prC { kind := 7, part := 3 } { time := 1000000, all := false, pairMode := true, stage := .accepted } with ulf := ulfUp }, { time := 1000000, all := false, pairMode := true, stage := .accepted }, prC { kind := 7, part := 3 } { time := 1000000, all := false, pairMode := true, stage := .accepted }, by decide +kernel⟩,
   ⟨950000, 3, { time := 1000000, all := false, pairMode := true, stage := .accepted, verdict := some 0, ownDrain := some false }, prC { kind := 1 } { time := 1000000, all := false, pairMode := true, stage := .accepted, verdict := some 0, ownDrain := some false }, by decide +kernel⟩,
   ⟨950000, 3, { time := 1000000, all := false, pairMode := true, stage := .accepted, verdict := some 0, ownDrain := some true }, prC { kind := 1 } { time := 1000000, all := false, pairMode := true, stage := .accepted, verdict := some 0, ownDrain := some true }, by decide +kernel⟩,
   ⟨0, 3, { kind := 8, part := 3 }, { prC { kind := 8, part := 3 } { time := 1000000, all := false, pairMode := true, stage := .verdictGiven, fromPartner := true } with ulf := ulfUp }, { time := 1000000, all := false, pairMode := true, stage := .verdictGiven, fromPartner := true }, prC { kind := 8, part := 3 } { time := 1000000, all := false, pairMode := true, stage := .verdictGiven, fromPartner := true }, by decide +kernel⟩,
   ⟨0, 3, { kind := 9, part := 3 }, { prC { kind := 9, part := 3 } { time := 1000000, all := false, pairMode := true, stage := .accepted, fromPartner := true } with ulf := ulfUp }, { time := 1000000, all := false, pairMode := true, stage := .accepted, fromPartner := true }, prC { kind := 9, part := 3 } { time := 1000000, all := false, pairMode := true, stage := .accepted, fromPartner := true }, by decide +kernel⟩,
   ⟨0, 3, { kind := 9, part := 3, reason := 6 }, { prC { kind := 9, part := 3, reason := 6 } { time := 1000000, all := false, pairMode := true, stage := .accepted, fromPartner := true } with ulf := ulfUp }, { time := 1000000, all := false, pairMode := true, stage := .accepted, fromPartner := true }, prC { kind := 9, part := 3, reason := 6 } { time := 1000000, all := false, pairMode := true, stage := .accepted, fromPartner := true }, by decide +kernel⟩,
   ⟨50, 3, prS { prR .active with sync := some (3, .memory []) } ulfUp, by decide +kernel⟩,
   ⟨50, 3, prS { prR .joining with contact := true, leased := true, pActive := 8 } ulfUp, by decide +kernel⟩,
   ⟨50, 3, prS { prR .active with sync := some (3, .tables), contact := true } ulfUp, by decide +kernel⟩⟩

theorem test_meets_updateCommands :
    (∃ (a : Acc) (m : List Byte) (s : State), s.clk.held = false ∧ (s.advance a.t).checkPage a (R.UPD_CMD) true
        4 = none ∧ ((s.advance a.t).rec'.state = .idle ∨ (s.advance a.t).rec'.state = .confirmed ∨ (s.advance
        a.t).rec'.state = .staging) ∧ (s.advance a.t).readBytes ((s.advance a.t).regPair R.UPD_MAN_ADDR_LO
        R.UPD_MAN_ADDR_HI % 2 ^ 36) 0x4000 = m ∧ manValid m = true)
    ∧ (∃ (a : Acc) (m : List Byte) (s : State), s.clk.held = false ∧ (s.advance a.t).checkPage a (R.UPD_CMD) true
        4 = none ∧ (s.advance a.t).rec'.state = .idle ∧ (s.advance a.t).readBytes ((s.advance a.t).regPair
        R.UPD_MAN_ADDR_LO R.UPD_MAN_ADDR_HI % 2 ^ 36) 0x4000 = m ∧ manValid m = false)
    ∧ (∃ (a : Acc) (key : Byte) (s : State), s.clk.held = false ∧ (s.advance a.t).checkPage a (R.UPD_CMD) true 4
        = none ∧ key ≠ 0x5C)
    ∧ (∃ (a : Acc) (part : Fin 64) (s : State), s.clk.held = false ∧ (s.advance a.t).checkPage a (R.UPD_CMD) true
        4 = none ∧ (s.advance a.t).rec'.state = .staging ∧ (s.advance a.t).upd.need.testBit part = true ∧ ¬ ((le
        (manEntry (s.advance a.t).newManifest part) 2 1 = 1) = ((s.advance a.t).rec'.runSet = true)) ∧ (s.advance
        a.t).upd.copying = none)
    ∧ (∃ (t : Nat) (k : Nat) (s : State), s.clk.held = false ∧ (s.advance t).upd.copying = some k)
    ∧ (∃ (a : Acc)  (s : State), s.clk.held = false ∧ (s.advance a.t).checkPage a (R.UPD_CMD) true 4 = none ∧
        (s.advance a.t).rec'.state = .staging ∧ (s.advance a.t).upd.staged = (s.advance a.t).upd.need ∧ (s.advance
        a.t).pageSeal updIdx 0 = none)
    ∧ (∃ (a : Acc)  (s : State), s.clk.held = false ∧ (s.advance a.t).checkPage a (R.UPD_CMD) true 4 = none ∧
        (s.advance a.t).rec'.state = .staging ∧ (s.advance a.t).upd.staged ≠ (s.advance a.t).upd.need)
    ∧ (∃ (a : Acc)  (s : State), s.clk.held = false ∧ (s.advance a.t).checkPage a (R.UPD_CMD) true 4 = none ∧
        (s.advance a.t).rec'.state = .pending)
    ∧ (∃ (a : Acc)  (s : State), s.clk.held = false ∧ (s.advance a.t).checkPage a (R.UPD_CMD) true 4 = none ∧
        (s.advance a.t).rec'.state = .booted ∧ ((s.advance a.t).hw.paired = false ∨ (s.advance a.t).upd.peerValid
        = true ∧ (s.advance a.t).upd.peerId = (s.advance a.t).rec'.actId ∧ ((s.advance a.t).upd.peerState = 4 ∨
        (s.advance a.t).upd.peerState = 5)))
    ∧ (∃ (a : Acc)  (s : State), s.clk.held = false ∧ (s.advance a.t).checkPage a (R.UPD_CMD) true 4 = none ∧
        (s.advance a.t).rec'.state = .staging)
    ∧ (∃ (a : Acc)  (s : State), s.clk.held = false ∧ (s.advance a.t).checkPage a (R.UPD_CMD) true 4 = none ∧
        (s.advance a.t).rec'.state = .pending) :=
  ⟨⟨acc0, [1, 0, 0, 0, 0, 0, 1] ++ List.replicate 0x3FF9 0, { st with mem := [(0, 1), (6, 1)] }, by decide +kernel⟩,
   ⟨acc0, List.replicate 0x4000 0, st, by decide +kernel⟩,
   ⟨acc0, 3, st, by decide +kernel⟩,
   ⟨acc0, 0, { upS { state := .staging } with upd := { (upS { state := .staging }).upd with need := 1, manifests := [(1, upM 0x42)] } }, by decide +kernel⟩,
   ⟨50, 3, { st with upd := { copying := some 3 } }, by decide +kernel⟩,
   ⟨acc0, upS { state := .staging }, by decide +kernel⟩,
   ⟨acc0, { upS { state := .staging } with upd := { (upS { state := .staging }).upd with need := 1 } }, by decide +kernel⟩,
   ⟨acc0, upS { state := .pending, nextSet := true }, by decide +kernel⟩,
   ⟨acc0, upS { state := .booted }, by decide +kernel⟩,
   ⟨acc0, upS { state := .staging }, by decide +kernel⟩,
   ⟨acc0, upS { state := .pending, nextSet := true }, by decide +kernel⟩⟩

theorem test_meets_activation :
    (∃ (t : Nat) (s : State), s.clk.held = false ∧ (s.advance t).rec'.state = .trial)
    ∧ (∃ (t : Nat) (bad : Option (Fin 64)) (s : State), s.clk.held = false ∧ (s.advance t).rec'.state = .trial ∧
        ((s.advance t).setFault (s.advance t).rec'.runSet (bad.map Fin.val)).isSome = true)
    ∧ (∃ (t : Nat) (actId : Fin 65536) (x : Fin 8) (s : State), s.clk.held = false ∧ (s.advance t).rec'.state =
        .booted ∧ (actId.val ≠ (s.advance t).rec'.actId ∨ x = 6))
    ∧ (∃ (t : Nat) (actId : Fin 65536) (x : Fin 8) (s : State), s.clk.held = false ∧ (s.advance t).rec'.state =
        .idle)
    ∧ (∃ (t : Nat) (s : State), s.clk.held = false ∧ (s.advance t).parts.pinHeld = false)
    ∧ (∃ (t : Nat) (s : State), s.clk.held = false ∧ (s.advance t).parts.pinHeld = true) :=
  ⟨⟨50, upS { state := .trial, tries := 1 }, by decide +kernel⟩,
   ⟨50, none, upS { state := .trial, tries := 1, runSet := true, nextSet := true }, by decide +kernel⟩,
   ⟨50, 3, 6, upS { state := .booted, actId := 3 }, by decide +kernel⟩,
   ⟨50, 3, 6, upS { }, by decide +kernel⟩,
   ⟨50, { st with sec := { svcOpen := true, ready := true, job := some (.burn 2 [7]) } }, by decide +kernel⟩,
   ⟨50, { upS { state := .pending } with parts := { st.parts with pinHeld := true } }, by decide +kernel⟩⟩

theorem test_activation_powerOnRelease : ∃ s : State, s.clk.held = true :=
  ⟨{ st with clk := { held := true } }, rfl⟩

theorem test_meets_securityAndStorage :
    (∃ (a : Acc) (key : Byte) (s : State), s.clk.held = false ∧ (s.advance a.t).checkPage a (R.SEC_CMD) true 4
        = none ∧ (s.advance a.t).parts.pinHeld = true)
    ∧ (∃ (a : Acc) (key : Byte) (slot : Fin 64) (s : State), s.clk.held = false ∧ (s.advance a.t).checkPage a
        (R.SEC_CMD) true 4 = none ∧ (s.advance a.t).parts.pinHeld = true)
    ∧ (∃ (a : Acc) (key : Byte) (slot : Fin 64) (s : State), s.clk.held = false ∧ (s.advance a.t).checkPage a
        (R.SEC_CMD) true 4 = none ∧ (s.advance a.t).parts.pinHeld = true)
    ∧ (∃ (a : Acc) (key : Byte) (s : State), s.clk.held = false ∧ (s.advance a.t).checkPage a (R.SEC_CMD) true 4
        = none ∧ (s.advance a.t).parts.pinHeld = true)
    ∧ (∃ (a : Acc) (key : Byte) (slot : Fin 64) (s : State), s.clk.held = false ∧ (s.advance a.t).checkPage a
        (R.SEC_CMD) true 4 = none ∧ (s.advance a.t).parts.pinHeld = true)
    ∧ (∃ (a : Acc)  (s : State), s.clk.held = false ∧ (s.advance a.t).checkPage a (R.SEC_CMD) true 4 = none ∧
        (s.advance a.t).parts.pinHeld = false ∧ (s.advance a.t).sec.job = none ∧ inDram ((s.advance a.t).regPair
        R.SEC_ATT_ADDR_LO R.SEC_ATT_ADDR_HI % 2 ^ 36 / 64 * 64) attestLen = true ∧ (s.advance a.t).memCheck
        (s.advance a.t).pt.active 0 2 ((s.advance a.t).regPair R.SEC_ATT_ADDR_LO R.SEC_ATT_ADDR_HI % 2 ^ 36 / 64 *
        64) attestLen .write = none)
    ∧ (∃ (a : Acc) (key : Byte) (s : State), s.clk.held = false ∧ (s.advance a.t).checkPage a (R.SEC_CMD) true 4
        = none ∧ (s.advance a.t).parts.pinHeld = false ∧ key ≠ 0x3C)
    ∧ (∃ (t : Nat) (addr lt : Nat) (s : State), s.clk.held = false ∧ (s.advance t).sec.job = some (.attest addr
        lt))
    ∧ (∃ (a : Acc) (slot : Fin 64) (s : State), s.clk.held = false ∧ (s.advance a.t).checkPage a (R.SEC_CMD) true
        4 = none ∧ (s.advance a.t).parts.pinHeld = false ∧ (s.advance a.t).sec.job = none ∧ (s.advance
        a.t).slotUsed slot = false)
    ∧ (∃ (a : Acc) (slot : Fin 64) (s : State), s.clk.held = false ∧ (s.advance a.t).checkPage a (R.SEC_CMD) true
        4 = none ∧ (s.advance a.t).parts.pinHeld = false ∧ (s.advance a.t).sec.job = none ∧ (s.advance
        a.t).slotUsed slot = true)
    ∧ (∃ (a : Acc) (key : Byte) (slot : Fin 64) (s : State), s.clk.held = false ∧ (s.advance a.t).checkPage a
        (R.SEC_CMD) true 4 = none ∧ (s.advance a.t).parts.pinHeld = false ∧ key ≠ 0x3C)
    ∧ (∃ (a : Acc) (key : Byte) (slot : Fin 64) (s : State), s.clk.held = false ∧ (s.advance a.t).checkPage a
        (R.SEC_CMD) true 4 = none ∧ (s.advance a.t).parts.pinHeld = false ∧ key ≠ 0x3C)
    ∧ (∃ (a : Acc) (key : Byte) (slot : Fin 64) (s : State), s.clk.held = false ∧ (s.advance a.t).checkPage a
        (R.SEC_CMD) true 4 = none ∧ (s.advance a.t).parts.pinHeld = false ∧ key ≠ 0x3C)
    ∧ (∃ (a : Acc) (slot : Fin 64) (s : State), s.clk.held = false ∧ (s.advance a.t).checkPage a (R.SEC_CMD) true
        4 = none ∧ (s.advance a.t).parts.pinHeld = false ∧ (s.advance a.t).sec.job.isSome = true)
    ∧ (∃ (a : Acc) (slot : Fin 64) (s : State), s.clk.held = false ∧ (s.advance a.t).checkPage a (R.SEC_CMD) true
        4 = none ∧ (s.advance a.t).parts.pinHeld = false ∧ (s.advance a.t).sec.job.isSome = true)
    ∧ (∃ (a : Acc) (slot : Fin 64) (s : State), s.clk.held = false ∧ (s.advance a.t).checkPage a (R.SEC_CMD) true
        4 = none ∧ (s.advance a.t).parts.pinHeld = false ∧ (s.advance a.t).sec.job.isSome = true)
    ∧ (∃ (a : Acc) (slot : Fin 64) (s : State), s.clk.held = false ∧ (s.advance a.t).checkPage a (R.SEC_CMD) true
        4 = none ∧ (s.advance a.t).parts.pinHeld = false ∧ (s.advance a.t).sec.job = none ∧ (s.advance
        a.t).slotUsed slot = false)
    ∧ (∃ (a : Acc)  (s : State), s.clk.held = false ∧ (s.advance a.t).checkPage a (R.SEC_CMD) true 4 = none ∧
        (s.advance a.t).parts.pinHeld = false ∧ (s.advance a.t).sec.job = none)
    ∧ (∃ (a : Acc) (slot : Fin 64) (s : State), s.clk.held = false ∧ (s.advance a.t).checkPage a (R.SEC_CMD) true
        4 = none ∧ (s.advance a.t).parts.pinHeld = false ∧ (s.advance a.t).sec.job = none ∧ (s.advance
        a.t).slotUsed slot = true)
    ∧ (∃ (a : Acc) (slot : Fin 64) (s : State), s.clk.held = false ∧ (s.advance a.t).checkPage a (R.SEC_CMD) true
        4 = none ∧ (s.advance a.t).parts.pinHeld = false ∧ (s.advance a.t).sec.job = none ∧ ((s.advance
        a.t).sec.svcOpen = false ∨ a.req ≠ 19 ∨ slot = 0 ∨ 3 < slot.val ∨ bit (s.advance a.t).sec.programmed slot
        = true))
    ∧ (∃ (a : Acc) (slot : Fin 64) (s : State), s.clk.held = false ∧ (s.advance a.t).checkPage a (R.SEC_CMD) true
        4 = none ∧ (s.advance a.t).parts.pinHeld = false ∧ (s.advance a.t).sec.job = none ∧ (s.advance
        a.t).sec.svcOpen = true ∧ a.req = 19 ∧ 1 ≤ slot.val ∧ slot.val ≤ 3 ∧ bit (s.advance a.t).sec.programmed
        slot = false)
    ∧ (∃ (t : Nat) (k : Nat) (h : List Byte) (s : State), s.clk.held = false ∧ (s.advance t).sec.job = some
        (.burn k h))
    ∧ (∃ (t : Nat) (k : Nat) (h : List Byte) (s : State), s.clk.held = false ∧ (s.advance t).sec.job = some
        (.burn k h))
    ∧ (∃ (t : Nat) (s : State), s.clk.held = false ∧ (s.advance t).parts.pinHeld = false ∧ (s.advance
        t).sec.lockUntil = none)
    ∧ (∃ (t : Nat) (block sigEc sigMl x : List Byte) (s : State), s.clk.held = false ∧ (s.advance
        t).parts.pinHeld = false ∧ (s.advance t).sec.nonce = some x ∧ (s.advance t).sec.lockUntil = none)
    ∧ (∃ (t : Nat) (u : Nat) (s : State), s.clk.held = false ∧ (s.advance t).sec.lockUntil = some u ∧ u ≤
        (s.advance t).clk.lt)
    ∧ (∃ (a : Acc) (count : Fin 65536) (s : State), s.clk.held = false ∧ (s.advance a.t).checkPage a (R.STOR_CMD)
        true 4 = none ∧ (s.advance a.t).stor.job = none ∧ 1 ≤ count.val ∧ journalBlock ≤ (s.advance a.t).regF
        R.STOR_LBA 21 0 ∧ (s.advance a.t).regF R.STOR_LBA 21 0 + count ≤ ufsBlocks ∧ inDram ((s.advance
        a.t).regPair R.STOR_ADDR_LO R.STOR_ADDR_HI % 2 ^ 36 / 4096 * 4096) (count * 4096) = true ∧ (s.advance
        a.t).memCheck (s.advance a.t).pt.active 0 2 ((s.advance a.t).regPair R.STOR_ADDR_LO R.STOR_ADDR_HI % 2 ^
        36 / 4096 * 4096) (count * 4096) .write = none)
    ∧ (∃ (a : Acc) (count : Fin 65536) (s : State), s.clk.held = false ∧ (s.advance a.t).checkPage a (R.STOR_CMD)
        true 4 = none ∧ (s.advance a.t).stor.job = none ∧ 1 ≤ count.val ∧ ownerBlock ≤ (s.advance a.t).regF
        R.STOR_LBA 21 0 ∧ (s.advance a.t).regF R.STOR_LBA 21 0 + count ≤ ufsBlocks ∧ inDram ((s.advance
        a.t).regPair R.STOR_ADDR_LO R.STOR_ADDR_HI % 2 ^ 36 / 4096 * 4096) (count * 4096) = true ∧ (s.advance
        a.t).memCheck (s.advance a.t).pt.active 0 2 ((s.advance a.t).regPair R.STOR_ADDR_LO R.STOR_ADDR_HI % 2 ^
        36 / 4096 * 4096) (count * 4096) .read = none)
    ∧ (∃ (a : Acc) (count : Fin 65536) (s : State), s.clk.held = false ∧ (s.advance a.t).checkPage a (R.STOR_CMD)
        true 4 = none ∧ (s.advance a.t).stor.job = none ∧ (s.advance a.t).regF R.STOR_LBA 21 0 < ownerBlock)
    ∧ (∃ (a : Acc) (count : Fin 65536) (s : State), s.clk.held = false ∧ (s.advance a.t).checkPage a (R.STOR_CMD)
        true 4 = none ∧ (s.advance a.t).stor.job.isSome = true)
    ∧ (∃ (t : Nat) (second : Nat) (j : StorJob) (s : State), s.clk.held = false ∧ (s.advance t).stor.job = some j
        ∧ j.write = false)
    ∧ (∃ (t : Nat) (second : Nat) (failed : Option (Fin 65536)) (j : StorJob) (s : State), s.clk.held = false ∧
        (s.advance t).stor.job = some j ∧ j.write = true)
    ∧ (∃ (t : Nat) (second : Nat) (f : Fin 65536) (j : StorJob) (s : State), s.clk.held = false ∧ (s.advance
        t).stor.job = some j ∧ j.write = false ∧ f.val < j.count)
    ∧ (∃ (t : Nat) (ecc : EccFound) (p : Packet) (out : State) (s : State), s.clk.held = false ∧ (s.advance
        t).regB R.STOR_JCFG 31 = true ∧ isMsgQueue ((s.advance t).regF R.STOR_JCFG 11 0) = true ∧ (s.advance
        t).queueOwner ((s.advance t).regF R.STOR_JCFG 11 0) = 0 ∧ (s.advance t).popPacket ((s.advance t).regF
        R.STOR_JCFG 11 0) = some (p, out) ∧ p.data.length = 128 ∧ (s.advance t).stor.index < 8388608)
    ∧ (∃ (t : Nat) (ecc : EccFound) (p : Packet) (out : State) (s : State), s.clk.held = false ∧ (s.advance
        t).regB R.STOR_JCFG 31 = true ∧ isMsgQueue ((s.advance t).regF R.STOR_JCFG 11 0) = true ∧ (s.advance
        t).queueOwner ((s.advance t).regF R.STOR_JCFG 11 0) = 0 ∧ (s.advance t).popPacket ((s.advance t).regF
        R.STOR_JCFG 11 0) = some (p, out) ∧ p.data.length ≠ 128)
    ∧ (∃ (t : Nat) (ecc : EccFound) (s : State), s.clk.held = false ∧ (s.advance t).regB R.STOR_JCFG 31 = false ∨
        ((s.advance t).queue ((s.advance t).regF R.STOR_JCFG 11 0)).visible = [])
    ∧ (∃ (t : Nat) (s : State), s.clk.held = false ∧ (s.advance t).parts.pinHeld = true ∨ (s.advance
        t).sec.lockUntil.isSome = true) :=
  ⟨⟨acc0, 0x3C, { st with parts := { st.parts with pinHeld := true } }, by decide +kernel⟩,
   ⟨acc0, 0x3C, 7, { st with parts := { st.parts with pinHeld := true } }, by decide +kernel⟩,
   ⟨acc0, 0x3C, 7, { st with parts := { st.parts with pinHeld := true } }, by decide +kernel⟩,
   ⟨acc0, 0x3C, { st with parts := { st.parts with pinHeld := true } }, by decide +kernel⟩,
   ⟨acc0, 0x3C, 7, { st with parts := { st.parts with pinHeld := true } }, by decide +kernel⟩,
   ⟨acc0, st.setReg R.SEC_ATT_ADDR_HI 8, by decide +kernel⟩,
   ⟨acc0, 9, st, by decide +kernel⟩,
   ⟨50, 0x800000000, 7, { st with sec := { job := some (.attest 0x800000000 7) } }, by decide +kernel⟩,
   ⟨acc0, 7, st.setReg (R.SEC_KDATA 0) 5, by decide +kernel⟩,
   ⟨acc0, 7, st.setReg (R.SWP_MSEC_TXSA 3) 0x700, by decide +kernel⟩,
   ⟨acc0, 9, 7, st, by decide +kernel⟩,
   ⟨acc0, 9, 7, st, by decide +kernel⟩,
   ⟨acc0, 9, 7, st, by decide +kernel⟩,
   ⟨acc0, 7, { st with sec := { job := some (.burn 2 [7]) } }, by decide +kernel⟩,
   ⟨acc0, 7, { st with sec := { job := some (.burn 2 [7]) } }, by decide +kernel⟩,
   ⟨acc0, 7, { st with sec := { job := some (.burn 2 [7]) } }, by decide +kernel⟩,
   ⟨acc0, 7, { st with sec := { keys := [(7, ⟨[1], [2], 3, 4⟩)] } }, by decide +kernel⟩,
   ⟨acc0, { st with sec := { svcOpen := true } }, by decide +kernel⟩,
   ⟨acc0, 0, st, by decide +kernel⟩,
   ⟨acc0, 2, { st with sec := { svcOpen := true } }, by decide +kernel⟩,
   ⟨{ acc0 with req := 19 }, 2, { st with sec := { svcOpen := true } }, by decide +kernel⟩,
   ⟨50, 2, [7], { st with sec := { job := some (.burn 2 [7]) } }, by decide +kernel⟩,
   ⟨50, 2, [7], { st with sec := { job := some (.burn 2 [7]) } }, by decide +kernel⟩,
   ⟨50, st, by decide +kernel⟩,
   ⟨50, [1], [2], [3], [4], { st with sec := { nonce := some [4], fails := 2 } }, by decide +kernel⟩,
   ⟨50, 40, { st with sec := { lockUntil := some 40 } }, by decide +kernel⟩,
   ⟨acc0, 2, (st.setReg R.STOR_LBA 0x300005).setReg R.STOR_ADDR_HI 8, by decide +kernel⟩,
   ⟨acc0, 2, (st.setReg R.STOR_LBA 0x340005).setReg R.STOR_ADDR_HI 8, by decide +kernel⟩,
   ⟨acc0, 2, (st.setReg R.STOR_LBA 0x300005).setReg R.STOR_ADDR_HI 8, by decide +kernel⟩,
   ⟨acc0, 2, { st with stor := { job := some ⟨true, 5, 1, 0x800000000⟩ } }, by decide +kernel⟩,
   ⟨50, 3, ⟨false, 5, 1, 0x800000000⟩, { st with stor := { job := some ⟨false, 5, 1, 0x800000000⟩ } }, by decide +kernel⟩,
   ⟨50, 3, none, ⟨true, 5, 1, 0x800000000⟩, { st with mem := [(0x800000001, 6)], stor := { job := some ⟨true, 5, 1, 0x800000000⟩ } }, by decide +kernel⟩,
   ⟨50, 3, 0, ⟨false, 5, 1, 0x800000000⟩, { st with stor := { job := some ⟨false, 5, 1, 0x800000000⟩ } }, by decide +kernel⟩,
   ⟨0, .clean, jP, ((jS.popPacket 700).getD (jP, st)).2, jS, by decide +kernel⟩,
   ⟨0, .clean, { jP with data := [1, 2] }, ((jS.setQueue 700 { visible := [{ jP with data := [1, 2] }] }).popPacket 700).elim st (·.2), jS.setQueue 700 { visible := [{ jP with data := [1, 2] }] }, by decide +kernel⟩,
   ⟨0, .corrected, st, by decide +kernel⟩,
   ⟨50, { st with sec := { lockUntil := some 90 } }, by decide +kernel⟩⟩

theorem test_meets_softwareAccess :
    (∃ (a : Acc) (addr size : Nat) (val : Word) (c : BusCause) (s : State), s.clk.held = false ∧ rangeOf addr =
        .pages ∧ (leBytes size val.toNat).length = size ∧ (s.advance a.t).checkPage a addr true size = some c)
    ∧ (∃ (a : Acc) (addr size : Nat) (val : Word) (s : State), s.clk.held = false ∧ rangeOf addr = .partner)
    ∧ (∃ (a : Acc) (page : Fin 118) (val : Word) (s : State), s.clk.held = false ∧ page ≠ 0 ∧ (s.advance
        a.t).checkPage a (R.EVT_ENABLE page) true 4 = none)
    ∧ (∃ (a : Acc) (page : Fin 118) (val : Word) (s : State), s.clk.held = false ∧ page ≠ 0 ∧ (s.advance
        a.t).checkPage a (R.EVT_STATUS page) true 4 = none)
    ∧ (∃ (a : Acc) (page : Fin 118) (val : Word) (s : State), s.clk.held = false ∧ page ≠ 0 ∧ (s.advance
        a.t).checkPage a (R.EVT_FORCE page) true 4 = none)
    ∧ (∃ (a : Acc) (val : Word) (s : State), s.clk.held = false ∧ (s.advance a.t).checkPage a (R.EVT_ENABLE 0)
        true 4 = none)
    ∧ (∃ (a : Acc) (val : Word) (s : State), s.clk.held = false ∧ (s.advance a.t).checkPage a
        R.COH_COMMIT_TIME_LO true 4 = none)
    ∧ (∃ (a : Acc) (val : Word) (s : State), s.clk.held = false ∧ (s.advance a.t).checkPage a
        R.COH_COMMIT_TIME_HI true 4 = none)
    ∧ (∃ (a : Acc) (addr idx : Nat) (r : RegRow) (val : Word) (s : State), s.clk.held = false ∧ rangeOf addr =
        .pages ∧ pageAt addr = some idx ∧ regRowAt idx (addr % 0x1000 % 0x800) = some r ∧ (s.advance
        a.t).checkPage a addr true 4 = none ∧ addr % 0x1000 < 0x800 ∧ 0x40 ≤ addr % 0x1000 ∧ (r.access = .rw ∧
        (idx = 84 ∨ idx = 112 ∨ idx = 114 ∨ idx = 115 ∨ idx = 117) ∨ r.access = .wo ∧ idx = 114 ∧ addr % 0x1000 ≠
        0x54))
    ∧ (∃ (a : Acc) (addr idx : Nat) (r : RegRow) (val : Word) (s : State), s.clk.held = false ∧ rangeOf addr =
        .pages ∧ pageAt addr = some idx ∧ regRowAt idx (addr % 0x1000 % 0x800) = some r ∧ (s.advance
        a.t).checkPage a addr true 4 = none ∧ r.access = .st ∧ indirectReg (lowerHalf addr) = false ∧ lowerHalf
        addr ≠ R.UPD_ACT_REC ∧ (s.advance a.t).pageSeal idx (State.accPart a) = none ∧ (pageMirrored idx &&
        (s.advance a.t).isPaired (State.accPart a) && (s.advance a.t).pairHeld (State.accPart a)) = false)
    ∧ (∃ (a : Acc) (addr idx : Nat) (r : RegRow) (val : Word) (s : State), s.clk.held = false ∧ rangeOf addr =
        .pages ∧ pageAt addr = some idx ∧ regRowAt idx (addr % 0x1000 % 0x800) = some r ∧ (s.advance
        a.t).checkPage a addr true 4 = none ∧ 0x40 ≤ addr % 0x1000 ∧ r.access ≠ .st ∧ ¬ (idx = 113 ∧ addr % 0x1000
        = 0x44) ∧ (0x800 ≤ addr % 0x1000 ∨ r.access = .rc ∨ r.access = .ro ∧ mixedReg idx (addr % 0x1000) = false))
    ∧ (∃ (a : Acc) (addr idx : Nat) (val : Word) (s : State), s.clk.held = false ∧ rangeOf addr = .pages ∧
        (s.advance a.t).checkPage a addr true 4 = none ∧ pageAt addr = some idx ∧ regRowAt idx (addr % 0x1000 %
        0x800) = none)
    ∧ (∃ (a : Acc) (addr size : Nat) (c : BusCause) (s : State), s.clk.held = false ∧ rangeOf addr = .pages ∧
        (s.advance a.t).checkPage a addr false size = some c)
    ∧ (∃ (a : Acc) (addr size idx : Nat) (r : RegRow) (s : State), s.clk.held = false ∧ rangeOf addr = .pages ∧
        pageAt addr = some idx ∧ regRowAt idx (addr % 0x1000 % 0x800) = some r ∧ (s.advance a.t).checkPage a addr
        false size = none ∧ r.access = .rc ∧ addr % 0x1000 < 0x800 ∧ idx ≠ 0 ∧ ((s.advance a.t).page idx).held =
        false ∧ pageBase idx + addr % 0x1000 ≠ R.QMGR_FREE_MIN)
    ∧ (∃ (a : Acc) (addr size idx : Nat) (r : RegRow) (s : State), s.clk.held = false ∧ rangeOf addr = .pages ∧
        pageAt addr = some idx ∧ regRowAt idx (addr % 0x1000 % 0x800) = some r ∧ (s.advance a.t).checkPage a addr
        false size = none ∧ r.access = .rc ∧ addr % 0x1000 < 0x800 ∧ idx ≠ 0 ∧ ((s.advance a.t).page idx).held =
        false ∧ pageBase idx + addr % 0x1000 = R.QMGR_FREE_MIN)
    ∧ (∃ (a : Acc) (addr size idx : Nat) (r : RegRow) (h : Word) (s : State), s.clk.held = false ∧ rangeOf addr =
        .pages ∧ pageAt addr = some idx ∧ regRowAt idx (addr % 0x1000 % 0x800) = some r ∧ (s.advance
        a.t).checkPage a addr false size = none ∧ r.access = .rc ∧ addr % 0x1000 < 0x800 ∧ idx ≠ 0 ∧ (s.advance
        a.t).heldValue idx (addr % 0x1000) = some h ∧ extremeReg (pageBase idx + addr % 0x1000) = none ∧
        packedCount (pageBase idx + addr % 0x1000) = false)
    ∧ (∃ (a : Acc) (addr size idx : Nat) (r : RegRow) (h : Word) (s : State), s.clk.held = false ∧ rangeOf addr =
        .pages ∧ pageAt addr = some idx ∧ regRowAt idx (addr % 0x1000 % 0x800) = some r ∧ (s.advance
        a.t).checkPage a addr false size = none ∧ r.access = .rc ∧ addr % 0x1000 < 0x800 ∧ idx ≠ 0 ∧ (s.advance
        a.t).heldValue idx (addr % 0x1000) = some h ∧ extremeReg (pageBase idx + addr % 0x1000) = none ∧
        packedCount (pageBase idx + addr % 0x1000) = true ∧ (s.advance a.t).heldRead.contains (pageBase idx + addr
        % 0x1000) = false)
    ∧ (∃ (a : Acc) (addr size idx : Nat) (r : RegRow) (h : Word) (s : State), s.clk.held = false ∧ rangeOf addr =
        .pages ∧ pageAt addr = some idx ∧ regRowAt idx (addr % 0x1000 % 0x800) = some r ∧ (s.advance
        a.t).checkPage a addr false size = none ∧ r.access = .rc ∧ addr % 0x1000 < 0x800 ∧ idx ≠ 0 ∧ (s.advance
        a.t).heldValue idx (addr % 0x1000) = some h ∧ extremeReg (pageBase idx + addr % 0x1000) = some false)
    ∧ (∃ (a : Acc) (addr size idx : Nat) (r : RegRow) (s : State), s.clk.held = false ∧ rangeOf addr = .pages ∧
        pageAt addr = some idx ∧ regRowAt idx (addr % 0x1000 % 0x800) = some r ∧ (s.advance a.t).checkPage a addr
        false size = none ∧ ¬ (idx = 0 ∧ 0x200 ≤ addr % 0x1000 ∧ addr % 0x1000 < 0x300) ∧ (r.access ≠ .rc ∨ 0x800
        ≤ addr % 0x1000))
    ∧ (∃ (a : Acc) (addr size idx : Nat) (s : State), s.clk.held = false ∧ rangeOf addr = .pages ∧ (s.advance
        a.t).checkPage a addr false size = none ∧ pageAt addr = some idx ∧ regRowAt idx (addr % 0x1000 % 0x800) =
        none)
    ∧ (∃ (a : Acc) (addr : Nat) (d : List Byte) (ecc : EccFound) (s : State), s.clk.held = false ∧ (rangeOf
        addr).isMem = true ∧ (s.advance a.t).memCheck (s.advance a.t).pt.active (State.accPart a) a.req addr
        d.length .write = none ∧ (s.advance a.t).mirrorClosed (State.accPart a) addr d.length = false ∧ (ecc =
        .clean ∨ inDram addr 1 = false ∨ wholeGranules addr d.length = true))
    ∧ (∃ (a : Acc) (addr : Nat) (d : List Byte) (s : State), s.clk.held = false ∧ (rangeOf addr).isMem = true ∧
        (s.advance a.t).memCheck (s.advance a.t).pt.active (State.accPart a) a.req addr d.length .write = none ∧
        (s.advance a.t).mirrorClosed (State.accPart a) addr d.length = false ∧ inDram addr 1 = true ∧
        wholeGranules addr d.length = false)
    ∧ (∃ (a : Acc) (addr : Nat) (d : List Byte) (s : State), s.clk.held = false ∧ (rangeOf addr).isMem = true ∧
        (s.advance a.t).memCheck (s.advance a.t).pt.active (State.accPart a) a.req addr d.length .write = none ∧
        (s.advance a.t).mirrorClosed (State.accPart a) addr d.length = false ∧ inDram addr 1 = true ∧
        wholeGranules addr d.length = false)
    ∧ (∃ (a : Acc) (addr : Nat) (d : List Byte) (ecc : EccFound) (s : State), s.clk.held = false ∧ (rangeOf
        addr).isMem = true ∧ (s.advance a.t).memCheck (s.advance a.t).pt.active (State.accPart a) a.req addr
        d.length .write = none ∧ (s.advance a.t).mirrorClosed (State.accPart a) addr d.length = true)
    ∧ (∃ (a : Acc) (addr : Nat) (d : List Byte) (c : BusCause) (ecc : EccFound) (s : State), s.clk.held = false ∧
        (rangeOf addr).isMem = true ∧ (s.advance a.t).memCheck (s.advance a.t).pt.active (State.accPart a) a.req
        addr d.length .write = some c)
    ∧ (∃ (a : Acc) (addr : Nat) (d : List Byte) (ecc : EccFound) (s : State), s.clk.held = false ∧ rangeOf addr =
        .partner)
    ∧ (∃ (a : Acc) (addr k : Nat) (ecc : EccFound) (s : State), s.clk.held = false ∧ (rangeOf addr).isMem = true
        ∧ (s.advance a.t).memCheck (s.advance a.t).pt.active (State.accPart a) a.req addr k .read = none ∧ (ecc =
        .clean ∨ inDram addr 1 = false))
    ∧ (∃ (a : Acc) (addr k : Nat) (s : State), s.clk.held = false ∧ (rangeOf addr).isMem = true ∧ (s.advance
        a.t).memCheck (s.advance a.t).pt.active (State.accPart a) a.req addr k .read = none ∧ inDram addr 1 = true)
    ∧ (∃ (a : Acc) (addr k : Nat) (s : State), s.clk.held = false ∧ (rangeOf addr).isMem = true ∧ (s.advance
        a.t).memCheck (s.advance a.t).pt.active (State.accPart a) a.req addr k .read = none ∧ inDram addr 1 = true)
    ∧ (∃ (a : Acc) (addr k : Nat) (c : BusCause) (ecc : EccFound) (s : State), s.clk.held = false ∧ (rangeOf
        addr).isMem = true ∧ (s.advance a.t).memCheck (s.advance a.t).pt.active (State.accPart a) a.req addr k
        .read = some c)
    ∧ (∃ (a : Acc) (addr k : Nat) (ecc : EccFound) (s : State), s.clk.held = false ∧ (rangeOf addr).isMem = true
        ∧ (s.advance a.t).memCheck (s.advance a.t).pt.active (State.accPart a) a.req addr k .fetch = none ∧ (ecc =
        .clean ∨ inDram addr 1 = false))
    ∧ (∃ (a : Acc) (addr k : Nat) (s : State), s.clk.held = false ∧ (rangeOf addr).isMem = true ∧ (s.advance
        a.t).memCheck (s.advance a.t).pt.active (State.accPart a) a.req addr k .fetch = none ∧ inDram addr 1 =
        true)
    ∧ (∃ (a : Acc) (addr k : Nat) (s : State), s.clk.held = false ∧ (rangeOf addr).isMem = true ∧ (s.advance
        a.t).memCheck (s.advance a.t).pt.active (State.accPart a) a.req addr k .fetch = none ∧ inDram addr 1 =
        true)
    ∧ (∃ (a : Acc) (addr k : Nat) (c : BusCause) (ecc : EccFound) (s : State), s.clk.held = false ∧ (rangeOf
        addr).isMem = true ∧ (s.advance a.t).memCheck (s.advance a.t).pt.active (State.accPart a) a.req addr k
        .fetch = some c)
    ∧ (∃ (a : Acc) (addr k : Nat) (ecc : EccFound) (s : State), s.clk.held = false ∧ (rangeOf addr).isMem = false)
    ∧ (∃ (a : Acc) (page : Fin 118) (mask again : Word) (s : State), s.clk.held = false ∧ (s.advance
        a.t).checkPage a (R.EVT_STATUS page) true 4 = none ∧ page ≠ 0)
    ∧ (∃ (a : Acc) (mask again : Word) (s : State), s.clk.held = false ∧ (s.advance a.t).checkPage a
        (R.EVT_STATUS 0) true 4 = none)
    ∧ (∃ (a : Acc) (page : Fin 118) (mask : Word) (s : State), s.clk.held = false ∧ (s.advance a.t).checkPage a
        (R.EVT_FORCE page) true 4 = none ∧ page ≠ 0)
    ∧ (∃ (a : Acc) (mask : Word) (s : State), s.clk.held = false ∧ (s.advance a.t).checkPage a (R.EVT_FORCE 0)
        true 4 = none)
    ∧ (∃ (a : Acc)  (s : State), s.clk.held = false ∧ (s.advance a.t).checkPage a (R.EVT_VIOL_POP) true 4 = none) :=
  ⟨⟨acc0, 0x40001000, 2, 7, .size, st, by decide +kernel⟩,
   ⟨acc0, 0x41001000, 2, 7, st, by decide +kernel⟩,
   ⟨acc0, 53, 0xFFFF0003, st, by decide +kernel⟩,
   ⟨acc0, 53, 2, st.setReg (R.EVT_STATUS 53) 3, by decide +kernel⟩,
   ⟨acc0, 53, 0xFF, st, by decide +kernel⟩,
   ⟨acc0, 0xFFFF0003, st, by decide +kernel⟩,
   ⟨acc0, 0xFFFF0003, st, by decide +kernel⟩,
   ⟨acc0, 0xFFFF0003, st, by decide +kernel⟩,
   ⟨acc0, R.STOR_LBA, 117, (regRowAt 117 (R.STOR_LBA % 0x1000 % 0x800)).getD ⟨0, 0, 0, .rc, 0, 0⟩, 0xFFFFFFFF, st, by decide +kernel⟩,
   ⟨acc0, R.ULF_CTRL + 0x800, 112, (regRowAt 112 (R.ULF_CTRL % 0x1000 % 0x800)).getD ⟨0, 0, 0, .rc, 0, 0⟩, 0xFFFFFFFF, st, by decide +kernel⟩,
   ⟨acc0, R.COH_EPOCH, 0, (regRowAt 0 (R.COH_EPOCH % 0x1000 % 0x800)).getD ⟨0, 0, 0, .rc, 0, 0⟩, 0xFFFFFFFF, st, by decide +kernel⟩,
   ⟨acc0, 0x40000700, 0, 0xFFFFFFFF, st, by decide +kernel⟩,
   ⟨acc0, 0x40001000, 2, .size, st, by decide +kernel⟩,
   ⟨acc0, R.LSC_IPEAK 3, 4, 17, (regRowAt 17 (R.LSC_IPEAK 3 % 0x1000 % 0x800)).getD ⟨0, 0, 0, .rc, 0, 0⟩, st.setReg (R.LSC_IPEAK 3) 7, by decide +kernel⟩,
   ⟨acc0, R.QMGR_FREE_MIN, 4, 84, (regRowAt 84 (R.QMGR_FREE_MIN % 0x1000 % 0x800)).getD ⟨0, 0, 0, .rc, 0, 0⟩, st.setReg R.QMGR_FREE_MIN 7, by decide +kernel⟩,
   ⟨acc0, R.CAN_CNT_TX 2, 4, 39, (regRowAt 39 (R.CAN_CNT_TX 2 % 0x1000 % 0x800)).getD ⟨0, 0, 0, .rc, 0, 0⟩, 5, { (st.setReg (R.CAN_CNT_TX 2) 9).setPage 39 { held := true } with held := [(R.CAN_CNT_TX 2, 5)] }, by decide +kernel⟩,
   ⟨acc0, R.SWC_ECC, 4, 53, (regRowAt 53 (R.SWC_ECC % 0x1000 % 0x800)).getD ⟨0, 0, 0, .rc, 0, 0⟩, 0x10005, { (st.setReg R.SWC_ECC 0x30004).setPage 53 { held := true } with held := [(R.SWC_ECC, 0x10005)] }, by decide +kernel⟩,
   ⟨acc0, R.LSC_IPEAK 3, 4, 17, (regRowAt 17 (R.LSC_IPEAK 3 % 0x1000 % 0x800)).getD ⟨0, 0, 0, .rc, 0, 0⟩, 0x80001388, { (st.setReg (R.LSC_IPEAK 3) 6000).setPage 17 { held := true } with held := [(R.LSC_IPEAK 3, 0x80001388)] }, by decide +kernel⟩,
   ⟨acc0, R.ULF_CTRL + 0x800, 4, 112, (regRowAt 112 (R.ULF_CTRL % 0x1000 % 0x800)).getD ⟨0, 0, 0, .rc, 0, 0⟩, { st with staged := [(R.ULF_CTRL, 5)] }, by decide +kernel⟩,
   ⟨acc0, 0x40000700, 4, 0, st, by decide +kernel⟩,
   ⟨acc0, 0x800000010, [1, 2, 3], .clean, st, by decide +kernel⟩,
   ⟨acc0, 0x800000010, [1, 2, 3], st, by decide +kernel⟩,
   ⟨acc0, 0x800000010, [1, 2, 3], st, by decide +kernel⟩,
   ⟨{ acc0 with part := 3 }, 0x800000010, [1, 2, 3], .clean, mcS, by decide +kernel⟩,
   ⟨acc0, 0x10, [1], .notOwner, .corrected, st, by decide +kernel⟩,
   ⟨acc0, 0x41001000, [1], .clean, st, by decide +kernel⟩,
   ⟨acc0, 0x800000010, 4, .clean, { st with mem := [(0x800000010, 7)] }, by decide +kernel⟩,
   ⟨acc0, 0x800000010, 4, { st with mem := [(0x800000010, 7)] }, by decide +kernel⟩,
   ⟨acc0, 0x800000010, 4, { st with mem := [(0x800000010, 7)] }, by decide +kernel⟩,
   ⟨acc0, 0x24000000, 4, .unmapped, .clean, st, by decide +kernel⟩,
   ⟨acc0, 0x800000010, 4, .clean, { st with mem := [(0x800000010, 7)] }, by decide +kernel⟩,
   ⟨acc0, 0x800000010, 4, { st with mem := [(0x800000010, 7)] }, by decide +kernel⟩,
   ⟨acc0, 0x800000010, 4, { st with mem := [(0x800000010, 7)] }, by decide +kernel⟩,
   ⟨acc0, 0x24000000, 4, .unmapped, .clean, st, by decide +kernel⟩,
   ⟨acc0, 0x40001000, 4, .clean, st, by decide +kernel⟩,
   ⟨acc0, 53, 7, 2, st.setReg (R.EVT_STATUS 53) 0x1F, by decide +kernel⟩,
   ⟨acc0, 7, 2, { st with coh := { st.coh with banks := [(0, { evStatus := 7 })] } }, by decide +kernel⟩,
   ⟨acc0, 53, 7, st, by decide +kernel⟩,
   ⟨acc0, 7, st, by decide +kernel⟩,
   ⟨acc0, { st with viol := [⟨0, 0, true, .size, 4, 5⟩] }, by decide +kernel⟩⟩

theorem test_meets_staging :
    (∃ (a : Acc) (addr idx : Nat) (val : Word) (r : RegRow) (s : State), s.clk.held = false ∧ (s.advance
        a.t).checkPage a (addr) true 4 = none ∧ regRowOf addr = some r ∧ r.access = .st ∧ pageAt (lowerHalf addr)
        = some idx ∧ indirectReg (lowerHalf addr) = false ∧ (s.advance a.t).pageSeal idx (State.accPart a) = none
        ∧ lowerHalf addr ≠ R.UPD_ACT_REC ∧ (pageMirrored idx && (s.advance a.t).isPaired (State.accPart a) &&
        (s.advance a.t).pairHeld (State.accPart a)) = false)
    ∧ (∃ (a : Acc) (addr : Nat) (val : Word) (s : State), s.clk.held = false ∧ lowerHalf addr = R.UPD_ACT_REC ∧
        (s.advance a.t).checkPage a addr true 4 = none)
    ∧ (∃ (a : Acc) (addr : Nat) (val : Word) (c : BusCause) (s : State), s.clk.held = false ∧ (s.advance
        a.t).checkPage a addr true 4 = some c)
    ∧ (∃ (a : Acc) (val : Word) (s : State), s.clk.held = false ∧ (s.advance a.t).checkPage a (R.QMGR_QCFG_A)
        true 4 = none ∧ isMsgQueue ((s.advance a.t).regF R.QMGR_QSEL 11 0) = true ∧ (s.advance a.t).pageSeal 84
        (State.accPart a) = none ∧ (pageMirrored 84 && (s.advance a.t).isPaired (State.accPart a) && (s.advance
        a.t).pairHeld (State.accPart a)) = false)
    ∧ (∃ (a : Acc) (addr idx : Nat) (val : Word) (r : RegRow) (s : State), s.clk.held = false ∧ (s.advance
        a.t).checkPage a addr true 4 = none ∧ regRowOf addr = some r ∧ r.access = .st ∧ pageAt (lowerHalf addr) =
        some idx ∧ lowerHalf addr ≠ R.UPD_ACT_REC ∧ (s.advance a.t).pageSeal idx (State.accPart a) = none ∧
        (pageMirrored idx && (s.advance a.t).isPaired (State.accPart a) && (s.advance a.t).pairHeld (State.accPart
        a)) = true)
    ∧ (∃ (a : Acc) (addr idx q : Nat) (val : Word) (r : RegRow) (s : State), s.clk.held = false ∧ lowerHalf addr
        ≠ R.UPD_ACT_REC ∧ (s.advance a.t).checkPage a addr true 4 = none ∧ regRowOf addr = some r ∧ r.access = .st
        ∧ pageAt (lowerHalf addr) = some idx ∧ (s.advance a.t).pageSeal idx (State.accPart a) = some q)
    ∧ (∃ (a : Acc) (addr : Nat) (val : Word) (set : SetId) (s : State), s.clk.held = false ∧ (s.advance
        a.t).tableSealed (State.accPart a) = false ∧ rangeOf addr = .window ∧ (s.advance a.t).windowCheck a addr 4
        (some val) = none ∧ tableAt addr = some (.gen set) ∧ (set == .gw && (s.advance a.t).isPaired
        (State.accPart a) && (s.advance a.t).pairHeld (State.accPart a) && a.req.val != 10) = false ∧ (((s.advance
        a.t).setOf set).holder = none ∨ ((s.advance a.t).setOf set).holder = some (State.accPart a)) ∧ ((s.advance
        a.t).setOf set).other = .spare ∧ (s.advance a.t).logOf set = [])
    ∧ (∃ (a : Acc) (addr q : Nat) (val : Word) (set : SetId) (s : State), s.clk.held = false ∧ (s.advance
        a.t).tableSealed (State.accPart a) = false ∧ rangeOf addr = .window ∧ (s.advance a.t).windowCheck a addr 4
        (some val) = none ∧ tableAt addr = some (.gen set) ∧ (set == .gw && (s.advance a.t).isPaired
        (State.accPart a) && (s.advance a.t).pairHeld (State.accPart a) && a.req.val != 10) = false ∧ ((s.advance
        a.t).setOf set).holder = some q ∧ q ≠ State.accPart a)
    ∧ (∃ (a : Acc) (addr : Nat) (val : Word) (set : SetId) (s : State), s.clk.held = false ∧ (s.advance
        a.t).tableSealed (State.accPart a) = false ∧ rangeOf addr = .window ∧ (s.advance a.t).windowCheck a addr 4
        (some val) = none ∧ tableAt addr = some (.gen set) ∧ (set == .gw && (s.advance a.t).isPaired
        (State.accPart a) && (s.advance a.t).pairHeld (State.accPart a) && a.req.val != 10) = false ∧ (((s.advance
        a.t).setOf set).holder = none ∨ ((s.advance a.t).setOf set).holder = some (State.accPart a)) ∧
        (((s.advance a.t).setOf set).other ≠ .spare ∨ (s.advance a.t).logOf set ≠ []) ∧ (s.advance a.t).log.length
        < 16384)
    ∧ (∃ (a : Acc) (addr : Nat) (val : Word) (set : SetId) (s : State), s.clk.held = false ∧ (s.advance
        a.t).tableSealed (State.accPart a) = false ∧ rangeOf addr = .window ∧ (s.advance a.t).windowCheck a addr 4
        (some val) = none ∧ tableAt addr = some (.gen set) ∧ (set == .gw && (s.advance a.t).isPaired
        (State.accPart a) && (s.advance a.t).pairHeld (State.accPart a) && a.req.val != 10) = false ∧ (((s.advance
        a.t).setOf set).holder = none ∨ ((s.advance a.t).setOf set).holder = some (State.accPart a)) ∧
        (((s.advance a.t).setOf set).other ≠ .spare ∨ (s.advance a.t).logOf set ≠ []) ∧ 16384 ≤ (s.advance
        a.t).log.length)
    ∧ (∃ (a : Acc) (addr : Nat) (val : Word) (s : State), s.clk.held = false ∧ (s.advance a.t).tableSealed
        (State.accPart a) = false ∧ rangeOf addr = .window ∧ (s.advance a.t).windowCheck a addr 4 (some val) =
        none ∧ tableAt addr = some (.gen .gw) ∧ ((s.advance a.t).isPaired (State.accPart a) && (s.advance
        a.t).pairHeld (State.accPart a) && a.req.val != 10) = true)
    ∧ (∃ (a : Acc) (addr : Nat) (val : Word) (s : State), s.clk.held = false ∧ (s.advance a.t).tableSealed
        (State.accPart a) = true ∧ rangeOf addr = .window ∧ (s.advance a.t).windowCheck a addr 4 (some val) = none
        ∧ (tableAt addr).isSome = true)
    ∧ (∃ (a : Acc) (addr : Nat) (val : Word) (c : BusCause) (s : State), s.clk.held = false ∧ rangeOf addr =
        .window ∧ (s.advance a.t).windowCheck a addr 4 (some val) = some c)
    ∧ (∃ (a : Acc) (addr key page entry : Nat) (val : Word) (s : State), s.clk.held = false ∧ (s.advance
        a.t).tableSealed (State.accPart a) = false ∧ rangeOf addr = .window ∧ (s.advance a.t).windowCheck a addr 4
        (some val) = none ∧ tableAt addr = some (.region key page entry))
    ∧ (∃ (a : Acc) (page : Fin 118) (s : State), s.clk.held = false ∧ (s.advance a.t).checkPage a (R.PAGE_CMD
        page) true 4 = none ∧ (s.advance a.t).pageSeal page (State.accPart a) = none ∧ ((s.advance a.t).page
        page).mode ≠ .resetting)
    ∧ (∃ (a : Acc) (page : Fin 118) (s : State), s.clk.held = false ∧ (s.advance a.t).checkPage a (R.PAGE_CMD
        page) true 4 = none ∧ (s.advance a.t).pageSeal page (State.accPart a) = none ∧ ((s.advance a.t).page
        page).mode = .resetting)
    ∧ (∃ (a : Acc) (page : Fin 118) (q : Nat) (s : State), s.clk.held = false ∧ (s.advance a.t).checkPage a
        (R.PAGE_CMD page) true 4 = none ∧ (s.advance a.t).pageSeal page (State.accPart a) = some q)
    ∧ (∃ (a : Acc)  (s : State), s.clk.held = false ∧ (s.advance a.t).checkPage a R.COH_CANCEL true 4 = none ∧
        (s.advance a.t).tableSealed (State.accPart a) = true)
    ∧ (∃ (a : Acc)  (s : State), s.clk.held = false ∧ (s.advance a.t).checkPage a (R.COH_CANCEL) true 4 = none ∧
        (s.advance a.t).tableSealed (State.accPart a) = false)
    ∧ (∃ (t : Nat) (set : SetId) (s : State), s.clk.held = false ∧ ((s.advance t).setOf set).other = .draining ∧
        (s.advance t).drainCount set = 0)
    ∧ (∃ (t : Nat) (set : SetId) (s : State), s.clk.held = false ∧ ((s.advance t).setOf set).other = .resync ∧
        ((s.advance t).setOf set).since + resyncCycles set * (s.advance t).cycleNs ≤ (s.advance t).clk.lt)
    ∧ (∃ (t : Nat) (set : SetId) (s : State), s.clk.held = false ∧ ((s.advance t).setOf set).other = .spare ∧
        (s.advance t).logOf set ≠ [] ∧ ((s.advance t).setOf set).since + ((s.advance t).logOf set).length *
        (s.advance t).cycleNs ≤ (s.advance t).clk.lt)
    ∧ (∃ (t : Nat) (region : RegionId) (s : State), s.clk.held = false ∧ ((s.advance t).region (regionKey
        region)).resync = true ∧ ((s.advance t).region (regionKey region)).switched + regionCycles (regionKey
        region) * (s.advance t).cycleNs ≤ (s.advance t).clk.lt) :=
  ⟨⟨acc0, R.ULF_CTRL, 112, 0xFFFFFFFF, (regRowOf R.ULF_CTRL).getD ⟨0, 0, 0, .rc, 0, 0⟩, st, by decide +kernel⟩,
   ⟨acc0, R.UPD_ACT_REC, 1, st, by decide +kernel⟩,
   ⟨{ acc0 with part := 4 }, R.ULF_CTRL, 1, .notOwner, st, by decide +kernel⟩,
   ⟨acc0, 0xFFFFFFFF, st.setReg R.QMGR_QSEL 700, by decide +kernel⟩,
   ⟨{ acc0 with part := 3 }, R.GW_CTRL, 109, 5, (regRowOf R.GW_CTRL).getD ⟨0, 0, 0, .rc, 0, 0⟩, { prS (prR .standby) ulfUp with pt := { copy0 := [(0x30601800, 0x80000000), (0x3060184C, 0x2000)], copy1 := [(0x30601800, 0x80000000), (0x3060184C, 0x2000)] } }, by decide +kernel⟩,
   ⟨acc0, R.ULF_CTRL, 112, 0, 0xFFFFFFFF, (regRowOf R.ULF_CTRL).getD ⟨0, 0, 0, .rc, 0, 0⟩, { st with coh := { st.coh with banks := [(0, { pending := some ⟨99, false, false, .none, none, none, 0, false⟩ })] } }, by decide +kernel⟩,
   ⟨acc0, 0x30040000, 0x12345678, .sw, st, by decide +kernel⟩,
   ⟨acc0, 0x30040000, 5, 0x12345678, .sw, { st with sw := { st.sw with holder := some 5 } }, by decide +kernel⟩,
   ⟨acc0, 0x30040000, 0x12345678, .sw, { st with sw := { st.sw with other := .resync } }, by decide +kernel⟩,
   ⟨acc0, 0x30040000, 0x12345678, .sw, { st with sw := { st.sw with other := .resync }, log := List.replicate 16384 ⟨.sw, 0x30000000, 7, 0⟩ }, by decide +kernel⟩,
   ⟨{ acc0 with part := 3 }, 0x30400004, 0, prS (prR .standby) ulfUp, by decide +kernel⟩,
   ⟨acc0, 0x30040000, 5, { st with coh := { st.coh with banks := [(0, { pending := some ⟨99, false, false, .none, none, none, 0, false⟩ })] } }, by decide +kernel⟩,
   ⟨{ acc0 with part := 4 }, 0x30040000, 5, .notOwner, st, by decide +kernel⟩,
   ⟨acc0, 0x30300008, 49, 53, 0x30300008, 0x12345678, st, by decide +kernel⟩,
   ⟨acc0, 112, { st with staged := [(R.EVT_ROUTE 4, 5), (R.ULF_CTRL, 5)] }, by decide +kernel⟩,
   ⟨acc0, 84, st.setPage 84 { mode := .resetting }, by decide +kernel⟩,
   ⟨acc0, 112, 0, { st with coh := { st.coh with banks := [(0, { pending := some ⟨99, false, false, .none, none, none, 0, false⟩ })] } }, by decide +kernel⟩,
   ⟨acc0, { st with coh := { st.coh with banks := [(0, { pending := some ⟨99, false, false, .none, none, none, 0, false⟩ })] } }, by decide +kernel⟩,
   ⟨acc0, { st with sw := { st.sw with holder := some 0 }, regions := [(49, { dirty := true })] }, by decide +kernel⟩,
   ⟨50, .gw, { st with gwSet := { other := .draining } }, by decide +kernel⟩,
   ⟨90000, .gw, { st with gwSet := { copy0 := [(0x30400000, 7)], other := .resync } }, by decide +kernel⟩,
   ⟨90000, .gw, { st with log := [⟨.gw, 0x30400000, 7, 0⟩, ⟨.sw, 0x30000000, 7, 0⟩] }, by decide +kernel⟩,
   ⟨90000, .vlan, { st with regions := [(49, { resync := true })] }, by decide +kernel⟩⟩

theorem test_meets_commits :
    (∃ (a : Acc)  (s : State), s.clk.held = false ∧ (s.advance a.t).checkPage a (R.COH_COMMIT) true 4 = none ∧
        ((s.advance a.t).bank (State.accPart a)).pending = none ∧ (s.advance a.t).allPending = false ∧ (s.advance
        a.t).commitDrains (State.accPart a) false = false)
    ∧ (∃ (a : Acc) (src : Fin 1024) (w : Word) (s : State), s.clk.held = false ∧ (s.advance a.t).checkPage a
        (R.COH_COMMIT) true 4 = none ∧ State.accPart a = 0 ∧ ((s.advance a.t).bank 0).pending = none ∧ (s.advance
        a.t).commitSets 0 false = [] ∧ (s.advance a.t).staged = [(R.EVT_ROUTE src, w)] ∧ (∀ i : Fin 118,
        ((s.advance a.t).page i).mode = .active) ∧ (∀ x ∈ regionList, ((s.advance a.t).region x.1).dirty = false)
        ∧ (s.advance a.t).pool.stagedA = [] ∧ (s.advance a.t).pool.stagedB = [])
    ∧ (∃ (a : Acc) (key : Byte) (s : State), s.clk.held = false ∧ (s.advance a.t).checkPage a (R.COH_COMMIT) true
        4 = none ∧ key ≠ 0xC3)
    ∧ (∃ (a : Acc)  (s : State), s.clk.held = false ∧ (s.advance a.t).checkPage a (R.COH_COMMIT) true 4 = none ∧
        ((s.advance a.t).bank (State.accPart a)).pending = none ∧ (s.advance a.t).allPending = false ∧ (s.advance
        a.t).commitDrains (State.accPart a) false = true)
    ∧ (∃ (a : Acc)  (s : State), s.clk.held = false ∧ (s.advance a.t).checkPage a (R.COH_COMMIT) true 4 = none ∧
        State.accPart a = 0 ∧ (s.advance a.t).isRunning 0 = true ∧ (∀ q : Fin 32, ((s.advance a.t).bank q).pending
        = none) ∧ (s.advance a.t).commitDrains 0 true = false)
    ∧ (∃ (a : Acc)  (s : State), s.clk.held = false ∧ (s.advance a.t).checkPage a (R.COH_COMMIT) true 4 = none ∧
        State.accPart a ≠ 0 ∨ (s.advance a.t).isRunning 0 = false)
    ∧ (∃ (a : Acc) (all : Bool) (s : State), s.clk.held = false ∧ (s.advance a.t).checkPage a (R.COH_COMMIT) true
        4 = none ∧ (all = true → State.accPart a = 0 ∧ (s.advance a.t).isRunning 0 = true) ∧ (∀ q : Fin 32,
        ((s.advance a.t).bank q).pending = none) ∧ (s.advance a.t).timeOk ((s.advance a.t).commitTime
        (State.accPart a)) = true)
    ∧ (∃ (a : Acc)  (s : State), s.clk.held = false ∧ (s.advance a.t).checkPage a (R.COH_COMMIT) true 4 = none ∧
        (s.advance a.t).allPending = false ∧ ((s.advance a.t).bank (State.accPart a)).pending = none ∧ (s.advance
        a.t).timeOk ((s.advance a.t).commitTime (State.accPart a)) = false)
    ∧ (∃ (a : Acc) (all : Bool) (s : State), s.clk.held = false ∧ (s.advance a.t).checkPage a (R.COH_COMMIT) true
        4 = none ∧ (all = true → State.accPart a = 0 ∧ (s.advance a.t).isRunning 0 = true) ∧ (∀ q : Fin 32,
        ((s.advance a.t).bank q).pending = none) ∧ (s.advance a.t).timeOk ((s.advance a.t).commitTime
        (State.accPart a)) = true ∧ (s.advance a.t).hw.paired = true ∧ (s.advance a.t).isPaired (State.accPart a)
        = true ∧ (s.advance a.t).pairOn = true ∧ (s.advance a.t).roleOf (State.accPart a) = .active ∧ (s.advance
        a.t).partnerRole (State.accPart a) = .standby)
    ∧ (∃ (a : Acc) (all : Bool) (s : State), s.clk.held = false ∧ (s.advance a.t).checkPage a (R.COH_COMMIT) true
        4 = none ∧ (all = true → State.accPart a = 0 ∧ (s.advance a.t).isRunning 0 = true) ∧ (∀ q : Fin 32,
        ((s.advance a.t).bank q).pending = none) ∧ (s.advance a.t).timeOk ((s.advance a.t).commitTime
        (State.accPart a)) = true ∧ (s.advance a.t).hw.paired = false)
    ∧ (∃ (t : Nat) (part : Fin 32) (c : PendingCommit) (s : State), s.clk.held = false ∧ ((s.advance t).bank
        part).pending = some c ∧ c.time ≤ (s.advance t).syncNs ∧ c.pairMode = false ∧ (s.advance t).commitWaits
        part = false ∧ (s.advance t).commitDrains part c.all = false)
    ∧ (∃ (t : Nat) (part : Fin 32) (c : PendingCommit) (s : State), s.clk.held = false ∧ ((s.advance t).bank
        part).pending = some c ∧ c.time ≤ (s.advance t).syncNs ∧ c.pairMode = false ∧ (s.advance t).commitWaits
        part = false ∧ (s.advance t).commitDrains part c.all = true)
    ∧ (∃ (t : Nat) (part : Fin 32) (c : PendingCommit) (s : State), s.clk.held = false ∧ ((s.advance t).bank
        part).pending = some c ∧ (s.advance t).syncNs < c.time)
    ∧ (∃ (a : Acc)  (s : State), s.clk.held = false ∧ (s.advance a.t).checkPage a (R.COH_COMMIT) true 4 = none ∧
        ((s.advance a.t).bank (State.accPart a)).pending.isSome = true)
    ∧ (∃ (a : Acc)  (s : State), s.clk.held = false ∧ (s.advance a.t).checkPage a (R.COH_COMMIT) true 4 = none ∧
        ((s.advance a.t).bank (State.accPart a)).pending.isSome = true)
    ∧ (∃ (a : Acc)  (s : State), s.clk.held = false ∧ (s.advance a.t).checkPage a (R.COH_COMMIT) true 4 = none ∧
        ((s.advance a.t).bank (State.accPart a)).pending.isSome = true)
    ∧ (∃ (a : Acc)  (s : State), s.clk.held = false ∧ (s.advance a.t).checkPage a (R.COH_COMMIT) true 4 = none ∧
        State.accPart a = 0 ∧ (s.advance a.t).isRunning 0 = true ∧ (s.advance a.t).commitDrains 0 true = true ∧ (∀
        q : Fin 32, ((s.advance a.t).bank q).pending = none))
    ∧ (∃ (a : Acc) (key : Byte) (s : State), s.clk.held = false ∧ (s.advance a.t).checkPage a (R.COH_COMMIT) true
        4 = none ∧ key ≠ 0xC3)
    ∧ (∃ (a : Acc) (key : Byte) (all : Bool) (s : State), s.clk.held = false ∧ (s.advance a.t).checkPage a
        (R.COH_COMMIT) true 4 = none ∧ key ≠ 0xC3)
    ∧ (∃ (a : Acc) (key : Byte) (all : Bool) (s : State), s.clk.held = false ∧ (s.advance a.t).checkPage a
        (R.COH_COMMIT) true 4 = none ∧ key ≠ 0xC3)
    ∧ (∃ (a : Acc) (all : Bool) (s : State), s.clk.held = false ∧ (s.advance a.t).checkPage a (R.COH_COMMIT) true
        4 = none ∧ (all = true → State.accPart a = 0 ∧ (s.advance a.t).isRunning 0 = true) ∧ (∀ q : Fin 32,
        ((s.advance a.t).bank q).pending = none) ∧ (s.advance a.t).timeOk ((s.advance a.t).commitTime
        (State.accPart a)) = true ∧ (s.advance a.t).hw.paired = true ∧ ((s.advance a.t).isPaired (State.accPart a)
        && (s.advance a.t).pairOn) = false)
    ∧ (∃ (a : Acc)  (s : State), s.clk.held = false ∧ (s.advance a.t).checkPage a (R.COH_COMMIT) true 4 = none ∧
        (∀ q : Fin 32, ((s.advance a.t).bank q).pending = none) ∧ (s.advance a.t).timeOk ((s.advance
        a.t).commitTime (State.accPart a)) = true ∧ (s.advance a.t).hw.paired = true ∧ ((s.advance a.t).isPaired
        (State.accPart a) && (s.advance a.t).pairOn) = true ∧ ¬ ((s.advance a.t).roleOf (State.accPart a) =
        .active ∧ (s.advance a.t).partnerRole (State.accPart a) = .standby))
    ∧ (∃ (t : Nat) (part : Fin 32) (c : PendingCommit) (s : State), s.clk.held = false ∧ ((s.advance t).bank
        part).pending = some c ∧ c.time ≤ (s.advance t).syncNs ∧ (s.advance t).commitWaits part = true)
    ∧ (∃ (t : Nat) (part : Fin 32) (c : PendingCommit) (s : State), s.clk.held = false ∧ ((s.advance t).bank
        part).pending = some c ∧ c.time ≤ (s.advance t).syncNs ∧ (s.advance t).commitWaits part = false ∧
        c.pairMode = true ∧ c.stage = .go)
    ∧ (∃ (t : Nat) (part : Fin 32) (c : PendingCommit) (s : State), s.clk.held = false ∧ ((s.advance t).bank
        part).pending = some c ∧ c.time ≤ (s.advance t).syncNs ∧ (s.advance t).commitWaits part = false ∧
        c.pairMode = true ∧ c.stage ≠ .go)
    ∧ (∃ (a : Acc)  (s : State), s.clk.held = false ∧ (s.advance a.t).checkPage a (R.COH_CANCEL) true 4 = none ∧
        ((s.advance a.t).bank (State.accPart a)).pending = none)
    ∧ (∃ (a : Acc) (c : PendingCommit) (s : State), s.clk.held = false ∧ (s.advance a.t).checkPage a
        (R.COH_CANCEL) true 4 = none ∧ ((s.advance a.t).bank (State.accPart a)).pending = some c)
    ∧ (∃ (a : Acc) (target : Fin 32) (c : PendingCommit) (s : State), s.clk.held = false ∧ (s.advance
        a.t).checkPage a (R.COH_CANCEL) true 4 = none ∧ State.accPart a = 0 ∧ ((s.advance a.t).bank
        target).pending = some c)
    ∧ (∃ (a : Acc) (target : Fin 32) (s : State), s.clk.held = false ∧ (s.advance a.t).checkPage a (R.COH_CANCEL)
        true 4 = none ∧ State.accPart a ≠ 0) :=
  ⟨⟨acc0, st, by decide +kernel⟩,
   ⟨acc0, 700, 0x80050000, { st with staged := [(R.EVT_ROUTE 700, 0x80050000)] }, by decide +kernel⟩,
   ⟨acc0, 7, st, by decide +kernel⟩,
   ⟨acc0, { st with sw := { st.sw with holder := some 0, other := .draining } }, by decide +kernel⟩,
   ⟨acc0, st, by decide +kernel⟩,
   ⟨{ acc0 with part := 4 }, st, by decide +kernel⟩,
   ⟨acc0, true, { st with coh := { st.coh with banks := [(0, { timeLo := 20000000 })] } }, by decide +kernel⟩,
   ⟨acc0, st, by decide +kernel⟩,
   ⟨{ acc0 with part := 3 }, false, { prS { prR .active with contact := true, leased := true, pSynced := 8, pHealthy := 8 } ulfUp with coh := { st.coh with banks := [(3, { timeLo := 20000000 })] } }, by decide +kernel⟩,
   ⟨acc0, true, { st with coh := { st.coh with banks := [(0, { timeLo := 20000000 })] } }, by decide +kernel⟩,
   ⟨20000, 3, ⟨99, false, false, .none, none, none, 0, false⟩, { st with coh := { st.coh with banks := [(3, { pending := some ⟨99, false, false, .none, none, none, 0, false⟩ })] } }, by decide +kernel⟩,
   ⟨20000, 3, ⟨99, false, false, .none, none, none, 0, false⟩, { st with gwSet := { holder := some 3, other := .draining }, coh := { st.coh with banks := [(3, { pending := some ⟨99, false, false, .none, none, none, 0, false⟩ })] } }, by decide +kernel⟩,
   ⟨20, 3, ⟨99, false, false, .none, none, none, 0, false⟩, { st with coh := { st.coh with banks := [(3, { pending := some ⟨99, false, false, .none, none, none, 0, false⟩ })] } }, by decide +kernel⟩,
   ⟨acc0, { st with coh := { st.coh with banks := [(0, { pending := some ⟨99, false, false, .none, none, none, 0, false⟩ })] } }, by decide +kernel⟩,
   ⟨acc0, { st with coh := { st.coh with banks := [(0, { pending := some ⟨99, false, false, .none, none, none, 0, false⟩ })] } }, by decide +kernel⟩,
   ⟨acc0, { st with coh := { st.coh with banks := [(0, { pending := some ⟨99, false, false, .none, none, none, 0, false⟩ })] } }, by decide +kernel⟩,
   ⟨acc0, { st with sw := { st.sw with holder := some 0, other := .draining } }, by decide +kernel⟩,
   ⟨acc0, 7, st, by decide +kernel⟩,
   ⟨acc0, 7, true, st, by decide +kernel⟩,
   ⟨acc0, 7, true, st, by decide +kernel⟩,
   ⟨acc0, true, { prS {} ulfUp with coh := { st.coh with banks := [(0, { timeLo := 20000000 })] } }, by decide +kernel⟩,
   ⟨{ acc0 with part := 3 }, { prS (prR .standby) ulfUp with coh := { st.coh with banks := [(3, { timeLo := 20000000 })] } }, by decide +kernel⟩,
   ⟨20000, 3, ⟨99, false, false, .none, none, none, 0, false⟩, { st with coh := { st.coh with banks := [(1, { pending := some ⟨99, false, false, .none, none, none, 0, false⟩ }), (3, { pending := some ⟨99, false, false, .none, none, none, 0, false⟩ })] } }, by decide +kernel⟩,
   ⟨20000, 3, { time := 99, all := false, pairMode := true, stage := .go }, { st with coh := { st.coh with banks := [(3, { pending := some { time := 99, all := false, pairMode := true, stage := .go } })] } }, by decide +kernel⟩,
   ⟨20000, 3, { time := 99, all := false, pairMode := true }, { st with coh := { st.coh with banks := [(3, { pending := some { time := 99, all := false, pairMode := true } })] } }, by decide +kernel⟩,
   ⟨acc0, st, by decide +kernel⟩,
   ⟨acc0, ⟨99, false, false, .none, none, none, 0, false⟩, { st with coh := { st.coh with banks := [(0, { pending := some ⟨99, false, false, .none, none, none, 0, false⟩ })] } }, by decide +kernel⟩,
   ⟨acc0, 3, ⟨99, false, false, .none, none, none, 0, false⟩, { st with coh := { st.coh with banks := [(3, { pending := some ⟨99, false, false, .none, none, none, 0, false⟩ })] } }, by decide +kernel⟩,
   ⟨{ acc0 with part := 4 }, 3, st, by decide +kernel⟩⟩

theorem test_meets_pageStates :
    (∃ (a : Acc) (page : Fin 118) (s : State), s.clk.held = false ∧ (s.advance a.t).checkPage a (R.PAGE_CMD
        page) true 4 = none ∧ pageResettable page = true ∧ ((s.advance a.t).page page).mode = .active)
    ∧ (∃ (a : Acc) (page : Fin 118) (s : State), s.clk.held = false ∧ (s.advance a.t).checkPage a (R.PAGE_CMD
        page) true 4 = none ∧ pageResettable page = true ∧ ((s.advance a.t).page page).mode ≠ .active)
    ∧ (∃ (a : Acc) (page : Fin 118) (s : State), s.clk.held = false ∧ (s.advance a.t).checkPage a (R.PAGE_CMD
        page) true 4 = none ∧ pageResettable page = true ∧ ((s.advance a.t).page page).mode = .active)
    ∧ (∃ (a : Acc) (page : Fin 118) (s : State), s.clk.held = false ∧ (s.advance a.t).checkPage a (R.PAGE_CMD
        page) true 4 = none ∧ pageResettable page = true ∧ (((s.advance a.t).page page).mode = .quiescing ∨
        ((s.advance a.t).page page).mode = .quiesced) ∧ ((s.advance a.t).page page).resetPending = false)
    ∧ (∃ (a : Acc) (page : Fin 118) (s : State), s.clk.held = false ∧ (s.advance a.t).checkPage a (R.PAGE_CMD
        page) true 4 = none ∧ pageResettable page = true ∧ (((s.advance a.t).page page).mode = .quiescing ∨
        ((s.advance a.t).page page).mode = .quiesced))
    ∧ (∃ (a : Acc) (page : Fin 118) (s : State), s.clk.held = false ∧ (s.advance a.t).checkPage a (R.PAGE_CMD
        page) true 4 = none ∧ pageResettable page = true ∧ ((s.advance a.t).page page).mode = .quiesced)
    ∧ (∃ (a : Acc) (page : Fin 118) (s : State), s.clk.held = false ∧ (s.advance a.t).checkPage a (R.PAGE_CMD
        page) true 4 = none ∧ pageResettable page = true ∧ ((s.advance a.t).page page).mode = .active ∧ (s.advance
        a.t).regB (R.PAGE_RESET_CFG page) 31 = false)
    ∧ (∃ (a : Acc) (page : Fin 118) (s : State), s.clk.held = false ∧ (s.advance a.t).checkPage a (R.PAGE_CMD
        page) true 4 = none ∧ pageResettable page = true ∧ ((s.advance a.t).page page).mode = .quiescing ∧
        ((s.advance a.t).page page).resetPending = true)
    ∧ (∃ (a : Acc) (page : Fin 118) (s : State), s.clk.held = false ∧ (s.advance a.t).checkPage a (R.PAGE_CMD
        page) true 4 = none ∧ pageResettable page = true ∧ ((s.advance a.t).page page).mode = .active)
    ∧ (∃ (a : Acc) (page : Fin 118) (s : State), s.clk.held = false ∧ (s.advance a.t).checkPage a (R.PAGE_CMD
        page) true 4 = none ∧ pageResettable page = true ∧ ((s.advance a.t).page page).mode ≠ .active)
    ∧ (∃ (a : Acc) (page : Fin 118) (s : State), s.clk.held = false ∧ (s.advance a.t).checkPage a (R.PAGE_CMD
        page) true 4 = none ∧ pageResettable page = true ∧ ((s.advance a.t).page page).mode = .active)
    ∧ (∃ (a : Acc) (page : Fin 118) (s : State), s.clk.held = false ∧ (s.advance a.t).checkPage a (R.PAGE_CMD
        page) true 4 = none ∧ ((s.advance a.t).page page).mode = .resetting)
    ∧ (∃ (a : Acc) (page : Fin 118) (s : State), s.clk.held = false ∧ (s.advance a.t).checkPage a (R.PAGE_CMD
        page) true 4 = none ∧ ((s.advance a.t).page page).mode = .resetting)
    ∧ (∃ (a : Acc) (page : Fin 118) (s : State), s.clk.held = false ∧ (s.advance a.t).checkPage a (R.PAGE_CMD
        page) true 4 = none ∧ ((s.advance a.t).page page).mode = .resetting)
    ∧ (∃ (a : Acc) (page : Fin 118) (s : State), s.clk.held = false ∧ (s.advance a.t).checkPage a (R.PAGE_CMD
        page) true 4 = none ∧ pageResettable page = false)
    ∧ (∃ (a : Acc) (page : Fin 118) (s : State), s.clk.held = false ∧ (s.advance a.t).checkPage a (R.PAGE_CMD
        page) true 4 = none ∧ pageResettable page = false)
    ∧ (∃ (a : Acc) (page : Fin 118) (s : State), s.clk.held = false ∧ (s.advance a.t).checkPage a (R.PAGE_CMD
        page) true 4 = none ∧ pageResettable page = false)
    ∧ (∃ (a : Acc) (page : Fin 118) (s : State), s.clk.held = false ∧ (s.advance a.t).checkPage a (R.PAGE_CMD
        page) true 4 = none ∧ pageResettable page = false)
    ∧ (∃ (a : Acc) (page : Fin 118) (s : State), s.clk.held = false ∧ (s.advance a.t).checkPage a (R.PAGE_CMD
        page) true 4 = none ∧ pageResettable page = false)
    ∧ (∃ (a : Acc) (page : Fin 118) (s : State), s.clk.held = false ∧ (s.advance a.t).checkPage a (R.PAGE_CMD
        page) true 4 = none ∧ pageResettable page = true ∧ ((s.advance a.t).page page).mode = .active ∧ (s.advance
        a.t).regB (R.PAGE_RESET_CFG page) 31 = true)
    ∧ (∃ (a : Acc) (page : Fin 118) (s : State), s.clk.held = false ∧ (s.advance a.t).checkPage a (R.PAGE_CMD
        page) true 4 = none ∧ pageResettable page = true ∧ ((s.advance a.t).page page).mode = .quiescing)
    ∧ (∃ (t : Nat) (page : Fin 118) (s : State), s.clk.held = false ∧ ((s.advance t).page page).mode = .quiescing
        ∧ ((s.advance t).page page).stop ≠ .squash ∧ (s.advance t).inflight page = 0 ∧ ((s.advance t).page
        page).resetPending = true)
    ∧ (∃ (t : Nat) (page : Fin 118) (s : State), s.clk.held = false ∧ (s.advance t).inflight page ≠ 0)
    ∧ (∃ (t : Nat) (page : Fin 118) (s : State), s.clk.held = false ∧ ((s.advance t).page page).mode = .quiescing
        ∧ ((s.advance t).page page).stop = .squash ∧ (s.advance t).inflight page = 0 ∧ ((s.advance t).page
        page).resetPending = true)
    ∧ (∃ (t : Nat) (page : Fin 118) (d : Nat) (s : State), s.clk.held = false ∧ ((s.advance t).page page).mode =
        .quiescing ∧ ((s.advance t).page page).deadline = some d ∧ d ≤ (s.advance t).clk.lt ∧ ((s.advance t).page
        page).resetPending = true)
    ∧ (∃ (t : Nat) (page : Fin 118) (s : State), s.clk.held = false ∧ ((s.advance t).page page).mode ≠ .resetting
        ∨ (s.advance t).clk.lt < ((s.advance t).page page).resetSince + 1024 * (s.advance t).cycleNs)
    ∧ (∃ (t : Nat) (page : Fin 118) (s : State), s.clk.held = false ∧ ((s.advance t).page page).mode = .quiescing
        ∧ ((s.advance t).page page).stop ≠ .squash ∧ (s.advance t).inflight page = 0 ∧ ((s.advance t).page
        page).resetPending = false)
    ∧ (∃ (t : Nat) (page : Fin 118) (s : State), s.clk.held = false ∧ ((s.advance t).page page).mode = .quiescing
        ∧ ((s.advance t).page page).stop = .squash ∧ (s.advance t).inflight page = 0 ∧ ((s.advance t).page
        page).resetPending = false)
    ∧ (∃ (t : Nat) (page : Fin 118) (d : Nat) (s : State), s.clk.held = false ∧ ((s.advance t).page page).mode =
        .quiescing ∧ ((s.advance t).page page).deadline = some d ∧ d ≤ (s.advance t).clk.lt ∧ ((s.advance t).page
        page).resetPending = false)
    ∧ (∃ (t : Nat) (page : Fin 118) (s : State), s.clk.held = false ∧ ((s.advance t).page page).mode = .resetting
        ∧ ((s.advance t).page page).resetSince + 1024 * (s.advance t).cycleNs ≤ (s.advance t).clk.lt)
    ∧ (∃ (a : Acc) (page : Fin 118) (s : State), s.clk.held = false ∧ (s.advance a.t).checkPage a (R.PAGE_CMD
        page) true 4 = none ∧ ((s.advance a.t).page page).mode ≠ .resetting)
    ∧ (∃ (a : Acc)  (s : State), s.clk.held = false ∧ (s.advance a.t).checkPage a (R.COH_SNAPSHOT) true 4 = none)
    ∧ (∃ (a : Acc) (page : Fin 118) (s : State), s.clk.held = false ∧ (s.advance a.t).checkPage a
        (R.COH_SNAP_RELEASE) true 4 = none ∧ (s.advance a.t).mayOwn (State.accPart a) page = true)
    ∧ (∃ (a : Acc)  (s : State), s.clk.held = false ∧ (s.advance a.t).checkPage a (R.COH_SNAP_RELEASE) true 4 =
        none) :=
  ⟨⟨acc0, 40, st, by decide +kernel⟩,
   ⟨acc0, 40, st.setPage 40 { mode := .quiesced }, by decide +kernel⟩,
   ⟨acc0, 40, st, by decide +kernel⟩,
   ⟨acc0, 40, st.setPage 40 { mode := .quiescing, stop := .drain }, by decide +kernel⟩,
   ⟨acc0, 40, st.setPage 40 { mode := .quiescing, stop := .drain }, by decide +kernel⟩,
   ⟨acc0, 40, st.setPage 40 { mode := .quiesced }, by decide +kernel⟩,
   ⟨acc0, 40, st.setReg (R.PAGE_RESET_CFG 40) 5, by decide +kernel⟩,
   ⟨acc0, 40, st.setPage 40 { mode := .quiescing, stop := .drain, resetPending := true }, by decide +kernel⟩,
   ⟨acc0, 40, st, by decide +kernel⟩,
   ⟨acc0, 40, st.setPage 40 { mode := .quiesced }, by decide +kernel⟩,
   ⟨acc0, 40, st, by decide +kernel⟩,
   ⟨acc0, 40, st.setPage 40 { mode := .resetting }, by decide +kernel⟩,
   ⟨acc0, 40, st.setPage 40 { mode := .resetting }, by decide +kernel⟩,
   ⟨acc0, 40, st.setPage 40 { mode := .resetting }, by decide +kernel⟩,
   ⟨acc0, 7, st, by decide +kernel⟩,
   ⟨acc0, 7, st, by decide +kernel⟩,
   ⟨acc0, 7, st, by decide +kernel⟩,
   ⟨acc0, 7, st, by decide +kernel⟩,
   ⟨acc0, 7, st, by decide +kernel⟩,
   ⟨acc0, 40, st.setReg (R.PAGE_RESET_CFG 40) 0x80000005, by decide +kernel⟩,
   ⟨acc0, 40, st.setPage 40 { mode := .quiescing, stop := .drain }, by decide +kernel⟩,
   ⟨50, 40, st.setPage 40 { mode := .quiescing, stop := .drain, resetPending := true }, by decide +kernel⟩,
   ⟨50, 109, gwS2.setPage 109 { mode := .quiescing, stop := .drain }, by decide +kernel⟩,
   ⟨50, 40, st.setPage 40 { mode := .quiescing, stop := .squash, resetPending := true }, by decide +kernel⟩,
   ⟨50, 40, 40, st.setPage 40 { mode := .quiescing, stop := .drain, deadline := some 40, resetPending := true }, by decide +kernel⟩,
   ⟨500, 40, st.setPage 40 { mode := .resetting }, by decide +kernel⟩,
   ⟨50, 40, st.setPage 40 { mode := .quiescing, stop := .drain }, by decide +kernel⟩,
   ⟨50, 40, st.setPage 40 { mode := .quiescing, stop := .squash }, by decide +kernel⟩,
   ⟨50, 40, 40, st.setPage 40 { mode := .quiescing, stop := .drain, deadline := some 40 }, by decide +kernel⟩,
   ⟨5000, 40, st.setPage 40 { mode := .resetting }, by decide +kernel⟩,
   ⟨acc0, 40, st, by decide +kernel⟩,
   ⟨acc0, st, by decide +kernel⟩,
   ⟨acc0, 40, st.setPage 40 { held := true }, by decide +kernel⟩,
   ⟨acc0, st.setPage 40 { held := true }, by decide +kernel⟩⟩

theorem test_meets_semaphores :
    (∃ (a : Acc) (sem : Fin 64) (s : State), s.clk.held = false ∧ (s.advance a.t).checkPage a (R.COH_SEM sem)
        false 4 = none ∧ KMap.get? (s.advance a.t).coh.sems sem = none)
    ∧ (∃ (a : Acc) (sem : Fin 64) (q : Nat) (s : State), s.clk.held = false ∧ (s.advance a.t).checkPage a
        (R.COH_SEM sem) false 4 = none ∧ KMap.get? (s.advance a.t).coh.sems sem = some q)
    ∧ (∃ (a : Acc) (sem : Fin 64) (s : State), s.clk.held = false ∧ (s.advance a.t).checkPage a (R.COH_SEM sem)
        true 4 = none ∧ KMap.get? (s.advance a.t).coh.sems sem = some (State.accPart a))
    ∧ (∃ (a : Acc) (sem : Fin 64) (s : State), s.clk.held = false ∧ (s.advance a.t).checkPage a (R.COH_SEM sem)
        true 4 = none ∧ KMap.get? (s.advance a.t).coh.sems sem ≠ some (State.accPart a))
    ∧ (∃ (a : Acc) (target : Fin 32) (s : State), s.clk.held = false ∧ (s.advance a.t).checkPage a (R.PART_CMD)
        true 4 = none ∧ target ≠ 0 ∧ ((s.advance a.t).part target).state ≠ .resetting)
    ∧ (∃ (a : Acc) (target : Fin 32) (s : State), s.clk.held = false ∧ (s.advance a.t).checkPage a (R.PART_CMD)
        true 4 = none ∧ target ≠ 0 ∧ ((s.advance a.t).part target).state ≠ .resetting)
    ∧ (∃ (a : Acc) (sem : Fin 64) (val : Word) (s : State), s.clk.held = false ∧ (s.advance a.t).checkPage a
        (R.COH_SEM sem) true 4 = none) :=
  ⟨⟨acc0, 7, st, by decide +kernel⟩,
   ⟨acc0, 7, 3, { st with coh := { st.coh with sems := [(7, 3)] } }, by decide +kernel⟩,
   ⟨acc0, 7, { st with coh := { st.coh with sems := [(7, 0)] } }, by decide +kernel⟩,
   ⟨acc0, 7, { st with coh := { st.coh with sems := [(7, 3)] } }, by decide +kernel⟩,
   ⟨acc0, 4, { st with coh := { st.coh with sems := [(7, 4)] } }, by decide +kernel⟩,
   ⟨acc0, 4, { st with coh := { st.coh with sems := [(7, 4)] } }, by decide +kernel⟩,
   ⟨acc0, 7, 0, { st with coh := { st.coh with sems := [(7, 0)] } }, by decide +kernel⟩⟩

theorem test_semaphores_resetStart : ∃ (s : State) (p : Nat), (s.part p).state ≠ .resetting :=
  ⟨st, 4, by decide +kernel⟩

theorem test_meets_partitionTableWriters :
    (∃ (a : Acc) (addr : Nat) (val : Word) (s : State), s.clk.held = false ∧ tableAt addr = some (.gen .part) ∧
        State.accPart a ≠ 0)
    ∧ (∃ (a : Acc) (addr size : Nat) (val : Word) (s : State), s.clk.held = false ∧ tableAt addr = some (.gen
        .part) ∧ State.accPart a ≠ 0)
    ∧ (∃ (a : Acc) (addr : Nat) (d : List Byte) (ecc : EccFound) (s : State), s.clk.held = false ∧ tableAt addr =
        some (.gen .part) ∧ State.accPart a ≠ 0)
    ∧ (∃ (a : Acc) (addr : Nat) (val : Word) (s : State), s.clk.held = false ∧ tableAt addr = some (.gen .part) ∧
        addr % 4 = 0 ∧ State.accPart a = 0 ∧ a.req.val ≠ 19 ∧ (s.advance a.t).tableSealed 0 = false ∧ ((s.advance
        a.t).pt.holder = none ∨ (s.advance a.t).pt.holder = some 0) ∧ (s.advance a.t).pt.other = .spare ∧
        (s.advance a.t).logOf .part = []) :=
  ⟨⟨{ acc0 with part := 4 }, 0x30600000, 5, st, by decide +kernel⟩,
   ⟨{ acc0 with part := 4 }, 0x30600000, 4, 5, st, by decide +kernel⟩,
   ⟨{ acc0 with part := 4 }, 0x30600000, [1, 2, 3, 4], .clean, st, by decide +kernel⟩,
   ⟨acc0, 0x30600000, 5, st, by decide +kernel⟩⟩

theorem test_partitionTableWriters_bus : ∃ (a : Acc) (addr : Nat), tableAt addr = some (.gen .part) ∧ State.accPart a ≠ 0 :=
  ⟨{ acc0 with part := 4 }, 0x30600004, by decide⟩

theorem test_meets_dormantHold :
    ∃ (t : Nat) (executing : Bool) (timers : List (Fin 32 × Nat)) (c : Fin 128) (s : State), s.clk.held = false
      ∧ (((s.advance t).chan c).conducting = true ∨ ((s.advance t).chan c).lease = .running) ∧ (s.advance
      t).pwr.target ≠ some .dormant :=
  ⟨50, false, [], 5, { (st.setReg R.PWR_CFG 5) with load := { chans := [(5, { lease := .running })] }, pwr := { zsp := { state := .asleep, silent := true } } }, by decide +kernel⟩

theorem test_dormantHold_choice : ∃ s : State, ∃ c : Fin 128, (s.chan c).conducting = true ∨ (s.chan c).lease = .running :=
  ⟨{ st with load := { chans := [(5, { lease := .running })] } }, 5, by decide +kernel⟩

theorem test_stepRunsFront_idle : ∃ s : State, s.pending = [] :=
  ⟨st, rfl⟩

theorem test_heldModule : ∃ (c : Instr) (s : State), s.clk.held = true ∧ (∀ t, c ≠ .powerOnReset t) ∧ ∀ t p u, c ≠ .powerOnRelease t p u :=
  ⟨.zspTc 5, { st with clk := { held := true } }, rfl, by simp, by simp⟩

theorem test_powerOnHold : ∃ s n : State, (s.clk.held = true → s.atPowerOn) ∧ step s = .next n ∧ n.clk.held = true :=
  ⟨{ st with clk := { held := true } }, _, fun _ => by unfold State.atPowerOn; decide +kernel, rfl, rfl⟩

theorem test_memoryLaws_outside : ∃ (addr x : Nat) (d : List Byte), x < addr ∨ addr + d.length ≤ x :=
  ⟨5, 7, [1, 2], by decide⟩

theorem test_likeShortCircuitTrip :
    ∃ (c : Instr) (t : Nat) (s n : State), likeShortCircuitTrip c = some t ∧ s.clk.held = false ∧ exec c s = .next n :=
  ⟨(fun (t : Nat) (ch : Fin 128) (ma : Int) => (.shortCircuitTrip t ch ma : Instr)) (100) (90) (18000), _, st, _, rfl, rfl, rfl⟩

theorem test_likeTripAck :
    ∃ (c : Instr) (t : Nat) (s n : State), likeTripAck c = some t ∧ s.clk.held = false ∧ exec c s = .next n :=
  ⟨(fun (a : Acc) (ch : Fin 128) => (.tripAck a ch : Instr)) (acc0) (5), _, st, _, rfl, rfl, rfl⟩

theorem test_likeLedgerUpdate :
    ∃ (c : Instr) (t : Nat) (s n : State), likeLedgerUpdate c = some t ∧ s.clk.held = false ∧ exec c s = .next n :=
  ⟨(fun (t : Nat) => (.ledgerUpdate t : Instr)) (500), _, st, _, rfl, rfl, rfl⟩

theorem test_likeLedgerPeerReceive :
    ∃ (c : Instr) (t : Nat) (s n : State), likeLedgerPeerReceive c = some t ∧ s.clk.held = false ∧ exec c s = .next n :=
  ⟨(fun (t : Nat) (m : PeerCounts) => (.ledgerPeerReceive t m.to_ m.fed m.energyMj m.trips m.outage m.from_ m.samples m.closings m.loadNo m.replaced : Instr)) (500) ({ from_ := 0, to_ := 7, fed := [], energyMj := 5, trips := [0, 1], outage := true, samples := 3, closings := 1, loadNo := 4, replaced := 0 }), _, st, _, rfl, rfl, rfl⟩

theorem test_likeModelStep :
    ∃ (c : Instr) (t : Nat) (s n : State), likeModelStep c = some t ∧ s.clk.held = false ∧ exec c s = .next n :=
  ⟨(fun (t : Nat) (chans : List ChanSample) (banks : List BankSample) => (.modelStep t chans banks : Instr)) (5) ([⟨9, 30000, 900000000, 2400, 0, 30000, none, 0, 0, none, 0⟩]) ([⟨0, 24000⟩]), _, st, _, rfl, rfl, rfl⟩

theorem test_likeInterrogate :
    ∃ (c : Instr) (t : Nat) (s n : State), likeInterrogate c = some t ∧ s.clk.held = false ∧ exec c s = .next n :=
  ⟨(fun (a : Acc) (ch : Fin 128) => (.interrogate a ch : Instr)) (acc0) (7), _, st, _, rfl, rfl, rfl⟩

theorem test_likeAinBurdenReconnect :
    ∃ (c : Instr) (t : Nat) (s n : State), likeAinBurdenReconnect c = some t ∧ s.clk.held = false ∧ exec c s = .next n :=
  ⟨(fun (t : Nat) (k : Fin 64) => (.ainBurdenReconnect t k : Instr)) (1000000500) (3), _, st, _, rfl, rfl, rfl⟩

theorem test_likeSsupFaultRestart :
    ∃ (c : Instr) (t : Nat) (s n : State), likeSsupFaultRestart c = some t ∧ s.clk.held = false ∧ exec c s = .next n :=
  ⟨(fun (a : Acc) (k : Fin 8) => (.ssupFaultRestart a k : Instr)) (acc0) (5), _, st, _, rfl, rfl, rfl⟩

theorem test_likeDinPoll :
    ∃ (c : Instr) (t : Nat) (s n : State), likeDinPoll c = some t ∧ s.clk.held = false ∧ exec c s = .next n :=
  ⟨(fun (t : Nat) (k : Fin 96) (mv : Nat) => (.dinPoll t k mv : Instr)) (500) (30) (3000), _, st, _, rfl, rfl, rfl⟩

theorem test_loadChannelOf :
    ∃ (c : Instr) (t k : Nat) (s n : State), loadChannelOf c = some (t, k) ∧ s.clk.held = false ∧ exec c s = .next n :=
  ⟨(fun (t : Nat) (ch : Fin 128) (ma : Int) => (.shortCircuitTrip t ch ma : Instr)) (100) (90) (18000), _, _, st, _, rfl, rfl, rfl⟩

theorem test_loadBankOf :
    ∃ (c : Instr) (t k : Nat) (s n : State), loadBankOf c = some (t, k) ∧ s.clk.held = false ∧ exec c s = .next n :=
  ⟨(fun (t : Nat) (bank : Fin 4) => (.scWindowEnd t bank : Instr)) (300) (2), _, _, st, _, rfl, rfl, rfl⟩

theorem test_likeCanConfigApply :
    ∃ (c : Instr) (t : Nat) (s n : State), likeCanConfigApply c = some t ∧ s.clk.held = false ∧ exec c s = .next n :=
  ⟨(fun (t : Nat) (ch : Fin 12) => (.canConfigApply t ch : Instr)) (500) (3), _, st, _, rfl, rfl, rfl⟩

theorem test_likeCanLaunchEligible :
    ∃ (c : Instr) (t : Nat) (s n : State), likeCanLaunchEligible c = some t ∧ s.clk.held = false ∧ exec c s = .next n :=
  ⟨(fun (t : Nat) (ch : Fin 12) (mb : Fin 128) (at_ : Nat) (sync : Bool) => (.canLaunchEligible t ch mb : Instr)) (500) (3) (9) (400) (false), _, st, _, rfl, rfl, rfl⟩

theorem test_likeCanSof :
    ∃ (c : Instr) (t : Nat) (s n : State), likeCanSof c = some t ∧ s.clk.held = false ∧ exec c s = .next n :=
  ⟨(fun (t : Nat) (ch : Fin 12) (ecc : EccFound) (mb : Nat) => (.canSof t ch ecc : Instr)) (500) (3) (.clean) (9), _, st, _, rfl, rfl, rfl⟩

theorem test_likeCanTxError :
    ∃ (c : Instr) (t : Nat) (s n : State), likeCanTxError c = some t ∧ s.clk.held = false ∧ exec c s = .next n :=
  ⟨(fun (t : Nat) (ch : Fin 12) (lec : Fin 8) (dataPhase exempt : Bool) (delay : Option (Fin 128)) (mb : Nat) (f : CanFrame) (stamp : Nat) => (.canTxError t ch lec dataPhase exempt delay : Instr)) (500) (3) (4) (false) (false) (none) (9) ({ id := 5 }) (100), _, st, _, rfl, rfl, rfl⟩

theorem test_likeLinResponseRx :
    ∃ (c : Instr) (t : Nat) (s n : State), likeLinResponseRx c = some t ∧ s.clk.held = false ∧ exec c s = .next n :=
  ⟨(fun (t : Nat) (l : Fin 8) (f : LinFrame) (data : List Byte) (checksum : Byte) => (.linResponseRx t l (.complete data checksum) : Instr)) (500) (5) ({ fid := 9, stamp := 400, master := false, rate := 9600, idEnd := 450, data := some [] }) ([1, 2]) (0xB3), _, st, _, rfl, rfl, rfl⟩

theorem test_likeReq :
    ∃ (c : Instr) (t : Nat) (s n : State), likeReq c = some t ∧ s.clk.held = false ∧ exec c s = .next n :=
  ⟨(fun (a : Acc) (ch : Fin 12) (mb : Fin 128) => (.req a ch mb : Instr)) (acc0) (3) (9), _, st, _, rfl, rfl, rfl⟩

theorem test_likeTxsCancel :
    ∃ (c : Instr) (t : Nat) (s n : State), likeTxsCancel c = some t ∧ s.clk.held = false ∧ exec c s = .next n :=
  ⟨(fun (a : Acc) (ch : Fin 12) => (.txsCancel a ch : Instr)) (acc0) (9), _, st, _, rfl, rfl, rfl⟩

theorem test_likeCanWakePattern :
    ∃ (c : Instr) (t : Nat) (s n : State), likeCanWakePattern c = some t ∧ s.clk.held = false ∧ exec c s = .next n :=
  ⟨(fun (t : Nat) (ch : Fin 12) => (.canWakePattern t ch : Instr)) (500) (3), _, st, _, rfl, rfl, rfl⟩

theorem test_likeTpeTxFrameDone :
    ∃ (c : Instr) (t : Nat) (s n : State), likeTpeTxFrameDone c = some t ∧ s.clk.held = false ∧ exec c s = .next n :=
  ⟨(fun (t : Nat) (ch : Fin 12) (k count next : Nat) (x : Session) => (.tpeTxFrameDone t ch : Instr)) (0) (3) (0) (2) (1) ({ state := .receiving }), _, st, _, rfl, rfl, rfl⟩

theorem test_likeTpeTxRequest :
    ∃ (c : Instr) (t : Nat) (s n : State), likeTpeTxRequest c = some t ∧ s.clk.held = false ∧ exec c s = .next n :=
  ⟨(fun (t : Nat) (ch : Fin 12) (ecc : EccFound) (p : Packet) (sa da size k : Nat) => (.tpeTxRequest t ch ecc : Instr)) (0) (3) (.clean) (tpP) (0x21) (0x33) (10) (0), _, st, _, rfl, rfl, rfl⟩

theorem test_likeGwEventAdmit :
    ∃ (c : Instr) (t : Nat) (s n : State), likeGwEventAdmit c = some t ∧ s.clk.held = false ∧ exec c s = .next n :=
  ⟨(fun (t : Nat) (e : GwEvent) (rest : List GwEvent) (i : Nat) (ecc : EccFound) => (.gwEventAdmit t ecc : Instr)) (0) (gwE) ([]) (5) (.corrected), _, st, _, rfl, rfl, rfl⟩

theorem test_likeGwSlotClr :
    ∃ (c : Instr) (t : Nat) (s n : State), likeGwSlotClr c = some t ∧ s.clk.held = false ∧ exec c s = .next n :=
  ⟨(fun (a : Acc) (all : Bool) (slot : Fin 4096) => (.gwSlotClr a all slot : Instr)) (acc0) (false) (9), _, st, _, rfl, rfl, rfl⟩

theorem test_likeGwRouteJob :
    ∃ (c : Instr) (t : Nat) (s n : State), likeGwRouteJob c = some t ∧ s.clk.held = false ∧ exec c s = .next n :=
  ⟨(fun (t : Nat) (j : RouteJob) (rest : List RouteJob) (w0 w1 w2 w3 : Word) (y : Int) (ecc : EccFound) => (.gwRouteJob t ecc : Instr)) (0) (gwJ) ([]) (0x00000E00) (0x98000000) (0x30022000) (0x00010000) (0x20) (.corrected), _, st, _, rfl, rfl, rfl⟩

theorem test_likeContainerClose :
    ∃ (c : Instr) (t : Nat) (s n : State), likeContainerClose c = some t ∧ s.clk.held = false ∧ exec c s = .next n :=
  ⟨(fun (t : Nat) (c : Fin 32) (f : OpenFrame) => (.containerClose t c : Instr)) (0) (7) ({ cfg := 0, batch := 0, da := 0, sid := 0, sa := 0, etype := 0, opened := 0 }), _, st, _, rfl, rfl, rfl⟩

theorem test_likeGwP25FrameIn :
    ∃ (c : Instr) (t : Nat) (s n : State), likeGwP25FrameIn c = some t ∧ s.clk.held = false ∧ exec c s = .next n :=
  ⟨(fun (t : Nat) (p : Packet) (rest : List Packet) (ecc : EccFound) => (.gwP25FrameIn t ecc : Instr)) (0) (p25P) ([]) (.clean), _, st, _, rfl, rfl, rfl⟩

theorem test_likeGateEntryChange :
    ∃ (c : Instr) (t : Nat) (s n : State), likeGateEntryChange c = some t ∧ s.clk.held = false ∧ exec c s = .next n :=
  ⟨(fun (t : Nat) (port : Fin 27) (g : GateSeg) => (.gateEntryChange t port : Instr)) (0) (3) (⟨0, 0, 1000, 0, 0x0F⟩), _, st, _, rfl, rfl, rfl⟩

theorem test_likePolSelect :
    ∃ (c : Instr) (t : Nat) (s n : State), likePolSelect c = some t ∧ s.clk.held = false ∧ exec c s = .next n :=
  ⟨(fun (a : Acc) (index : Fin 1024) => (.polSelect a index : Instr)) (acc0) (900), _, st, _, rfl, rfl, rfl⟩

theorem test_likeStreamAgeOut :
    ∃ (c : Instr) (t : Nat) (s n : State), likeStreamAgeOut c = some t ∧ s.clk.held = false ∧ exec c s = .next n :=
  ⟨(fun (t : Nat) (q : Fin 216) (p : Packet) (rest : List Packet) => (.streamAgeOut t q : Instr)) (300000000) (29) (txP) ([]), _, st, _, rfl, rfl, rfl⟩

theorem test_likeEthTxSelect :
    ∃ (c : Instr) (t : Nat) (s n : State), likeEthTxSelect c = some t ∧ s.clk.held = false ∧ exec c s = .next n :=
  ⟨(fun (t : Nat) (port : Fin 27) (da q : Nat) (p : Packet) => (.ethTxSelect t port da : Instr)) (0) (3) (7) (5) (txP), _, st, _, rfl, rfl, rfl⟩

theorem test_likeEthFrameRx :
    ∃ (c : Instr) (t : Nat) (s n : State), likeEthFrameRx c = some t ∧ s.clk.held = false ∧ exec c s = .next n :=
  ⟨(fun (t : Nat) (port : Fin 27) (stamp : Nat) (bytes : List Byte) (tag : Option SecTag) (ecc : EccFound) (f : Nat) (s1 : State) => (.ethFrameRx t port (.whole stamp bytes true tag) ecc : Instr)) (0) (3) (90) (List.replicate 60 1) (none) (.clean) (0) ((sw1.openFrame 64).2), _, st, _, rfl, rfl, rfl⟩

theorem test_likeEthTxComplete :
    ∃ (c : Instr) (t : Nat) (s n : State), likeEthTxComplete c = some t ∧ s.clk.held = false ∧ exec c s = .next n :=
  ⟨(fun (t : Nat) (port : Fin 27) (q : Nat) (p : Packet) (m : CopyMeta) => (.ethTxComplete t port .uncorrectable : Instr)) (0) (3) (5) (txP2) ((txP2.copy.getD {})), _, st, _, rfl, rfl, rfl⟩

theorem test_likeEthLaunchEligible :
    ∃ (c : Instr) (t : Nat) (s n : State), likeEthLaunchEligible c = some t ∧ s.clk.held = false ∧ exec c s = .next n :=
  ⟨(fun (t : Nat) (q : Fin 216) => (.ethLaunchEligible t q : Instr)) (300000000) (29), _, st, _, rfl, rfl, rfl⟩

theorem test_likeMsgAgeOut :
    ∃ (c : Instr) (t : Nat) (s n : State), likeMsgAgeOut c = some t ∧ s.clk.held = false ∧ exec c s = .next n :=
  ⟨(fun (t : Nat) (q : Fin 4096) => (.msgAgeOut t q : Instr)) (11000000) (700), _, st, _, rfl, rfl, rfl⟩

theorem test_likeTraceRecord :
    ∃ (c : Instr) (t : Nat) (s n : State), likeTraceRecord c = some t ∧ s.clk.held = false ∧ exec c s = .next n :=
  ⟨(fun (t : Nat) (slot q : Nat) (ecc : EccFound) => (.traceRecord t ecc : Instr)) (0) (2) (700) (.clean), _, st, _, rfl, rfl, rfl⟩

theorem test_likeWrData :
    ∃ (c : Instr) (t : Nat) (s n : State), likeWrData c = some t ∧ s.clk.held = false ∧ exec c s = .next n :=
  ⟨(fun (a : Acc) (q : Fin 4096) (off : Fin 2016) (val : Nat) (p : Packet) => (.wrData a q off val 4 : Instr)) (acc0) (700) (8) (0x01020304) (qp), _, st, _, rfl, rfl, rfl⟩

theorem test_likeWrCommit :
    ∃ (c : Instr) (t : Nat) (s n : State), likeWrCommit c = some t ∧ s.clk.held = false ∧ exec c s = .next n :=
  ⟨(fun (a : Acc) (q : Fin 4096) (val : Word) (p : Packet) => (.wrCommit a q val : Instr)) (acc0) (700) (2) (qp), _, st, _, rfl, rfl, rfl⟩

theorem test_likeWrRewind :
    ∃ (c : Instr) (t : Nat) (s n : State), likeWrRewind c = some t ∧ s.clk.held = false ∧ exec c s = .next n :=
  ⟨(fun (a : Acc) (q : Fin 4096) (p : Packet) => (.wrRewind a q : Instr)) (acc0) (700) (qp), _, st, _, rfl, rfl, rfl⟩

theorem test_likeRdWord :
    ∃ (c : Instr) (t : Nat) (s n : State), likeRdWord c = some t ∧ s.clk.held = false ∧ exec c s = .next n :=
  ⟨(fun (a : Acc) (q : Fin 4096) (size : Nat) (p : Packet) (rest : List Packet) (ecc : EccFound) => (.rdWord a q 0 size ecc : Instr)) (acc0) (700) (32) (qp) ([]) (.corrected), _, st, _, rfl, rfl, rfl⟩

theorem test_likeChOff :
    ∃ (c : Instr) (t : Nat) (s n : State), likeChOff c = some t ∧ s.clk.held = false ∧ exec c s = .next n :=
  ⟨(fun (t : Nat) (ch : Fin 64) => (.chOff t ch : Instr)) (0) (20), _, st, _, rfl, rfl, rfl⟩

theorem test_likeDmaStart :
    ∃ (c : Instr) (t : Nat) (s n : State), likeDmaStart c = some t ∧ s.clk.held = false ∧ exec c s = .next n :=
  ⟨(fun (a : Acc) (ch pc : Fin 64) => (.dmaStart a ch pc : Instr)) (acc0) (20) (40), _, st, _, rfl, rfl, rfl⟩

theorem test_likeDmaWaitMet :
    ∃ (c : Instr) (t : Nat) (s n : State), likeDmaWaitMet c = some t ∧ s.clk.held = false ∧ exec c s = .next n :=
  ⟨(fun (t : Nat) (ch : Fin 64) (q : Nat) => (.dmaWaitMet t ch : Instr)) (0) (20) (700), _, st, _, rfl, rfl, rfl⟩

theorem test_likeDmaFault :
    ∃ (c : Instr) (t : Nat) (s n : State), likeDmaFault c = some t ∧ s.clk.held = false ∧ exec c s = .next n :=
  ⟨(fun (t : Nat) (ch : Fin 64) => (.dmaFault t ch none : Instr)) (0) (20), _, st, _, rfl, rfl, rfl⟩

theorem test_likeHalt :
    ∃ (c : Instr) (t : Nat) (s n : State), likeHalt c = some t ∧ s.clk.held = false ∧ exec c s = .next n :=
  ⟨(fun (t : Nat) (ch : Fin 64) => (.halt t ch : Instr)) (0) (20), _, st, _, rfl, rfl, rfl⟩

theorem test_canChannelOf :
    ∃ (c : Instr) (t k : Nat) (s n : State), canChannelOf c = some (t, k) ∧ s.clk.held = false ∧ exec c s = .next n :=
  ⟨(fun (a : Acc) (ch : Fin 12) (mb : Fin 128) => (.req a ch mb : Instr)) (acc0) (3) (9), _, _, st, _, rfl, rfl, rfl⟩

theorem test_linChannelOf :
    ∃ (c : Instr) (t k : Nat) (s n : State), linChannelOf c = some (t, k) ∧ s.clk.held = false ∧ exec c s = .next n :=
  ⟨(fun (a : Acc) (l : Fin 8) (table : Fin 8) => (.sched a l table : Instr)) (acc0) (5) (2), _, _, st, _, rfl, rfl, rfl⟩

theorem test_dmaChannelOf :
    ∃ (c : Instr) (t k : Nat) (s n : State), dmaChannelOf c = some (t, k) ∧ s.clk.held = false ∧ exec c s = .next n :=
  ⟨(fun (a : Acc) (ch pc : Fin 64) => (.dmaStart a ch pc : Instr)) (acc0) (20) (40), _, _, st, _, rfl, rfl, rfl⟩

theorem test_portOf :
    ∃ (c : Instr) (t k : Nat) (s n : State), portOf c = some (t, k) ∧ s.clk.held = false ∧ exec c s = .next n :=
  ⟨(fun (t : Nat) (port : Fin 27) (g : GateSeg) => (.gateEntryChange t port : Instr)) (0) (3) (⟨0, 0, 1000, 0, 0x0F⟩), _, _, st, _, rfl, rfl, rfl⟩

theorem test_likeFollowUpTimeout :
    ∃ (c : Instr) (t : Nat) (s n : State), likeFollowUpTimeout c = some t ∧ s.clk.held = false ∧ exec c s = .next n :=
  ⟨(fun (t : Nat) (d : Fin 2) (q : Fin 65536) => (.followUpTimeout t d q : Instr)) (100000002) (0) (5), _, st, _, rfl, rfl, rfl⟩

theorem test_likeSlewComplete :
    ∃ (c : Instr) (t : Nat) (s n : State), likeSlewComplete c = some t ∧ s.clk.held = false ∧ exec c s = .next n :=
  ⟨(fun (t : Nat) (d : Fin 2) => (.slewComplete t d : Instr)) (5) (1), _, st, _, rfl, rfl, rfl⟩

theorem test_likePtpRateWrite :
    ∃ (c : Instr) (t : Nat) (s n : State), likePtpRateWrite c = some t ∧ s.clk.held = false ∧ exec c s = .next n :=
  ⟨(fun (a : Acc) (d : Fin 2) (rate : Word) => (.ptpRateWrite a d rate : Instr)) (acc0) (1) (0x80000000), _, st, _, rfl, rfl, rfl⟩

theorem test_likeSlew :
    ∃ (c : Instr) (t : Nat) (s n : State), likeSlew c = some t ∧ s.clk.held = false ∧ exec c s = .next n :=
  ⟨(fun (a : Acc) (d : Fin 2) => (.slew a d : Instr)) (acc0) (1), _, st, _, rfl, rfl, rfl⟩

theorem test_likeFabricLoadHigh :
    ∃ (c : Instr) (t : Nat) (s n : State), likeFabricLoadHigh c = some t ∧ s.clk.held = false ∧ exec c s = .next n :=
  ⟨(fun (t : Nat) => (.fabricLoadHigh t : Instr)) (4000), _, st, _, rfl, rfl, rfl⟩

theorem test_likeZspTc :
    ∃ (c : Instr) (t : Nat) (s n : State), likeZspTc c = some t ∧ s.clk.held = false ∧ exec c s = .next n :=
  ⟨(fun (t : Nat) => (.zspTc t : Instr)) (500), _, st, _, rfl, rfl, rfl⟩

theorem test_likeEnckeChoose :
    ∃ (c : Instr) (t : Nat) (s n : State), likeEnckeChoose c = some t ∧ s.clk.held = false ∧ exec c s = .next n :=
  ⟨(fun (t : Nat) (executing : Bool) (timers : List (Fin 32 × Nat)) (st1 : PwrState) => (.enckeChoose t executing timers : Instr)) (0) (false) ([]) (.drowse), _, st, _, rfl, rfl, rfl⟩

theorem test_likeZspAnswer :
    ∃ (c : Instr) (t : Nat) (s n : State), likeZspAnswer c = some t ∧ s.clk.held = false ∧ exec c s = .next n :=
  ⟨(fun (t : Nat) (eth : Bool) (ecc : EccFound) (body : List Byte) (stamp : Nat) (out : State) => (.zspAnswer t eth ecc : Instr)) (0) (false) (.clean) ([2, 0, 5, 3, 9, 1, 255, 255]) (0) ((zspS [2, 0, 5, 3, 9, 1, 255, 255] .ready).mbRelease 3 9), _, st, _, rfl, rfl, rfl⟩

theorem test_likeWakeReasonSend :
    ∃ (c : Instr) (t : Nat) (s n : State), likeWakeReasonSend c = some t ∧ s.clk.held = false ∧ exec c s = .next n :=
  ⟨(fun (t : Nat) => (.wakeReasonSend t false : Instr)) (500), _, st, _, rfl, rfl, rfl⟩

theorem test_likePowerStateEntered :
    ∃ (c : Instr) (t : Nat) (s n : State), likePowerStateEntered c = some t ∧ s.clk.held = false ∧ exec c s = .next n :=
  ⟨(fun (t : Nat) (st1 : PwrState) => (.powerStateEntered t : Instr)) (40000000) (.park), _, st, _, rfl, rfl, rfl⟩

theorem test_likeWakeRequest :
    ∃ (c : Instr) (t : Nat) (s n : State), likeWakeRequest c = some t ∧ s.clk.held = false ∧ exec c s = .next n :=
  ⟨(fun (t : Nat) (cause : WakeCause) (index : Fin 256) => (.wakeRequest t cause index : Instr)) (500) (.can) (3), _, st, _, rfl, rfl, rfl⟩

theorem test_likeNeedDeclare :
    ∃ (c : Instr) (t : Nat) (s n : State), likeNeedDeclare c = some t ∧ s.clk.held = false ∧ exec c s = .next n :=
  ⟨(fun (a : Acc) (val : Word) => (.needDeclare a val : Instr)) (acc0) (5), _, st, _, rfl, rfl, rfl⟩

theorem test_likePwrWake :
    ∃ (c : Instr) (t : Nat) (s n : State), likePwrWake c = some t ∧ s.clk.held = false ∧ exec c s = .next n :=
  ⟨(fun (a : Acc)  => (.pwrWake a : Instr)) (acc0), _, st, _, rfl, rfl, rfl⟩

theorem test_likePartSquashDone :
    ∃ (c : Instr) (t : Nat) (s n : State), likePartSquashDone c = some t ∧ s.clk.held = false ∧ exec c s = .next n :=
  ⟨(fun (t : Nat) (p : Fin 32) => (.partSquashDone t p : Instr)) (0) (2), _, st, _, rfl, rfl, rfl⟩

theorem test_likePartDrainEnd :
    ∃ (c : Instr) (t : Nat) (s n : State), likePartDrainEnd c = some t ∧ s.clk.held = false ∧ exec c s = .next n :=
  ⟨(fun (t : Nat) (p : Fin 32) => (.partDrainEnd t p : Instr)) (0) (2), _, st, _, rfl, rfl, rfl⟩

theorem test_likePartReset :
    ∃ (c : Instr) (t : Nat) (s n : State), likePartReset c = some t ∧ s.clk.held = false ∧ exec c s = .next n :=
  ⟨(fun (a : Acc) (target : Fin 32) => (.partReset a 0xA5 target : Instr)) (acc0) (2), _, st, _, rfl, rfl, rfl⟩

theorem test_likePinReset :
    ∃ (c : Instr) (t : Nat) (s n : State), likePinReset c = some t ∧ s.clk.held = false ∧ exec c s = .next n :=
  ⟨(fun (t : Nat) => (.pinReset t : Instr)) (50), _, st, _, rfl, rfl, rfl⟩

theorem test_likeReadToClear :
    ∃ (c : Instr) (t : Nat) (s n : State), likeReadToClear c = some t ∧ s.clk.held = false ∧ exec c s = .next n :=
  ⟨(fun (a : Acc) (addr size : Nat) (c : BusCause) => (.readToClear a addr size : Instr)) (acc0) (0x40001000) (2) (.size), _, st, _, rfl, rfl, rfl⟩

theorem test_likePageInflightZero :
    ∃ (c : Instr) (t : Nat) (s n : State), likePageInflightZero c = some t ∧ s.clk.held = false ∧ exec c s = .next n :=
  ⟨(fun (t : Nat) (page : Fin 118) => (.pageInflightZero t page : Instr)) (50) (40), _, st, _, rfl, rfl, rfl⟩

theorem test_likeDrainTimeout :
    ∃ (c : Instr) (t : Nat) (s n : State), likeDrainTimeout c = some t ∧ s.clk.held = false ∧ exec c s = .next n :=
  ⟨(fun (t : Nat) (page : Fin 118) (d : Nat) => (.drainTimeout t page : Instr)) (50) (40) (40), _, st, _, rfl, rfl, rfl⟩

theorem test_likePageResetComplete :
    ∃ (c : Instr) (t : Nat) (s n : State), likePageResetComplete c = some t ∧ s.clk.held = false ∧ exec c s = .next n :=
  ⟨(fun (t : Nat) (page : Fin 118) => (.pageResetComplete t page : Instr)) (500) (40), _, st, _, rfl, rfl, rfl⟩

theorem test_likeSnapshot :
    ∃ (c : Instr) (t : Nat) (s n : State), likeSnapshot c = some t ∧ s.clk.held = false ∧ exec c s = .next n :=
  ⟨(fun (a : Acc) (page : Fin 118) => (.snapshot a page : Instr)) (acc0) (40), _, st, _, rfl, rfl, rfl⟩

theorem test_likeCohSnapshot :
    ∃ (c : Instr) (t : Nat) (s n : State), likeCohSnapshot c = some t ∧ s.clk.held = false ∧ exec c s = .next n :=
  ⟨(fun (a : Acc)  => (.cohSnapshot a : Instr)) (acc0), _, st, _, rfl, rfl, rfl⟩

theorem test_likeSnapRelease :
    ∃ (c : Instr) (t : Nat) (s n : State), likeSnapRelease c = some t ∧ s.clk.held = false ∧ exec c s = .next n :=
  ⟨(fun (a : Acc) (page : Fin 118) => (.snapRelease a false (Fin.ofNat 256 page) : Instr)) (acc0) (40), _, st, _, rfl, rfl, rfl⟩

theorem test_likeSemFree :
    ∃ (c : Instr) (t : Nat) (s n : State), likeSemFree c = some t ∧ s.clk.held = false ∧ exec c s = .next n :=
  ⟨(fun (a : Acc) (sem : Fin 64) => (.semFree a sem : Instr)) (acc0) (7), _, st, _, rfl, rfl, rfl⟩

theorem test_likeEvtViolPop :
    ∃ (c : Instr) (t : Nat) (s n : State), likeEvtViolPop c = some t ∧ s.clk.held = false ∧ exec c s = .next n :=
  ⟨(fun (a : Acc)  => (.evtViolPop a : Instr)) (acc0), _, st, _, rfl, rfl, rfl⟩

theorem test_likeStagedWrite :
    ∃ (c : Instr) (t : Nat) (s n : State), likeStagedWrite c = some t ∧ s.clk.held = false ∧ exec c s = .next n :=
  ⟨(fun (a : Acc) (addr idx : Nat) (val : Word) (r : RegRow) => (.stagedWrite a addr val : Instr)) (acc0) (R.ULF_CTRL) (112) (0xFFFFFFFF) ((regRowOf R.ULF_CTRL).getD ⟨0, 0, 0, .rc, 0, 0⟩), _, st, _, rfl, rfl, rfl⟩

theorem test_likeDiscardStage :
    ∃ (c : Instr) (t : Nat) (s n : State), likeDiscardStage c = some t ∧ s.clk.held = false ∧ exec c s = .next n :=
  ⟨(fun (a : Acc) (page : Fin 118) => (.discardStage a page : Instr)) (acc0) (112), _, st, _, rfl, rfl, rfl⟩

theorem test_likeTableWindowWrite :
    ∃ (c : Instr) (t : Nat) (s n : State), likeTableWindowWrite c = some t ∧ s.clk.held = false ∧ exec c s = .next n :=
  ⟨(fun (a : Acc) (addr : Nat) (val : Word) (set : SetId) => (.tableWindowWrite a addr val : Instr)) (acc0) (0x30040000) (0x12345678) (.sw), _, st, _, rfl, rfl, rfl⟩

theorem test_likeDrainComplete :
    ∃ (c : Instr) (t : Nat) (s n : State), likeDrainComplete c = some t ∧ s.clk.held = false ∧ exec c s = .next n :=
  ⟨(fun (t : Nat) (set : SetId) => (.drainComplete t set : Instr)) (50) (.gw), _, st, _, rfl, rfl, rfl⟩

theorem test_likeResyncComplete :
    ∃ (c : Instr) (t : Nat) (s n : State), likeResyncComplete c = some t ∧ s.clk.held = false ∧ exec c s = .next n :=
  ⟨(fun (t : Nat) (set : SetId) => (.resyncComplete t set : Instr)) (90000) (.gw), _, st, _, rfl, rfl, rfl⟩

theorem test_likeStageLogReplayed :
    ∃ (c : Instr) (t : Nat) (s n : State), likeStageLogReplayed c = some t ∧ s.clk.held = false ∧ exec c s = .next n :=
  ⟨(fun (t : Nat) (set : SetId) => (.stageLogReplayed t set : Instr)) (90000) (.gw), _, st, _, rfl, rfl, rfl⟩

theorem test_likeRegionResyncComplete :
    ∃ (c : Instr) (t : Nat) (s n : State), likeRegionResyncComplete c = some t ∧ s.clk.held = false ∧ exec c s = .next n :=
  ⟨(fun (t : Nat) (region : RegionId) => (.regionResyncComplete t region : Instr)) (90000) (.vlan), _, st, _, rfl, rfl, rfl⟩

theorem test_likeCommitNow :
    ∃ (c : Instr) (t : Nat) (s n : State), likeCommitNow c = some t ∧ s.clk.held = false ∧ exec c s = .next n :=
  ⟨(fun (a : Acc)  => (.commitNow a 0xC3 : Instr)) (acc0), _, st, _, rfl, rfl, rfl⟩

theorem test_pageOf :
    ∃ (c : Instr) (t k : Nat) (s n : State), pageOf c = some (t, k) ∧ s.clk.held = false ∧ exec c s = .next n :=
  ⟨(fun (a : Acc) (page : Fin 118) => (.quiesce a page : Instr)) (acc0) (40), _, _, st, _, rfl, rfl, rfl⟩

theorem test_partitionOf :
    ∃ (c : Instr) (t k : Nat) (s n : State), partitionOf c = some (t, k) ∧ s.clk.held = false ∧ exec c s = .next n :=
  ⟨(fun (a : Acc) (target : Fin 32) => (.partReset a 0xA5 target : Instr)) (acc0) (2), _, _, st, _, rfl, rfl, rfl⟩

theorem test_likeUlfTrainStart :
    ∃ (c : Instr) (t : Nat) (s n : State), likeUlfTrainStart c = some t ∧ s.clk.held = false ∧ exec c s = .next n :=
  ⟨(fun (t : Nat) => (.ulfTrainStart t : Instr)) (2000000), _, st, _, rfl, rfl, rfl⟩

theorem test_likeUlfLinkFailure :
    ∃ (c : Instr) (t : Nat) (s n : State), likeUlfLinkFailure c = some t ∧ s.clk.held = false ∧ exec c s = .next n :=
  ⟨(fun (t : Nat) (lock : Fin 4) => (.ulfLinkFailure t lock : Instr)) (20) (2), _, st, _, rfl, rfl, rfl⟩

theorem test_likePartnerViewRead :
    ∃ (c : Instr) (t : Nat) (s n : State), likePartnerViewRead c = some t ∧ s.clk.held = false ∧ exec c s = .next n :=
  ⟨(fun (a : Acc) (addr : Nat) => (.partnerViewRead a addr 4 : Instr)) (acc0) (0x41010000), _, st, _, rfl, rfl, rfl⟩

theorem test_likeUlfRetrainDone :
    ∃ (c : Instr) (t : Nat) (s n : State), likeUlfRetrainDone c = some t ∧ s.clk.held = false ∧ exec c s = .next n :=
  ⟨(fun (t : Nat) => (.ulfRetrainDone t : Instr)) (20), _, st, _, rfl, rfl, rfl⟩

theorem test_likeUlfParamRx :
    ∃ (c : Instr) (t : Nat) (s n : State), likeUlfParamRx c = some t ∧ s.clk.held = false ∧ exec c s = .next n :=
  ⟨(fun (t : Nat) (unit : Fin 2) (paired : Bool) (major p np c tun prc : Byte) => (.ulfParamRx t unit paired major p np c tun prc : Instr)) (2000) (1) (true) (1) (100) (20) (90) (255) (9), _, st, _, rfl, rfl, rfl⟩

theorem test_likeUlfTrainTimeout :
    ∃ (c : Instr) (t : Nat) (s n : State), likeUlfTrainTimeout c = some t ∧ s.clk.held = false ∧ exec c s = .next n :=
  ⟨(fun (t : Nat) => (.ulfTrainTimeout t : Instr)) (2000000), _, st, _, rfl, rfl, rfl⟩

theorem test_likePartnerReadComplete :
    ∃ (c : Instr) (t : Nat) (s n : State), likePartnerReadComplete c = some t ∧ s.clk.held = false ∧ exec c s = .next n :=
  ⟨(fun (t : Nat) (c : CplRx) (l : List CplRx) (r : ViewRead) => (.partnerReadComplete t : Instr)) (50) (⟨7, 0, 99⟩) ([]) (⟨7, 0, 0, 0x40010000, 0, none⟩), _, st, _, rfl, rfl, rfl⟩

theorem test_likeHeartbeatExpired :
    ∃ (c : Instr) (t : Nat) (s n : State), likeHeartbeatExpired c = some t ∧ s.clk.held = false ∧ exec c s = .next n :=
  ⟨(fun (t : Nat) (part : Fin 32) => (.heartbeatExpired t part : Instr)) (3000000) (3), _, st, _, rfl, rfl, rfl⟩

theorem test_likeAuthInChange :
    ∃ (c : Instr) (t : Nat) (s n : State), likeAuthInChange c = some t ∧ s.clk.held = false ∧ exec c s = .next n :=
  ⟨(fun (t : Nat) (level : Bool) => (.authInChange t level : Instr)) (0) (true), _, st, _, rfl, rfl, rfl⟩

theorem test_likePairHeart :
    ∃ (c : Instr) (t : Nat) (s n : State), likePairHeart c = some t ∧ s.clk.held = false ∧ exec c s = .next n :=
  ⟨(fun (a : Acc)  => (.pairHeart a : Instr)) (acc0), _, st, _, rfl, rfl, rfl⟩

theorem test_likeLeaseSend :
    ∃ (c : Instr) (t : Nat) (s n : State), likeLeaseSend c = some t ∧ s.clk.held = false ∧ exec c s = .next n :=
  ⟨(fun (t : Nat) => (.leaseSend t : Instr)) (200000), _, st, _, rfl, rfl, rfl⟩

theorem test_likeLeaseRx :
    ∃ (c : Instr) (t : Nat) (s n : State), likeLeaseRx c = some t ∧ s.clk.held = false ∧ exec c s = .next n :=
  ⟨(fun (t : Nat) (m : PairMsg) (out : State) => (.leaseRx t : Instr)) (0) ({ kind := 1, word0 := 8 }) (prS { prR .standby with contact := true } ulfUp), _, st, _, rfl, rfl, rfl⟩

theorem test_likeHandover :
    ∃ (c : Instr) (t : Nat) (s n : State), likeHandover c = some t ∧ s.clk.held = false ∧ exec c s = .next n :=
  ⟨(fun (a : Acc) (target : Fin 32) => (.handover a 0x96 target : Instr)) (acc0) (3), _, st, _, rfl, rfl, rfl⟩

theorem test_likeAcceptRx :
    ∃ (c : Instr) (t : Nat) (s n : State), likeAcceptRx c = some t ∧ s.clk.held = false ∧ exec c s = .next n :=
  ⟨(fun (t : Nat) (part : Fin 32) (m : PairMsg) (out : State) (c : PendingCommit) => (.acceptRx t part : Instr)) (0) (3) ({ kind := 5, part := 3 }) ({ prC { kind := 5, part := 3 } { time := 1000000, all := false, pairMode := true, stage := .accepted, fromPartner := true } with ulf := ulfUp }) ({ time := 1000000, all := false, pairMode := true, stage := .accepted, fromPartner := true }), _, st, _, rfl, rfl, rfl⟩

theorem test_likeGoRx :
    ∃ (c : Instr) (t : Nat) (s n : State), likeGoRx c = some t ∧ s.clk.held = false ∧ exec c s = .next n :=
  ⟨(fun (t : Nat) (part : Fin 32) (m : PairMsg) (out : State) (c : PendingCommit) => (.goRx t part : Instr)) (2000000) (3) ({ kind := 8, part := 3 }) (({ prC { kind := 8, part := 3 } { time := 1000000, all := false, pairMode := true, stage := .verdictGiven, fromPartner := true } with ulf := ulfUp }).advance 2000000) ({ time := 1000000, all := false, pairMode := true, stage := .verdictGiven, fromPartner := true }), _, st, _, rfl, rfl, rfl⟩

theorem test_likeSvcChallenge :
    ∃ (c : Instr) (t : Nat) (s n : State), likeSvcChallenge c = some t ∧ s.clk.held = false ∧ exec c s = .next n :=
  ⟨(fun (t : Nat) => (.svcChallenge t : Instr)) (50), _, st, _, rfl, rfl, rfl⟩

theorem test_likeAttest :
    ∃ (c : Instr) (t : Nat) (s n : State), likeAttest c = some t ∧ s.clk.held = false ∧ exec c s = .next n :=
  ⟨(fun (a : Acc) (key : Byte) => (.attest a key : Instr)) (acc0) (0x3C), _, st, _, rfl, rfl, rfl⟩

theorem test_likeAttestDone :
    ∃ (c : Instr) (t : Nat) (s n : State), likeAttestDone c = some t ∧ s.clk.held = false ∧ exec c s = .next n :=
  ⟨(fun (t : Nat) (addr lt : Nat) => (.attestDone t : Instr)) (50) (0x800000000) (7), _, st, _, rfl, rfl, rfl⟩

theorem test_likeStageDone :
    ∃ (c : Instr) (t : Nat) (s n : State), likeStageDone c = some t ∧ s.clk.held = false ∧ exec c s = .next n :=
  ⟨(fun (t : Nat) (k : Nat) => (.stageDone t : Instr)) (50) (3), _, st, _, rfl, rfl, rfl⟩

theorem test_likeTrialPassed :
    ∃ (c : Instr) (t : Nat) (s n : State), likeTrialPassed c = some t ∧ s.clk.held = false ∧ exec c s = .next n :=
  ⟨(fun (t : Nat) => (.trialPassed t : Instr)) (50), _, st, _, rfl, rfl, rfl⟩

theorem test_likePinResetRelease :
    ∃ (c : Instr) (t : Nat) (s n : State), likePinResetRelease c = some t ∧ s.clk.held = false ∧ exec c s = .next n :=
  ⟨(fun (t : Nat) => (.pinResetRelease t : Instr)) (50), _, st, _, rfl, rfl, rfl⟩

theorem test_likeUpdOpen :
    ∃ (c : Instr) (t : Nat) (s n : State), likeUpdOpen c = some t ∧ s.clk.held = false ∧ exec c s = .next n :=
  ⟨(fun (a : Acc) (m : List Byte) => (.updOpen a 0x5C : Instr)) (acc0) ([1, 0, 0, 0, 0, 0, 1] ++ List.replicate 0x3FF9 0), _, st, _, rfl, rfl, rfl⟩

theorem test_likeCmdDone :
    ∃ (c : Instr) (t : Nat) (s n : State), likeCmdDone c = some t ∧ s.clk.held = false ∧ exec c s = .next n :=
  ⟨(fun (t : Nat) (second : Nat) (j : StorJob) => (.cmdDone t second none : Instr)) (50) (3) (⟨false, 5, 1, 0x800000000⟩), _, st, _, rfl, rfl, rfl⟩

theorem test_likeJournalAppend :
    ∃ (c : Instr) (t : Nat) (s n : State), likeJournalAppend c = some t ∧ s.clk.held = false ∧ exec c s = .next n :=
  ⟨(fun (t : Nat) (ecc : EccFound) (p : Packet) (out : State) => (.journalAppend t ecc : Instr)) (0) (.clean) (jP) (((jS.popPacket 700).getD (jP, st)).2), _, st, _, rfl, rfl, rfl⟩

theorem test_likeStorRead :
    ∃ (c : Instr) (t : Nat) (s n : State), likeStorRead c = some t ∧ s.clk.held = false ∧ exec c s = .next n :=
  ⟨(fun (a : Acc) (count : Fin 65536) => (.storRead a count : Instr)) (acc0) (2), _, st, _, rfl, rfl, rfl⟩

theorem test_likeScrubStep :
    ∃ (c : Instr) (t : Nat) (s n : State), likeScrubStep c = some t ∧ s.clk.held = false ∧ exec c s = .next n :=
  ⟨(fun (t : Nat) => (.scrubStep t .clean : Instr)) (0), _, st, _, rfl, rfl, rfl⟩

theorem test_likeDramcErrPop :
    ∃ (c : Instr) (t : Nat) (s n : State), likeDramcErrPop c = some t ∧ s.clk.held = false ∧ exec c s = .next n :=
  ⟨(fun (a : Acc)  => (.dramcErrPop a : Instr)) (acc0), _, st, _, rfl, rfl, rfl⟩

theorem test_onlyTheseWriteMemory : ∃ (c : Instr) (s n : State) (addr : Nat), exec c s = .next n ∧ writesMemory c = false ∧ inDram addr 1 = false :=
  ⟨.rdSkip acc0 700 0, st, _, 0, rfl, rfl, rfl⟩

theorem test_onlyTheseWriteDram : ∃ (c : Instr) (s n : State), exec c s = .next n ∧ writesDram c = false :=
  ⟨.zspTc 5, st, _, rfl, rfl⟩

theorem test_onlyTheseStage : ∃ (c : Instr) (s n : State), exec c s = .next n ∧ stages c = false :=
  ⟨.zspTc 5, st, _, rfl, rfl⟩

/-! ## Ill-formed commands: one for each check of WellFormed -/

theorem test_wf_address : (Instr.registerWrite acc0 (2 ^ 36) 0 4).wf = false := by decide
theorem test_wf_size : (Instr.registerWrite acc0 0 0 0).wf = false ∧ (Instr.readToClear acc0 0 65).wf = false := by decide
theorem test_wf_memory : (Instr.memoryAccess acc0 0 (.write []) .clean).wf = false
    ∧ (Instr.memoryAccess acc0 0 (.read 65) .clean).wf = false ∧ (Instr.memoryAccess acc0 0 (.fetch 0) .clean).wf = false := by
  decide
theorem test_wf_tag : (Instr.tagResponse 0 0 [1]).wf = false := by decide
theorem test_wf_can : wfCan { id := 2 ^ 29 } = false ∧ wfCan { id := 0, len := 2049, rtr := true } = false
    ∧ wfCan { id := 0, len := 1 } = false := by decide
theorem test_wf_ethernet : EthRx.wf (.whole 0 [1] true none) = false ∧ EthRx.wf (.head 0 [1]) = false
    ∧ EthRx.wf (.tail [] true) = false := by decide
theorem test_wf_writeWord : (Instr.wrData acc0 0 0 0 5).wf = false ∧ (Instr.wrData acc0 0 0 (2 ^ 32) 4).wf = false := by decide
theorem test_wf_readWord : (Instr.rdWord acc0 0 0 16 .clean).wf = false := by decide
theorem test_wf_dmaFault : (Instr.dmaFault 0 0 (some (2 ^ 36))).wf = false := by decide
theorem test_wf_flit : (Instr.ulfFlitRx 0 [] 0 []).wf = false
    ∧ (Instr.ulfFlitRx 0 (List.replicate 72 0) 0 [2 ^ 36]).wf = false := by decide
theorem test_wf_good : (Instr.registerWrite acc0 R.ULF_CTRL 0 4).wf = true ∧ (Instr.zspTc 5).wf = true := by decide

/-! ## Results of the spec's own examples -/

/-- spec/09: a packet of 88 bytes has the tags 0x220, 0x20 and 0x418. -/
theorem test_example_tags :
    [0, 1, 2].map (({ data := List.replicate 88 1 } : Packet).tag) = [0x220, 0x20, 0x418] := by decide +kernel

/-- spec/02: STATE_DONE of DMA2 is event source 875. -/
theorem test_example_eventSource : eventSource 103 15 = 875 := by decide +kernel

/-- spec/00 and spec/03: LSC05 begins at 0x4002_D000, and LSC_WIRE_K of CH034 is staged at 0x4002_CA54. -/
theorem test_example_addresses : pageBase 22 = 0x4002D000 ∧ R.LSC_WIRE_K 34 + 0x800 = 0x4002CA54 := by decide +kernel

/-- spec/17: UPD_STAT before the activation and after its commit. -/
theorem test_example_updStat : (upS { state := .confirmed, actId := 0x30 }).viewUpd 0x40 = some 0x00300005
    ∧ (upS { state := .pending, actId := 0x31, nextSet := true }).viewUpd 0x40 = some 0x00310102 := by decide +kernel

/-- spec/04: PGEN_CFG3 = 0x0010_28F6 gives 10,486 cycles, and LEASE_MS = 2,500 gives 2,560 ticks. -/
theorem test_example_period : (st.setReg (R.PGEN_CFG 3) 0x001028F6).pgenPeriod 3 = 10486
    ∧ (st.setReg (R.LSC_LEASE 17) 0x000609C4).leaseTicks 17 = 2560 := by decide +kernel

/-- spec/12: a Sync relayed from 5,000,000,000 to 5,000,001,480 ns over a link delay of 140 ns at +20 ppm. -/
theorem test_example_relay :
    (((st.setReg (R.TIME_PORT_LINK 2) 140).setReg (R.PTP_PORTS 0) 0x02000000).setReg
      (R.PTP_RATE 0) 21990233).relayCorrection 0 5000000000 5000001480 = 106170443 := by decide +kernel

/-- spec/16: after a FAST claim PAIR_PSTAT5 reads 0x904 and PAIR_LAST 0x4205. -/
theorem test_example_fastClaim :
    let s := (({ prS { parts := [(5, { role := .standby, heart := some 1 })], leaseAt := some 0 } ulfUp with
      parts := { table := [(5, { state := .running })] } } : State).setReg (R.PAIR_PCFG 5) 0xA0140039)
    (match execTakeover 320000 5 s with
    | .next n => n.live 0 113 (R.PAIR_PSTAT 5 % 0x1000) == 0x904 && n.live 0 113 (R.PAIR_LAST % 0x1000) == 0x4205
    | _ => false) = true := by decide +kernel

/-- The check value of the CRC of R359 over the digits 1 to 9. -/
theorem test_crc32c : crc32c ((List.range 9).map (fun k => BitVec.ofNat 8 (0x31 + k))) = 0xE3069283 := by decide +kernel

/-- spec/18: contacts of the connector tables, worked out by hand from R434 to R438. -/
theorem test_example_contacts : [(5, 4), (5, 71), (6, 94), (2, 1), (2, 2), (2, 13), (2, 29)].map (fun x => signalAt x.1 x.2)
    = [Signal.ain 3, .din 30, .ssup 7, .channel 34, .channel 34, .channel 40, .channel 56].map some := by decide +kernel

/-- R419: a commit of partition 0 with ALL = 1 switches to a bank that holds a new part. -/
theorem test_example_bank : ({ st with load := { fwReady := true } } : State).switchFirmware.load.fwBank = true
    ∧ st.switchFirmware.load = st.load := by decide +kernel

end Sys2Proof.Tests
end

namespace Sys2Proof.Machine

/-! ## The state after reset (R40, R97, R291, R443) -/

/-- Reset is itself a power-on state: every block but the stores that need no power holds its own value. -/
theorem State.reset_atPowerOn : State.reset.atPowerOn := by
  unfold State.atPowerOn
  exact ⟨rfl, rfl, rfl, rfl, rfl, rfl, rfl, rfl, rfl, rfl, rfl, rfl, rfl, rfl, rfl, rfl, rfl, rfl,
    rfl, rfl, rfl, rfl, rfl, rfl, rfl, rfl, rfl, rfl⟩

/-- Nothing is listed for any page at reset, so that each reads as the default page. -/
theorem State.reset_page (i : Nat) : State.reset.page i = {} := rfl

/-- Nothing is listed for any channel at reset, so that each reads as the default channel. -/
theorem State.reset_chan (c : Nat) : State.reset.chan c = {} := rfl

/-- Settles O53, field by field from the definition of reset. -/
theorem resetState : Obligations.ResetState := by
  unfold Obligations.ResetState
  exact ⟨rfl, fun i => congrArg Page.mode (State.reset_page i), fun c => congrArg Chan.lease (State.reset_chan c), rfl, rfl,
    rfl, rfl, State.reset_atPowerOn, fun _ => State.reset_atPowerOn⟩

/-! ## Commands that leave the load stage alone

Such a command offers nothing to the gateway: it ends in what its meaning gives, settled. -/

theorem Effect.of_event_load {t : Nat} {c : Instr} {f : State → State} {pre : State → Prop}
    {post : State → State → Prop} (hx : ∀ s, exec c s = eventAt t f s)
    (hp : ∀ s b : State, pre b → (f b).load = b.load ∧ post b (s.settle (f b))) : Effect t c pre post :=
  Effect.of_event hx fun s b hb => by
    obtain ⟨hl, hpost⟩ := hp s b hb
    rwa [State.offerChans_none _ _ (congrArg LoadStage.chans hl)]

theorem WriteEffect.of_write_load {a : Acc} {addr : Nat} {c : Instr} {f : State → State} {pre : State → Prop}
    {post : State → State → Prop} (hx : ∀ s, exec c s = writeTo a addr f s)
    (hp : ∀ s b : State, pre b → (f b.done).load = b.load ∧ (f b.done).resp = .ok 0 ∧ post b (s.settle (f b.done))) :
    WriteEffect a addr c pre post :=
  WriteEffect.of_write hx fun s b hb => by
    obtain ⟨hl, hresp, hpost⟩ := hp s b hb
    rw [State.offerChans_none _ _ (congrArg LoadStage.chans hl)]
    exact ⟨hresp, hpost⟩

/-! ## How an access ends, and counters of a whole register -/

@[simp] theorem State.violation_resp (s : State) (a : Acc) (addr : Nat) (w : Bool) (c : BusCause) :
    (s.violation a addr w c).resp = .busError c := by
  unfold State.violation State.busError
  dsimp only
  split <;> rw [State.raise_resp]

theorem fld_word (w : Word) : fld w 31 0 = w.toNat := by
  simp [fld, Nat.mod_eq_of_lt w.isLt]

theorem setFld_word (w : Word) (v : Nat) : setFld w 31 0 v = word v := by
  apply BitVec.eq_of_toNat_eq
  simp [setFld, word]

/-- A counter that fills its register grows as one number (R5). -/
theorem State.reg_addF_word (s : State) (addr n : Nat) :
    (s.addF addr 31 0 n).reg addr = word (satAdd 32 (s.reg addr).toNat n) := by
  simp [State.addF, State.putF, State.regF, fld_word, setFld_word]

/-! ## The Uloft link as a field of the state -/

@[simp] theorem State.setUlf_ulf (s : State) (u : Ulf) : (s.setUlf u).ulf = u := rfl
@[simp] theorem State.setUlf_load (s : State) (u : Ulf) : (s.setUlf u).load = s.load := rfl
@[simp] theorem State.setUlf_part (s : State) (u : Ulf) (p : Nat) : (s.setUlf u).part p = s.part p := rfl
@[simp] theorem State.setUlf_setUlf (s : State) (u v : Ulf) : (s.setUlf u).setUlf v = s.setUlf v := rfl

@[simp] theorem State.pump_ulf (s : State) : s.pump.ulf = s.ulf.pump 512 := rfl
@[simp] theorem State.pump_load (s : State) : s.pump.load = s.load := rfl

/-! ## Sending flits (R362, R364, R366) -/

/-- The link without what sending flits and receiving credits change: SEQ, the replay buffer, the waiting flits, the
credits, the turn and the count of flits sent. -/
def Ulf.unsent (u : Ulf) : Ulf :=
  { u with seq := 0, replay := [], turn := 0, txFlits := 0
           waitP := [], waitNp := [], waitC := [], waitT := [], waitPr := []
           credP := 0, credNp := 0, credC := 0, credT := 0, credPr := 0 }

@[simp] theorem Ulf.unsent_putWait (u : Ulf) (c : UlfClass) (l : List Flit) : (u.putWait c l).unsent = u.unsent := by
  cases c <;> rfl

@[simp] theorem Ulf.unsent_putCred (u : Ulf) (c : UlfClass) (n : Nat) : (u.putCred c n).unsent = u.unsent := by
  cases c <;> rfl

@[simp] theorem Ulf.unsent_enqueue (u : Ulf) (c : UlfClass) (l : List Flit) : (u.enqueue c l).unsent = u.unsent :=
  u.unsent_putWait c _

@[simp] theorem Ulf.unsent_credit (u : Ulf) (c : UlfClass) (n : Nat) : (u.credit c n).unsent = u.unsent :=
  u.unsent_putCred c _

@[simp] theorem Ulf.unsent_acked (u : Ulf) (ack : Nat) : (u.acked ack).unsent = u.unsent := by
  unfold Ulf.acked
  split <;> rfl

theorem Ulf.unsent_sendOne (u v : Ulf) (h : u.sendOne = some v) : v.unsent = u.unsent := by
  unfold Ulf.sendOne at h
  split at h
  · cases h
  · split at h
    · cases h
    · rename_i c turn _
      split at h
      · cases h
      · rename_i t _
        obtain rfl := Option.some.inj h
        calc Ulf.unsent _ = ((u.putWait c t).putCred c (u.cred c - 1)).unsent := rfl
          _ = u.unsent := by simp

@[simp] theorem Ulf.unsent_pump (n : Nat) (u : Ulf) : (u.pump n).unsent = u.unsent := by
  induction n generalizing u with
  | zero => rfl
  | succ n ih =>
    unfold Ulf.pump
    cases h : u.sendOne with
    | none => rfl
    | some v => exact (ih v).trans (u.unsent_sendOne v h)

@[simp] theorem Ulf.pump_tag (n : Nat) (u : Ulf) : (u.pump n).tag = u.tag :=
  (congrArg Ulf.tag (u.unsent_pump n) :)
@[simp] theorem Ulf.pump_comb (n : Nat) (u : Ulf) : (u.pump n).comb = u.comb :=
  (congrArg Ulf.comb (u.unsent_pump n) :)
@[simp] theorem Ulf.pump_posted (n : Nat) (u : Ulf) : (u.pump n).posted = u.posted :=
  (congrArg Ulf.posted (u.unsent_pump n) :)

/-! ## The receiving side -/

/-- The link without what belongs to its sending side: flits, the combiner and the writes it has posted. Its state and the
instant of entry are left out too, since a replay may start a retrain. -/
def Ulf.receiving (u : Ulf) : Ulf :=
  { u.unsent with state := .disabled, since := 0, tag := 0, comb := none, combAt := 0, posted := [] }

theorem Ulf.receiving_of_unsent {u v : Ulf} (h : v.unsent = u.unsent) : v.receiving = u.receiving := by
  unfold Ulf.receiving
  rw [h]

@[simp] theorem Ulf.receiving_pump (n : Nat) (u : Ulf) : (u.pump n).receiving = u.receiving :=
  Ulf.receiving_of_unsent (u.unsent_pump n)

@[simp] theorem Ulf.receiving_enqueue (u : Ulf) (c : UlfClass) (l : List Flit) :
    (u.enqueue c l).receiving = u.receiving := Ulf.receiving_of_unsent (u.unsent_enqueue c l)

@[simp] theorem Ulf.receiving_closeComb (u : Ulf) : u.closeComb.receiving = u.receiving := by
  unfold Ulf.closeComb
  split
  · rfl
  · dsimp only
    rw [Ulf.receiving_enqueue]
    rfl

/-- Whether the write extends the open request or opens one, and whether that request closes at once, the receiving side
stays. -/
theorem Ulf.receiving_combine (u : Ulf) (part req addr : Nat) (d : List Byte) (lt : Nat) :
    (u.combine part req addr d lt).receiving = u.receiving := by
  unfold Ulf.combine
  dsimp only
  rw [apply_ite Ulf.receiving, Ulf.receiving_closeComb, ite_self, apply_ite Ulf.receiving]
  exact (ite_congr rfl (fun _ => rfl) (fun _ => u.receiving_closeComb)).trans (ite_self _)

theorem Ulf.receiving_post (part req lt n addr : Nat) (d : List Byte) (u : Ulf) :
    (Ulf.post part req lt n addr d u).receiving = u.receiving := by
  induction n generalizing addr d u with
  | zero => rfl
  | succ n ih =>
    unfold Ulf.post
    split
    · rfl
    · exact (ih _ _ _).trans (u.receiving_combine part req addr _ lt)

/-! ## What the copier of a resynchronisation leaves alone (R399) -/

theorem State.copyBlock_keeps (s n : State) (h : s.copyBlock = some n) :
    n.load = s.load ∧ n.ulf.receiving = s.ulf.receiving := by
  unfold State.copyBlock at h
  split at h
  · split at h
    · cases h
    · obtain rfl := Option.some.inj h
      refine ⟨rfl, ?_⟩
      simp only [State.pump_ulf, State.setUlf_ulf, Ulf.receiving_pump, Ulf.receiving_closeComb, Ulf.receiving_post]
      rfl
  · cases h

theorem State.copyOn_keeps (n : Nat) (s : State) :
    (s.copyOn n).load = s.load ∧ (s.copyOn n).ulf.receiving = s.ulf.receiving := by
  induction n generalizing s with
  | zero => exact ⟨rfl, rfl⟩
  | succ n ih =>
    unfold State.copyOn
    cases h : s.copyBlock with
    | none => exact ⟨rfl, rfl⟩
    | some m =>
      obtain ⟨hload, hulf⟩ := s.copyBlock_keeps m h
      obtain ⟨hload', hulf'⟩ := ih m
      exact ⟨hload'.trans hload, hulf'.trans hulf⟩

/-! ## What the header of a flit changes (R359 to R363) -/

theorem State.enterRetrain_same (s : State) :
    s.enterRetrain = { s with regs := s.enterRetrain.regs, ifiles := s.enterRetrain.ifiles, ulf := s.enterRetrain.ulf } := by
  unfold State.enterRetrain
  split
  · rfl
  · rw [State.raise_same]
    rfl

theorem State.enterRetrain_receiving (s : State) : s.enterRetrain.ulf.receiving = s.ulf.receiving := by
  unfold State.enterRetrain
  split
  · rfl
  · rw [State.raise_ulf]
    rfl

theorem State.replayCount_same (s : State) :
    s.replayCount.1 = { s with regs := s.replayCount.1.regs, ulf := s.replayCount.1.ulf } := by
  unfold State.replayCount
  dsimp only
  split <;> rfl

theorem State.replayCount_receiving (s : State) : s.replayCount.1.ulf.receiving = s.ulf.receiving := by
  unfold State.replayCount
  dsimp only
  split <;> rfl

theorem State.replayAll_same (s : State) :
    s.replayAll = { s with regs := s.replayAll.regs, ifiles := s.replayAll.ifiles, ulf := s.replayAll.ulf } := by
  unfold State.replayAll
  dsimp only
  split
  · rw [State.enterRetrain_same, State.replayCount_same]
  · rw [State.replayCount_same]

theorem State.replayAll_receiving (s : State) : s.replayAll.ulf.receiving = s.ulf.receiving := by
  unfold State.replayAll
  dsimp only
  split
  · rw [State.enterRetrain_receiving, State.replayCount_receiving]
  · rw [State.replayCount_receiving]

theorem State.flitHeader_same (s : State) (h : Nat) :
    s.flitHeader h = { s with
      regs := (s.flitHeader h).regs, ifiles := (s.flitHeader h).ifiles, ulf := (s.flitHeader h).ulf } := by
  unfold State.flitHeader State.when
  dsimp only
  split
  · rw [State.replayAll_same]
    rfl
  · rfl

@[simp] theorem State.flitHeader_load (s : State) (h : Nat) : (s.flitHeader h).load = s.load := by
  rw [State.flitHeader_same]

@[simp] theorem State.flitHeader_mem (s : State) (h : Nat) : (s.flitHeader h).mem = s.mem := by
  rw [State.flitHeader_same]

/-- Of the receiving side a header changes the instant of the last good flit alone. -/
theorem State.flitHeader_receiving (s : State) (h : Nat) :
    (s.flitHeader h).ulf.receiving = { s.ulf with lastGood := s.clk.lt }.receiving := by
  have good {u : Ulf} (hu : u.unsent = s.ulf.unsent) :
      ({ u with lastGood := s.clk.lt } : Ulf).receiving = { s.ulf with lastGood := s.clk.lt }.receiving :=
    Ulf.receiving_of_unsent (congrArg (fun v : Ulf => { v with lastGood := s.clk.lt }) hu)
  unfold State.flitHeader State.when
  dsimp only
  split
  · rw [State.replayAll_receiving, State.setUlf_ulf]
    split <;> exact good (by simp)
  · rw [State.setUlf_ulf]
    split <;> exact good (by simp)

/-! ## Numbers as bytes, and the bytes of a flit (R2, R359) -/

@[simp] theorem leBytes_length (n v : Nat) : (leBytes n v).length = n := by
  induction n generalizing v with
  | zero => rfl
  | succ n ih => simp [leBytes, ih]

/-- A number that is cut into `n` bytes comes back without what lies above them. -/
theorem leVal_leBytes (n v : Nat) : leVal (leBytes n v) = v % 2 ^ (8 * n) := by
  induction n generalizing v with
  | zero => simp [leBytes, leVal, Nat.mod_one]
  | succ n ih =>
    calc leVal (leBytes (n + 1) v) = v % 2 ^ 8 + 2 ^ 8 * (v / 2 ^ 8 % 2 ^ (8 * n)) := by
          simp [leBytes, leVal, ih, Nat.shiftLeft_eq, Nat.shiftRight_eq_div_pow, Nat.mul_comm]
      _ = v % 2 ^ (8 * (n + 1)) := by rw [← Nat.mod_mul, ← Nat.pow_add, Nat.mul_succ, Nat.add_comm 8]

theorem padTo_length (n : Nat) (l : List Byte) (h : l.length ≤ n) : (padTo n l).length = n := by
  simp [padTo, h]

/-- The header of a sent flit as a number (R359). -/
def SentFlit.header (x : SentFlit) (ack : Nat) (nak : Bool) (credClass credCount : Nat) : Nat :=
  x.flit.type + x.flit.payload.length * 2 ^ 4 + x.seq * 2 ^ 12 + ack * 2 ^ 24 + nak.toNat * 2 ^ 36
    + credClass * 2 ^ 37 + credCount * 2 ^ 40 + x.flit.tag * 2 ^ 48

theorem SentFlit.bytes_eq (x : SentFlit) (ack : Nat) (nak : Bool) (credClass credCount : Nat) :
    x.bytes ack nak credClass credCount
      = leBytes 8 (x.header ack nak credClass credCount) ++ padTo 64 x.flit.payload := rfl

section
variable {x : SentFlit} {ack credClass credCount : Nat} {nak : Bool}

theorem SentFlit.bytes_length (h : x.flit.payload.length ≤ 64) : (x.bytes ack nak credClass credCount).length = 72 := by
  rw [SentFlit.bytes_eq, List.length_append, leBytes_length, padTo_length 64 _ h]

theorem SentFlit.bytes_drop : (x.bytes ack nak credClass credCount).drop 8 = padTo 64 x.flit.payload := by
  rw [SentFlit.bytes_eq, List.drop_left' (leBytes_length 8 _)]

/-- What the first eight bytes spell is the header, when its fields fit. -/
theorem SentFlit.leVal_bytes_take (hlen : x.flit.payload.length ≤ 64) (htype : x.flit.type < 16) (hseq : x.seq < 4096)
    (hack : ack < 4096) (hclass : credClass < 8) (hcount : credCount < 32) (htag : x.flit.tag < 65536) :
    leVal ((x.bytes ack nak credClass credCount).take 8) = x.header ack nak credClass credCount := by
  rw [SentFlit.bytes_eq, List.take_left' (leBytes_length 8 _), leVal_leBytes]
  apply Nat.mod_eq_of_lt
  have hnak := nak.toNat_le
  unfold SentFlit.header
  omega

/-- Each field of the header lies in its own bits. -/
theorem SentFlit.header_fields (hlen : x.flit.payload.length ≤ 64) (htype : x.flit.type < 16) (hseq : x.seq < 4096)
    (hack : ack < 4096) (hclass : credClass < 8) (hcount : credCount < 32) (h : Nat)
    (hh : h = x.header ack nak credClass credCount) :
    h % 16 = x.flit.type ∧ h / 2 ^ 4 % 256 = x.flit.payload.length ∧ h / 2 ^ 12 % 4096 = x.seq
      ∧ h / 2 ^ 24 % 4096 = ack ∧ h.testBit 36 = nak ∧ h / 2 ^ 37 % 8 = credClass ∧ h / 2 ^ 40 % 32 = credCount
      ∧ h / 2 ^ 48 = x.flit.tag := by
  have hnak := nak.toNat_le
  have hbit : h / 2 ^ 36 % 2 = nak.toNat := by
    unfold SentFlit.header at hh
    omega
  have htest : h.testBit 36 = nak := by
    rw [Nat.testBit_eq_decide_div_mod_eq, hbit]
    cases nak <;> rfl
  unfold SentFlit.header at hh
  refine ⟨?_, ?_, ?_, ?_, htest, ?_, ?_, ?_⟩ <;> omega

end

/-! ## How a flit is received (R359 to R362) -/

theorem State.flitRx_discarded (s : State) (flit : List Byte) (crc : Nat) (bad : List Nat) (hup : s.ulf.state = .up)
    (h : crc32c flit ≠ crc ∨ flit.length ≠ 72 ∨ 12 ≤ leVal (flit.take 8) % 16) :
    s.flitRx flit crc bad = (s.setUlf { s.ulf with nak := true, nakSince := s.clk.lt }).addF R.ULF_CRC_ERR 31 0 1 := by
  have hbad : (flit.length ≠ 72 || crc32c flit ≠ crc || 12 ≤ leVal (flit.take 8) % 16 : Bool) = true := by
    rcases h with h | h | h <;> simp [h]
  unfold State.flitRx
  dsimp only
  rw [if_neg (by simp [hup]), if_pos hbad]

/-- A flit in sequence has been counted and is to be acknowledged. -/
def State.flitCounted (s : State) (seq : Nat) : State :=
  s.setUlf { s.ulf with ack := seq, nak := false, rxFlits := (s.ulf.rxFlits + 1) % 2 ^ 64 }

/-- What follows on a flit that has been taken: the answer to software stays, and flits are sent. -/
def State.flitEnd (s : State) (r : Resp) : State := ({ s with resp := r } : State).pump.copyOn 4

theorem State.flitEnd_keeps (s : State) (r : Resp) :
    (s.flitEnd r).load = s.load ∧ (s.flitEnd r).ulf.receiving = s.ulf.receiving := by
  obtain ⟨hload, hulf⟩ := State.copyOn_keeps 4 ({ s with resp := r } : State).pump
  exact ⟨hload, hulf.trans (s.ulf.receiving_pump 512)⟩

theorem State.takeFlit_fence (s : State) (tag : Nat) (pay : List Byte) (bad : List Nat) :
    s.takeFlit 4 tag pay bad
      = s.setUlf { s.ulf with fencesIn := s.ulf.fencesIn ++ [(tag, leVal (pay.take 8) / 2 ^ 36 % 32)] } := rfl

/-- A sequenced flit that passes its CRC is judged by its SEQ, after its header has had its effect. -/
theorem State.flitRx_sequenced {s : State} {flit : List Byte} {crc : Nat} (bad : List Nat) (hup : s.ulf.state = .up)
    (hlen : flit.length = 72) (hcrc : crc32c flit = crc) (hlo : 2 ≤ leVal (flit.take 8) % 16)
    (hhi : leVal (flit.take 8) % 16 < 12) :
    s.flitRx flit crc bad =
      let h := leVal (flit.take 8)
      let b := s.flitHeader h
      if h / 2 ^ 12 % 4096 ≠ (s.ulf.ack + 1) % 4096 then b.pump
      else ((b.flitCounted (h / 2 ^ 12 % 4096)).takeFlit (h % 16) (h / 2 ^ 48) (flit.drop 8) bad).flitEnd b.resp := by
  have hack : (s.flitHeader (leVal (flit.take 8))).ulf.ack = s.ulf.ack :=
    (congrArg Ulf.ack (s.flitHeader_receiving (leVal (flit.take 8))) :)
  unfold State.flitRx
  dsimp only
  rw [if_neg (by simp [hup]), if_neg (by simp [hlen, hcrc, hhi]), if_neg (Nat.not_lt.mpr hlo), hack]
  rfl

/-! ## Completions of partner-view reads (R43, R44, R323, R370) -/

/-- The link once the read `r` has left those that wait, with `l` the completions still to process. -/
def Ulf.readTaken (u : Ulf) (l : List CplRx) (r : ViewRead) : Ulf := { u with cplIn := l, reads := u.reads.erase r }

/-- The read of a core fails as an access of that core does. -/
theorem State.viewFail_core (s : State) (r : ViewRead) (c : BusCause) (h : r.chan = none) :
    s.viewFail r c = s.violation { t := s.clk.lt, part := Fin.ofNat 32 r.part, req := Fin.ofNat 20 r.req }
      (r.addr + 0x1000000) false c := by
  unfold State.viewFail
  dsimp only
  rw [h]

section
variable {s : State} {c : CplRx} {l : List CplRx} {r : ViewRead}
variable (hcpl : s.ulf.cplIn = c :: l) (hread : s.ulf.reads.find? (fun r => r.tag == c.tag) = some r)
include hcpl hread

theorem State.readComplete_ok (hcore : r.chan = none) (hstatus : c.status = 0)
    (hpart : (s.part r.part).state ≠ .resetting) :
    s.readComplete = (s.setUlf (s.ulf.readTaken l r)).done c.data := by
  unfold State.readComplete
  simp [hcpl, hread, hcore, hstatus, hpart, State.dropRead, Ulf.readTaken]

theorem State.readComplete_resetting (hcore : r.chan = none) (hstatus : c.status = 0)
    (hpart : (s.part r.part).state = .resetting) :
    s.readComplete = s.setUlf (s.ulf.readTaken l r) := by
  unfold State.readComplete
  simp [hcpl, hread, hcore, hstatus, hpart, State.dropRead, Ulf.readTaken]

theorem State.readComplete_notOwner (hstatus : c.status = 1) :
    s.readComplete = (s.setUlf (s.ulf.readTaken l r)).viewFail r .notOwner := by
  unfold State.readComplete
  simp [hcpl, hread, hstatus, State.dropRead, Ulf.readTaken]

theorem State.readComplete_unmapped (hstatus : 2 ≤ c.status) :
    s.readComplete = (s.setUlf (s.ulf.readTaken l r)).viewFail r .unmapped := by
  obtain ⟨k, hstatus⟩ := Nat.exists_eq_add_of_le' hstatus
  unfold State.readComplete
  simp [hcpl, hread, hstatus, State.dropRead, Ulf.readTaken]

end

/-! ## A partner-view read leaves as an RD (R370) -/

theorem State.sendView_same (s : State) (a : Acc) (addr : Nat) (chan : Option Nat) :
    s.sendView a addr chan = { s with
      regs := (s.sendView a addr chan).regs, ulf := (s.sendView a addr chan).ulf, resp := .none } := by
  unfold State.sendView State.when
  dsimp only
  split <;> rfl

theorem State.sendView_reads (s : State) (a : Acc) (addr : Nat) (chan : Option Nat) :
    (s.sendView a addr chan).ulf.reads = s.ulf.reads
      ++ [⟨s.ulf.closeComb.tag, State.accPart a, a.req.val, addr - 0x1000000, s.clk.lt, chan⟩] := by
  have hopen : s.ulf.closeComb.reads = s.ulf.reads := (congrArg Ulf.reads s.ulf.receiving_closeComb :)
  have hsent (u : Ulf) (l : List Flit) : ((u.enqueue .clsNp l).pump 512).reads = u.reads :=
    (congrArg Ulf.reads ((Ulf.unsent_pump 512 _).trans (u.unsent_enqueue .clsNp l)) :)
  unfold State.sendView
  dsimp only
  rw [State.pump_ulf]
  refine (hsent _ _).trans ?_
  rw [hopen]
  unfold State.when
  split <;> rfl

theorem State.partnerRead_up (s : State) (a : Acc) (addr : Nat) (chan : Option Nat) (haddr : addr % 4 = 0)
    (hreq : a.req.val ≠ 19) (hpaired : s.hw.paired = true) (hup : s.ulf.state = .up) :
    s.partnerRead a addr 4 chan = s.sendView a addr chan := by
  unfold State.partnerRead
  simp [haddr, hreq, hpaired, hup]

theorem State.partnerRead_down (s : State) (a : Acc) (addr : Nat) (chan : Option Nat) (haddr : addr % 4 = 0)
    (hreq : a.req.val ≠ 19) (hdown : s.ulf.state = .down) :
    s.partnerRead a addr 4 chan = s.violation a addr false .partnerDown := by
  unfold State.partnerRead
  simp [haddr, hreq, hdown]

/-! ## The clauses of LinkTransfers -/

theorem ulfFlitRx_discarded (t : Nat) (flit : List Byte) (crc : Word) (bad : List Nat) :
    Effect t (.ulfFlitRx t flit crc bad)
      (fun b => b.ulf.state = .up ∧ (crc32c flit ≠ crc.toNat ∨ flit.length ≠ 72 ∨ 12 ≤ leVal (flit.take 8) % 16))
      (fun b n => n.ulf = { b.ulf with nak := true, nakSince := b.clk.lt }
        ∧ n.reg R.ULF_CRC_ERR = word (satAdd 32 (b.reg R.ULF_CRC_ERR).toNat 1)) :=
  Effect.of_event_load (f := fun b => b.flitRx flit crc.toNat bad) (fun _ => rfl) fun s b ⟨hup, hbad⟩ => by
    rw [b.flitRx_discarded flit crc.toNat bad hup hbad]
    exact ⟨rfl, rfl, State.reg_addF_word _ _ _⟩

theorem ulfFlitRx_outOfSequence (t : Nat) (flit : List Byte) (crc : Word) (bad : List Nat) :
    Effect t (.ulfFlitRx t flit crc bad)
      (fun b => b.ulf.state = .up ∧ flit.length = 72 ∧ crc32c flit = crc.toNat ∧ 2 ≤ leVal (flit.take 8) % 16
        ∧ leVal (flit.take 8) % 16 < 12 ∧ leVal (flit.take 8) / 2 ^ 12 % 4096 ≠ (b.ulf.ack + 1) % 4096)
      (fun b n => n.ulf.ack = b.ulf.ack ∧ n.ulf.lastGood = b.clk.lt ∧ n.mem = b.mem ∧ n.ulf.msgs = b.ulf.msgs) :=
  Effect.of_event_load (f := fun b => b.flitRx flit crc.toNat bad) (fun _ => rfl)
    fun s b ⟨hup, hlen, hcrc, hlo, hhi, hseq⟩ => by
    have hrx : b.flitRx flit crc.toNat bad = (b.flitHeader (leVal (flit.take 8))).pump :=
      (State.flitRx_sequenced bad hup hlen hcrc hlo hhi).trans (if_pos hseq)
    have hulf := (Ulf.receiving_pump 512 _).trans (b.flitHeader_receiving (leVal (flit.take 8)))
    rw [hrx]
    exact ⟨b.flitHeader_load _, (congrArg Ulf.ack hulf :), (congrArg Ulf.lastGood hulf :), b.flitHeader_mem _,
      (congrArg Ulf.msgs hulf :)⟩

/-- A FENCE in sequence waits for its answer; neither the flits sent on its arrival nor the copier touch it. -/
theorem ulfFlitRx_fence (t : Nat) (flit : List Byte) (crc : Word) (bad : List Nat) :
    Effect t (.ulfFlitRx t flit crc bad)
      (fun b => b.ulf.state = .up ∧ flit.length = 72 ∧ crc32c flit = crc.toNat ∧ leVal (flit.take 8) % 16 = 4
        ∧ leVal (flit.take 8) / 2 ^ 12 % 4096 = (b.ulf.ack + 1) % 4096)
      (fun b n => n.ulf.ack = (b.ulf.ack + 1) % 4096 ∧ n.ulf.nak = false ∧ n.ulf.fencesIn = b.ulf.fencesIn
        ++ [(leVal (flit.take 8) / 2 ^ 48, leVal ((flit.drop 8).take 8) / 2 ^ 36 % 32)]) :=
  Effect.of_event_load (f := fun b => b.flitRx flit crc.toNat bad) (fun _ => rfl)
    fun s b ⟨hup, hlen, hcrc, htype, hseq⟩ => by
    have hrx := State.flitRx_sequenced bad hup hlen hcrc (by omega) (by omega)
    have hheader := b.flitHeader_receiving (leVal (flit.take 8))
    have hload := b.flitHeader_load (leVal (flit.take 8))
    dsimp only at hrx
    rw [if_neg (not_not_intro hseq), htype, hseq, State.takeFlit_fence] at hrx
    rw [hrx]
    generalize b.flitHeader (leVal (flit.take 8)) = m at hheader hload
    have hfences : m.ulf.fencesIn = b.ulf.fencesIn := (congrArg Ulf.fencesIn hheader :)
    obtain ⟨hend, hulf⟩ := State.flitEnd_keeps ((m.flitCounted ((b.ulf.ack + 1) % 4096)).setUlf _) m.resp
    refine ⟨hend.trans hload, (congrArg Ulf.ack hulf :), (congrArg Ulf.nak hulf :), ?_⟩
    rw [← hfences]
    exact (congrArg Ulf.fencesIn hulf :)

theorem sentFlit_bytes (x : SentFlit) (ack credClass credCount : Nat) (nak : Bool) (htype : x.flit.type < 16)
    (hlen : x.flit.payload.length ≤ 64) (hseq : x.seq < 4096) (hack : ack < 4096) (hclass : credClass < 8)
    (hcount : credCount < 32) (htag : x.flit.tag < 65536) :
    (x.bytes ack nak credClass credCount).length = 72
      ∧ (x.bytes ack nak credClass credCount).drop 8 = padTo 64 x.flit.payload
      ∧ ∀ h, h = leVal ((x.bytes ack nak credClass credCount).take 8) → h % 16 = x.flit.type
        ∧ h / 2 ^ 4 % 256 = x.flit.payload.length ∧ h / 2 ^ 12 % 4096 = x.seq ∧ h / 2 ^ 24 % 4096 = ack
        ∧ h.testBit 36 = nak ∧ h / 2 ^ 37 % 8 = credClass ∧ h / 2 ^ 40 % 32 = credCount ∧ h / 2 ^ 48 = x.flit.tag :=
  ⟨SentFlit.bytes_length hlen, SentFlit.bytes_drop, fun h hh =>
    SentFlit.header_fields hlen htype hseq hack hclass hcount h
      (hh.trans (SentFlit.leVal_bytes_take hlen htype hseq hack hclass hcount htag))⟩

theorem ulfNakTimeout_due (t : Nat) :
    Effect t (.ulfNakTimeout t) (fun b => b.ulf.nak = true ∧ b.ulf.nakSince + 2000 ≤ b.clk.lt)
      (fun b n => n.ulf = { b.ulf with nakSince := b.clk.lt }) :=
  Effect.of_event_load (f := fun b => b.nakTimeout) (fun _ => rfl) fun s b ⟨hnak, hdue⟩ => by
    have hrun : b.nakTimeout = b.setUlf { b.ulf with nakSince := b.clk.lt } := by
      simp [State.nakTimeout, hnak, hdue]
    rw [hrun]
    exact ⟨rfl, rfl⟩

theorem fenceAck_oldest (t tag part : Nat) (l : List (Nat × Nat)) :
    Effect t (.fenceAck t) (fun b => b.ulf.fencesIn = (tag, part) :: l)
      (fun _ n => n.ulf.fencesIn = l ∧ KMap.get n.ulf.wfLost 0 part = 0) :=
  Effect.of_event_load (f := fun b => b.answerFence) (fun _ => rfl) fun s b hfence => by
    have hsent (u : Ulf) (f : List Flit) : ((u.enqueue .clsC f).pump 512).receiving = u.receiving :=
      (Ulf.receiving_pump 512 _).trans (u.receiving_enqueue .clsC f)
    unfold State.answerFence
    rw [hfence]
    refine ⟨rfl, (congrArg Ulf.fencesIn (hsent _ _) :), ?_⟩
    calc KMap.get _ 0 part = KMap.get (KMap.del b.ulf.wfLost part) 0 part :=
          congrArg (KMap.get · 0 part) (congrArg Ulf.wfLost (hsent _ _) :)
      _ = 0 := by simp [KMap.get]

theorem combinerTimeout_quiet (t : Nat) (x : Combined) :
    Effect t (.combinerTimeout t) (fun b => b.ulf.comb = some x ∧ b.ulf.combAt + 16 * b.cycleNs ≤ b.clk.lt)
      (fun b n => n.ulf.comb = none ∧ n.ulf.tag = (b.ulf.tag + 1) % 65536
        ∧ n.ulf.posted = b.ulf.posted ++ [⟨b.ulf.tag, x.part, x.addr, false⟩]) :=
  Effect.of_event_load (f := fun b => b.combTimeout) (fun _ => rfl) fun s b ⟨hcomb, hquiet⟩ => by
    have hrun : b.combTimeout = (b.setUlf b.ulf.closeComb).pump := by
      simp [State.combTimeout, hcomb, hquiet]
    rw [hrun]
    simp [Ulf.closeComb, hcomb, Ulf.enqueue, Ulf.putWait]

theorem lerPop_oldest (a : Acc) :
    WriteEffect a R.ULF_CMD (.lerPop a) (fun _ => True) (fun b n =>
      n.ler (b.regF R.ULF_LER_SEL 4 0) = (b.ler (b.regF R.ULF_LER_SEL 4 0)).drop 1) :=
  WriteEffect.of_write_load (f := fun b => b.ulfCmd 2) (fun _ => rfl) fun s b _ => by
    have hcmd : b.done.ulfCmd 2 = b.done.lerPop := rfl
    rw [hcmd]
    exact ⟨rfl, rfl, KMap.get_put_self b.ulf.lers [] _ _⟩

theorem partnerViewRead_sent (a : Acc) (addr : Nat) :
    Effect a.t (.partnerViewRead a addr 4)
      (fun b => rangeOf addr = .partner ∧ addr % 4 = 0 ∧ a.req.val ≠ 19 ∧ b.hw.paired = true ∧ b.ulf.state = .up)
      (fun b n => n.resp = .none ∧ n.ulf.reads = b.ulf.reads
        ++ [⟨b.ulf.closeComb.tag, State.accPart a, a.req.val, addr - 0x1000000, b.clk.lt, none⟩] ∧ n.mem = b.mem) :=
  Effect.of_event_load (f := fun b => if rangeOf addr = .partner then b.partnerRead a addr 4 none else b)
    (fun _ => rfl) fun s b ⟨hrange, haddr, hreq, hpaired, hup⟩ => by
    rw [if_pos hrange, b.partnerRead_up a addr none haddr hreq hpaired hup]
    have hsame := b.sendView_same a addr none
    exact ⟨(congrArg State.load hsame :), (congrArg State.resp hsame :), b.sendView_reads a addr none,
      (congrArg State.mem hsame :)⟩

theorem partnerViewRead_down (a : Acc) (addr : Nat) :
    Effect a.t (.partnerViewRead a addr 4)
      (fun b => rangeOf addr = .partner ∧ addr % 4 = 0 ∧ a.req.val ≠ 19 ∧ b.ulf.state = .down)
      (fun b n => n.resp = .busError .partnerDown ∧ n.ulf = b.ulf) :=
  Effect.of_event_load (f := fun b => if rangeOf addr = .partner then b.partnerRead a addr 4 none else b)
    (fun _ => rfl) fun s b ⟨hrange, haddr, hreq, hdown⟩ => by
    rw [if_pos hrange, b.partnerRead_down a addr none haddr hreq hdown]
    simp

/-- A read of a core that fails answers with its cause. -/
theorem State.viewFail_answer (s : State) (r : ViewRead) (c : BusCause) (h : r.chan = none) :
    (s.viewFail r c).load = s.load ∧ (s.viewFail r c).resp = .busError c ∧ (s.viewFail r c).ulf = s.ulf := by
  rw [s.viewFail_core r c h]
  simp

section
variable (t : Nat) (c : CplRx) (l : List CplRx) (r : ViewRead)

theorem partnerReadComplete_ok :
    Effect t (.partnerReadComplete t)
      (fun b => b.ulf.cplIn = c :: l ∧ b.ulf.reads.find? (fun r => r.tag == c.tag) = some r ∧ r.chan = none
        ∧ c.status = 0 ∧ (b.part r.part).state ≠ .resetting)
      (fun b n => n.resp = .ok c.data ∧ n.ulf = { b.ulf with cplIn := l, reads := b.ulf.reads.erase r }) :=
  Effect.of_event_load (f := fun b => b.readComplete) (fun _ => rfl)
    fun s b ⟨hcpl, hread, hcore, hstatus, hpart⟩ => by
    rw [State.readComplete_ok hcpl hread hcore hstatus hpart]
    exact ⟨rfl, rfl, rfl⟩

theorem partnerReadComplete_resetting :
    Effect t (.partnerReadComplete t)
      (fun b => b.ulf.cplIn = c :: l ∧ b.ulf.reads.find? (fun r => r.tag == c.tag) = some r ∧ r.chan = none
        ∧ c.status = 0 ∧ (b.part r.part).state = .resetting)
      (fun b n => n.resp = b.resp ∧ n.ulf = { b.ulf with cplIn := l, reads := b.ulf.reads.erase r }) :=
  Effect.of_event_load (f := fun b => b.readComplete) (fun _ => rfl)
    fun s b ⟨hcpl, hread, hcore, hstatus, hpart⟩ => by
    rw [State.readComplete_resetting hcpl hread hcore hstatus hpart]
    exact ⟨rfl, rfl, rfl⟩

theorem partnerReadComplete_notOwner :
    Effect t (.partnerReadComplete t)
      (fun b => b.ulf.cplIn = c :: l ∧ b.ulf.reads.find? (fun r => r.tag == c.tag) = some r ∧ r.chan = none
        ∧ c.status = 1)
      (fun b n => n.resp = .busError .notOwner ∧ n.ulf = { b.ulf with cplIn := l, reads := b.ulf.reads.erase r }) :=
  Effect.of_event_load (f := fun b => b.readComplete) (fun _ => rfl) fun s b ⟨hcpl, hread, hcore, hstatus⟩ => by
    rw [State.readComplete_notOwner hcpl hread hstatus]
    exact State.viewFail_answer _ r .notOwner hcore

theorem partnerReadComplete_unmapped :
    Effect t (.partnerReadComplete t)
      (fun b => b.ulf.cplIn = c :: l ∧ b.ulf.reads.find? (fun r => r.tag == c.tag) = some r ∧ r.chan = none
        ∧ 2 ≤ c.status)
      (fun b n => n.resp = .busError .unmapped ∧ n.ulf = { b.ulf with cplIn := l, reads := b.ulf.reads.erase r }) :=
  Effect.of_event_load (f := fun b => b.readComplete) (fun _ => rfl) fun s b ⟨hcpl, hread, hcore, hstatus⟩ => by
    rw [State.readComplete_unmapped hcpl hread hstatus]
    exact State.viewFail_answer _ r .unmapped hcore

end

theorem partnerReadTimeout_due (t : Nat) (r : ViewRead) :
    Effect t (.partnerReadTimeout t)
      (fun b => b.ulf.reads.find? (fun r => decide (r.since + b.readTimeUs * 1000 ≤ b.clk.lt)) = some r ∧ r.chan = none)
      (fun b n => n.resp = .busError .partnerDown ∧ n.ulf = { b.ulf with reads := b.ulf.reads.erase r }) :=
  Effect.of_event_load (f := fun b => b.readTimeout) (fun _ => rfl) fun s b ⟨hread, hcore⟩ => by
    have hrun : b.readTimeout = (b.dropRead r).viewFail r .partnerDown := by
      simp [State.readTimeout, hread]
    rw [hrun]
    exact State.viewFail_answer _ r .partnerDown hcore

/-- Settles O35, clause by clause from the commands of the link above. -/
theorem linkTransfers : Obligations.LinkTransfers := by
  unfold Obligations.LinkTransfers
  exact ⟨ulfFlitRx_discarded, ulfFlitRx_outOfSequence, ulfFlitRx_fence, sentFlit_bytes, ulfNakTimeout_due,
    fenceAck_oldest, combinerTimeout_quiet, lerPop_oldest, partnerViewRead_sent, partnerViewRead_down,
    partnerReadComplete_ok, partnerReadComplete_notOwner, partnerReadComplete_resetting, partnerReadComplete_unmapped,
    partnerReadTimeout_due⟩

end Sys2Proof.Machine

namespace Sys2Proof.Machine

/-! ## Fields of a register word (R5) -/

theorem bit_setFld (w : Word) (hi lo v k : Nat) (hk : k < 32) :
    bit (setFld w hi lo v) k = if lo ≤ k ∧ k - lo < hi - lo + 1 then v.testBit (k - lo) else bit w k := by
  have hbits : bit (setFld w hi lo v) k = (bit w k && !(decide (lo ≤ k) && decide (k - lo < hi - lo + 1)) ||
      decide (lo ≤ k) && (decide (k - lo < hi - lo + 1) && v.testBit (k - lo))) := by
    change (setFld w hi lo v).getLsbD k = _
    simp only [setFld, BitVec.getLsbD_or, BitVec.getLsbD_and, BitVec.getLsbD_not, BitVec.getLsbD_ofNat,
      Nat.testBit_shiftLeft, Nat.testBit_two_pow_sub_one, Nat.testBit_mod_two_pow, hk, decide_true, Bool.true_and, ge_iff_le]
    rfl
  rw [hbits]
  by_cases hlo : lo ≤ k <;> by_cases hhi : k - lo < hi - lo + 1 <;> simp [hlo, hhi]

theorem fld_setFld (w : Word) (hi lo v : Nat) (hlo : lo ≤ hi) (hhi : hi < 32) :
    fld (setFld w hi lo v) hi lo = v % 2 ^ (hi - lo + 1) := by
  apply Nat.eq_of_testBit_eq
  intro i
  by_cases hi' : i < hi - lo + 1
  · have hbit := bit_setFld w hi lo v (lo + i) (by omega)
    simpa [fld, bit, hi'] using hbit
  · simp [fld, Nat.testBit_mod_two_pow, hi']

theorem bit_setBit_self (w : Word) (k : Nat) (hk : k < 32) : bit (setBit w k true) k = true := by
  simp [setBit, bit_setFld, hk]

/-- A saturating field grows by the count that is added (R5). -/
theorem State.regF_addF_self (s : State) (addr hi lo n : Nat) (hlo : lo ≤ hi) (hhi : hi < 32) :
    (s.addF addr hi lo n).regF addr hi lo = satAdd (hi - lo + 1) (s.regF addr hi lo) n := by
  have hlt : satAdd (hi - lo + 1) (s.regF addr hi lo) n < 2 ^ (hi - lo + 1) := by
    have := Nat.two_pow_pos (hi - lo + 1)
    unfold satAdd
    omega
  rw [State.addF, State.putF, State.regF, State.reg_setReg_self, fld_setFld _ _ _ _ hlo hhi, Nat.mod_eq_of_lt hlt]

theorem State.reg_addF_ne (s : State) (addr hi lo n x : Nat) (h : x ≠ addr) : (s.addF addr hi lo n).reg x = s.reg x :=
  s.reg_setReg_ne addr x _ h

/-! ## What an event and an offer to the gateway do to registers (R51, R266) -/

theorem State.foldl_sendMsg_regs (p src : State → Nat → Nat) (l : List Nat) (s : State) :
    (l.foldl (fun s k => s.sendMsg (p s k) (src s k)) s).regs = s.regs := by
  obtain ⟨i, h⟩ := State.foldl_ifiles (fun s k => s.sendMsg (p s k) (src s k)) (fun s k => ⟨_, State.sendMsg_same s _ _⟩) l s
  rw [h]

theorem State.setEvents_regs (s : State) (idx : Nat) (st en : Word) :
    (s.setEvents idx st en).regs = ((s.setReg (R.EVT_STATUS idx) st).setReg (R.EVT_ENABLE idx) en).regs :=
  State.foldl_sendMsg_regs (fun s _ => s.pageOwner idx) (fun _ k => eventSource idx k) _ _

theorem State.reg_of_regs {s n : State} (h : n.regs = s.regs) (x : Nat) : n.reg x = s.reg x := by
  unfold State.reg
  rw [h]

/-- The status register is the only one an event changes. -/
theorem State.raise_reg (s : State) (idx k x : Nat) :
    (s.raise idx k).reg x = if x = R.EVT_STATUS idx then setBit (s.reg x) k true else s.reg x := by
  have hne : R.EVT_STATUS idx ≠ R.EVT_ENABLE idx := by
    unfold R.EVT_STATUS R.EVT_ENABLE
    omega
  rw [State.raise, State.reg_of_regs (s.setEvents_regs idx _ _)]
  by_cases he : x = R.EVT_ENABLE idx
  · rw [he, State.reg_setReg_self, if_neg hne.symm]
  · rw [State.reg_setReg_ne _ _ _ _ he]
    by_cases hs : x = R.EVT_STATUS idx
    · rw [if_pos hs, hs, State.reg_setReg_self]
    · rw [if_neg hs, State.reg_setReg_ne _ _ _ _ hs]

theorem State.raise_reg_ne (s : State) (idx k x : Nat) (h : x ≠ R.EVT_STATUS idx) : (s.raise idx k).reg x = s.reg x := by
  rw [State.raise_reg, if_neg h]

theorem State.raise_sets (s : State) (idx k : Nat) (hk : k < 32) : (s.raise idx k).regB (R.EVT_STATUS idx) k = true := by
  rw [State.regB, State.raise_reg, if_pos rfl]
  exact bit_setBit_self _ _ hk

theorem State.raiseIf_reg_ne (s : State) (p : Bool) (i k x : Nat) (h : x ≠ R.EVT_STATUS i) :
    (s.raiseIf p i k).reg x = s.reg x := by
  unfold State.raiseIf
  split
  · exact s.raise_reg_ne i k x h
  · rfl

/-- The registers in which a dropped offer shows. -/
def dropRegs : List Nat := [R.GW_DROP, R.EVT_STATUS gw0Page]

section
variable {x : Nat} (hx : x ∉ dropRegs)
include hx

theorem State.gwDrop_reg (s : State) (r : GwDrop) (e : Nat) : (s.gwDrop r e).reg x = s.reg x := by
  obtain ⟨hdrop, hevt⟩ : x ≠ R.GW_DROP ∧ x ≠ R.EVT_STATUS gw0Page := by simpa [dropRegs] using hx
  exact (State.raise_reg_ne _ _ _ _ hevt).trans (s.reg_addF_ne R.GW_DROP 31 0 1 x hdrop)

theorem State.gwDropOffer_reg (s : State) (r : GwDrop) (e : GwEvent) : (s.gwDropOffer r e).reg x = s.reg x := by
  unfold State.gwDropOffer
  split
  · exact s.gwDrop_reg hx r _
  · split
    · exact s.gwDrop_reg hx r _
    · exact State.gwDrop_reg hx s.takeFree.2 r _

theorem State.gwOffer_reg (s : State) (e : GwEvent) : (s.gwOffer e).reg x = s.reg x := by
  unfold State.gwOffer
  dsimp only
  split
  · rfl
  · split
    · exact s.gwDropOffer_reg hx _ _
    · split
      · exact s.gwDropOffer_reg hx _ _
      · rfl

theorem State.foldl_gwOffer_reg (e : State → Nat → GwEvent) (l : List Nat) (s : State) :
    (l.foldl (fun s c => s.gwOffer (e s c)) s).reg x = s.reg x := by
  induction l generalizing s with
  | nil => rfl
  | cons c l ih => exact (ih _).trans (s.gwOffer_reg hx _)

theorem State.offerChans_reg (s old : State) : (s.offerChans old).reg x = s.reg x := by
  unfold State.offerChans
  split
  · rfl
  · exact State.foldl_gwOffer_reg hx (fun s c =>
      { kind := 7, direct := some (2304 + c), stamp := s.clk.lt,
        data := wordBytes [s.lscStatus c, s.reg (R.LSC_IMEAS c), s.reg (R.LSC_VOUT c), s.reg (R.LSC_TJ c)] }) _ s

end

/-! ## Reading channels, banks and registers after an operation of the load stage (R55) -/

theorem State.chan_of_load {s n : State} (h : n.load = s.load) (c : Nat) : n.chan c = s.chan c := by
  unfold State.chan
  rw [h]

theorem State.lbank_of_load {s n : State} (h : n.load = s.load) (b : Nat) : n.lbank b = s.lbank b := by
  unfold State.lbank
  rw [h]

@[simp] theorem State.chan_setChan_self (s : State) (c : Nat) (x : Chan) : (s.setChan c x).chan c = x :=
  KMap.get_put_self s.load.chans {} c x

theorem State.chan_setChan_ne (s : State) (c d : Nat) (x : Chan) (h : d ≠ c) : (s.setChan c x).chan d = s.chan d :=
  KMap.get_put_ne s.load.chans {} c d x h

@[simp] theorem State.lbank_setLbank_self (s : State) (b : Nat) (x : Bank) : (s.setLbank b x).lbank b = x :=
  KMap.get_put_self s.load.banks {} b x

@[simp] theorem State.setLbank_chan (s : State) (c b : Nat) (x : Bank) : (s.setLbank b x).chan c = s.chan c := rfl
@[simp] theorem State.setLbank_reg (s : State) (b a : Nat) (x : Bank) : (s.setLbank b x).reg a = s.reg a := rfl
@[simp] theorem State.addF_chan (s : State) (a hi lo n c : Nat) : (s.addF a hi lo n).chan c = s.chan c := rfl
@[simp] theorem State.setPair_chan (s : State) (lo hi v c : Nat) : (s.setPair lo hi v).chan c = s.chan c := rfl

@[simp] theorem State.raise_chan (s : State) (i k c : Nat) : (s.raise i k).chan c = s.chan c :=
  State.chan_of_load (s.raise_load i k) c

@[simp] theorem State.raiseIf_chan (s : State) (p : Bool) (i k c : Nat) : (s.raiseIf p i k).chan c = s.chan c :=
  State.chan_of_load (s.raiseIf_load p i k) c

@[simp] theorem State.raise_lbank (s : State) (i k b : Nat) : (s.raise i k).lbank b = s.lbank b :=
  State.lbank_of_load (s.raise_load i k) b

theorem State.reg_setPair_ne (s : State) (lo hi v x : Nat) (hlo : x ≠ lo) (hhi : x ≠ hi) :
    (s.setPair lo hi v).reg x = s.reg x :=
  (State.reg_setReg_ne _ hi x _ hhi).trans (s.reg_setReg_ne lo x _ hlo)

/-! ## How a command of the load stage ends

What a command does to channels, banks and registers stands in the state it ends in, but for the registers in which an
offer to the gateway that is dropped shows. -/

theorem Effect.of_load_event {t : Nat} {c : Instr} {f : State → State} {pre : State → Prop}
    {post : State → State → Prop} (hx : ∀ s, exec c s = eventAt t f s)
    (hp : ∀ b n : State, pre b → n.load = (f b).load → (∀ x ∉ dropRegs, n.reg x = (f b).reg x) → post b n) :
    Effect t c pre post :=
  Effect.of_event hx fun _ b hb => hp b _ hb ((f b).offerChans_load b) fun _ hreg => State.offerChans_reg hreg (f b) b

theorem WriteEffect.of_chan_write {a : Acc} {addr : Nat} {c : Instr} {f : State → State} {pre : State → Prop}
    {post : State → State → Prop} (hx : ∀ s, exec c s = writeTo a addr f s) (hresp : ∀ s, (f s).resp = s.resp)
    (hp : ∀ b n : State, pre b → n.load = (f b.done).load → post b n) : WriteEffect a addr c pre post :=
  WriteEffect.of_write hx fun _ b hb =>
    ⟨((f b.done).offerChans_resp b).trans (hresp b.done), hp b _ hb ((f b.done).offerChans_load b)⟩

/-! ## Where the registers of the load stage lie (R84, R85) -/

theorem evtStatus_lscPage (c : Fin 128) : R.EVT_STATUS (lscPage c) = 0x40028010 + 0x1000 * (c.val / 8) := by
  have hpages : ∀ n : Fin 16, R.EVT_STATUS (17 + n.val) = 0x40028010 + 0x1000 * n.val := by decide
  exact hpages ⟨c.val / 8, by omega⟩

theorem evtStatus_lsbPage (b : Fin 4) : R.EVT_STATUS (lsbPage b) = 0x40020010 + 0x1000 * b.val := by
  have hpages : ∀ n : Fin 4, R.EVT_STATUS (11 + n.val) = 0x40020010 + 0x1000 * n.val := by decide
  exact hpages b

/-- The registers of the LSC pages lie below those of the gateway. -/
theorem not_dropRegs {x : Nat} (h : x < 0x40038000) : x ∉ dropRegs := by
  have hdrop : dropRegs = [0x400B0054, 0x400B0010] := by decide
  rw [hdrop]
  simp only [List.mem_cons, List.not_mem_nil, or_false]
  omega

theorem lscTripCount_bounds (c : Fin 128) : 0x40028000 ≤ R.LSC_TRIP_COUNT c ∧ R.LSC_TRIP_COUNT c < 0x40038000 := by
  unfold R.LSC_TRIP_COUNT
  omega

theorem evtStatus_lscPage_bounds (c : Fin 128) :
    0x40028000 ≤ R.EVT_STATUS (lscPage c) ∧ R.EVT_STATUS (lscPage c) < 0x40038000 := by
  rw [evtStatus_lscPage]
  omega

theorem lscTripCount_ne_evtStatus (c d : Fin 128) : R.LSC_TRIP_COUNT c ≠ R.EVT_STATUS (lscPage d) := by
  rw [evtStatus_lscPage]
  unfold R.LSC_TRIP_COUNT
  omega

theorem lscTripCount_ne_ipeak (c : Fin 128) : R.LSC_TRIP_COUNT c ≠ R.LSC_IPEAK c := by
  unfold R.LSC_TRIP_COUNT R.LSC_IPEAK
  omega

theorem lscVout_ne_evtStatus (c : Nat) (d : Fin 128) : R.LSC_VOUT c ≠ R.EVT_STATUS (lscPage d) := by
  rw [evtStatus_lscPage]
  unfold R.LSC_VOUT
  omega

/-! ## Entering a state (R72, R80, R81, R116) -/

theorem Chan.conducting_not_tripped {x : Chan} (h : x.conducting = true) : x.st ≠ .tripped := by
  intro ht
  simp [Chan.conducting, ht] at h

theorem State.moveChan_same (s : State) (c : Nat) (x : Chan) : s.moveChan c x = { s with load := (s.moveChan c x).load } := by
  unfold State.moveChan
  dsimp only
  split
  · split <;> split <;> rfl
  · split <;> rfl

/-- A channel that moves takes the new value, but for the off-state check and the interrogation it may abandon. -/
theorem State.moveChan_chan (s : State) (c : Nat) (x : Chan) : ∃ check tag retry attempts tx,
    (s.moveChan c x).chan c =
      { x with olCheck := check, tagState := tag, tagRetry := retry, tagAttempts := attempts, tagTx := tx } := by
  unfold State.moveChan
  dsimp only
  split
  · exact ⟨_, _, _, _, _, State.chan_setChan_self _ c _⟩
  · exact ⟨_, _, _, _, _, State.chan_setChan_self _ c x⟩

@[simp] theorem State.moveChan_reg (s : State) (c a : Nat) (x : Chan) : (s.moveChan c x).reg a = s.reg a := by
  rw [State.moveChan_same]
  rfl

/-- The value that a trip gives a channel in any other state than TRIPPED. -/
def State.trippedChan (s : State) (c cause : Nat) : Chan :=
  let ch := s.chan c
  let same := s.sameCycle ch
  let x := ((ch.open_ .tripped s.clk.lt).stamp same s.clk.lt cause).endMeasure
  { x with acc := { x.acc.addCause cause with trips := x.acc.trips + 1 }
           tripFrom := if ch.st == .uvHeld && same then ch.tripFrom else ch.st }

section
variable {s : State} {c : Nat} (cause : Nat) (h : (s.chan c).st ≠ .tripped)
include h

theorem State.trip_entry : s.trip c cause =
    ((s.moveChan c (s.trippedChan c cause)).addF (R.LSC_TRIP_COUNT c) 15 0 1).raise (lscPage c) (c % 8) := by
  unfold State.trip
  exact if_neg (by simpa using h)

theorem State.trip_chan : ((s.trip c cause).chan c).st = .tripped ∧ ((s.trip c cause).chan c).cause = cause
    ∧ ((s.trip c cause).chan c).tripTime = s.clk.lt ∧ ((s.trip c cause).chan c).out = {}
    ∧ ((s.trip c cause).chan c).scTrips = (s.chan c).scTrips ∧ ((s.trip c cause).chan c).lockout = (s.chan c).lockout := by
  obtain ⟨_, _, _, _, _, hmove⟩ := s.moveChan_chan c (s.trippedChan c cause)
  rw [State.trip_entry cause h, State.raise_chan, State.addF_chan, hmove]
  exact ⟨rfl, rfl, rfl, rfl, rfl, rfl⟩

theorem State.trip_event : (s.trip c cause).regB (R.EVT_STATUS (lscPage c)) (c % 8) = true := by
  rw [State.trip_entry cause h]
  exact State.raise_sets _ _ _ (by omega)

end

theorem State.trip_count {s : State} {c : Fin 128} (cause : Nat) (h : (s.chan c).st ≠ .tripped) :
    (s.trip c cause).regF (R.LSC_TRIP_COUNT c) 15 0 = satAdd 16 (s.regF (R.LSC_TRIP_COUNT c) 15 0) 1 := by
  have hmove : (s.moveChan c (s.trippedChan c cause)).regF (R.LSC_TRIP_COUNT c) 15 0 = s.regF (R.LSC_TRIP_COUNT c) 15 0 :=
    congrArg (fld · 15 0) (s.moveChan_reg c _ _)
  rw [State.trip_entry cause h, State.regF, State.raise_reg_ne _ _ _ _ (lscTripCount_ne_evtStatus c c), ← hmove]
  exact State.regF_addF_self _ _ 15 0 1 (by decide) (by decide)

/-! ## Short circuit (R60, R61, R68) -/

/-- A sample of the current changes the largest one alone, in the accumulated counts and in LSC_IPEAK (R58). -/
theorem State.notePeak_chan (s : State) (c : Nat) (ma : Int) :
    (s.notePeak c ma).chan c = { s.chan c with
      acc := { (s.chan c).acc with peakMa := max (s.chan c).acc.peakMa ma.natAbs } } := by
  unfold State.notePeak
  dsimp only
  split
  · exact State.chan_setChan_self s c _
  · exact State.chan_setChan_self s c _

theorem State.notePeak_not_tripped {s : State} {c : Nat} {ma : Int} (h : (s.chan c).st ≠ .tripped) :
    ((s.notePeak c ma).chan c).st ≠ .tripped := by
  rw [State.notePeak_chan]
  exact h

theorem State.notePeak_clk (s : State) (c : Nat) (ma : Int) : (s.notePeak c ma).clk = s.clk := by
  unfold State.notePeak
  dsimp only
  split <;> rfl

theorem State.notePeak_reg (s : State) (c x : Nat) (ma : Int) (hx : x ≠ R.LSC_IPEAK c) :
    (s.notePeak c ma).reg x = s.reg x := by
  unfold State.notePeak
  dsimp only
  split
  · exact State.reg_setReg_ne _ _ _ _ hx
  · rfl

/-- What a short-circuit trip at `lt` leaves behind besides the trip: it joins the trips of the last 60 s, and counts and
opens a window in its bank. -/
def State.noteShort (s : State) (c lt : Nat) : State :=
  let b := c / 32
  let s := s.updChan c (fun ch =>
    let l := recentTrips lt ch.scTrips ++ [lt]
    { ch with scTrips := l, lockout := ch.lockout || 8 ≤ l.length })
  let s := (s.setPair (R.LSB_SC_LAST_LO b) (R.LSB_SC_LAST_HI b) lt).addF (R.LSB_SC_COUNT b) 15 0 1
  (s.setLbank b { s.lbank b with scWindow := some (lt + 250000) }).raise (lsbPage b) 0

theorem State.shortTrip_conducting {s : State} {c : Nat} {ma : Int} (hcond : (s.chan c).conducting = true)
    (hma : (chTripMa c : Int) ≤ ma.natAbs) :
    s.shortTrip c ma = ((s.notePeak c ma).trip c 1).noteShort c s.clk.lt := by
  have hst := Chan.conducting_not_tripped hcond
  unfold State.shortTrip State.mayTrip
  exact if_pos (by simpa [hcond, hst] using hma)

theorem State.noteShort_chan (s : State) (c lt : Nat) : (s.noteShort c lt).chan c = { s.chan c with
    scTrips := recentTrips lt (s.chan c).scTrips ++ [lt]
    lockout := (s.chan c).lockout || decide (8 ≤ (recentTrips lt (s.chan c).scTrips).length + 1) } := by
  simp [State.noteShort, State.updChan]

theorem State.noteShort_window (s : State) (c lt : Nat) :
    ((s.noteShort c lt).lbank (c / 32)).scWindow = some (lt + 250000) := by
  simp [State.noteShort]

theorem State.noteShort_reg (s : State) (c : Fin 128) (lt x : Nat) (hx : 0x40028000 ≤ x) :
    (s.noteShort c lt).reg x = s.reg x := by
  have hevt := evtStatus_lsbPage ⟨c.val / 32, by omega⟩
  unfold State.noteShort
  dsimp only at hevt ⊢
  rw [State.raise_reg_ne _ _ _ _ (by omega), State.setLbank_reg, State.reg_addF_ne, State.reg_setPair_ne]
  · rfl
  all_goals
    simp only [R.LSB_SC_LAST_LO, R.LSB_SC_LAST_HI, R.LSB_SC_COUNT]
    omega

section
variable {b : State} {ch : Fin 128} {ma : Int}
variable (hcond : (b.chan ch).conducting = true) (hma : (chTripMa ch : Int) ≤ ma.natAbs)
include hcond hma

theorem State.shortTrip_chan : ((b.shortTrip ch ma).chan ch).st = .tripped ∧ ((b.shortTrip ch ma).chan ch).cause = 1
    ∧ ((b.shortTrip ch ma).chan ch).tripTime = b.clk.lt ∧ ((b.shortTrip ch ma).chan ch).out = {}
    ∧ ((b.shortTrip ch ma).chan ch).scTrips = recentTrips b.clk.lt (b.chan ch).scTrips ++ [b.clk.lt]
    ∧ ((b.shortTrip ch ma).chan ch).lockout
      = ((b.chan ch).lockout || decide (8 ≤ (recentTrips b.clk.lt (b.chan ch).scTrips).length + 1)) := by
  have hst := State.notePeak_not_tripped (ma := ma) (Chan.conducting_not_tripped hcond)
  obtain ⟨htst, htcause, httime, htout, httrips, htlock⟩ := State.trip_chan 1 hst
  rw [State.notePeak_chan] at httrips htlock
  rw [State.notePeak_clk] at httime
  rw [State.shortTrip_conducting hcond hma, State.noteShort_chan, httrips, htlock]
  exact ⟨htst, htcause, httime, htout, rfl, rfl⟩

/-- In the LSC pages a short circuit shows by its sample and its trip alone. -/
theorem State.shortTrip_reg (x : Nat) (hx : 0x40028000 ≤ x) :
    (b.shortTrip ch ma).reg x = ((b.notePeak ch ma).trip ch 1).reg x := by
  rw [State.shortTrip_conducting hcond hma, State.noteShort_reg _ ch _ x hx]

theorem State.shortTrip_count :
    (b.shortTrip ch ma).regF (R.LSC_TRIP_COUNT ch) 15 0 = satAdd 16 (b.regF (R.LSC_TRIP_COUNT ch) 15 0) 1 := by
  have hst := State.notePeak_not_tripped (ma := ma) (Chan.conducting_not_tripped hcond)
  have hcount := State.trip_count 1 hst
  rw [State.regF, State.regF, State.notePeak_reg _ _ _ _ (lscTripCount_ne_ipeak ch)] at hcount
  rw [State.regF, State.shortTrip_reg hcond hma _ (lscTripCount_bounds ch).1, hcount, State.regF]

theorem State.shortTrip_event : (b.shortTrip ch ma).regB (R.EVT_STATUS (lscPage ch)) (ch % 8) = true := by
  have hst := State.notePeak_not_tripped (ma := ma) (Chan.conducting_not_tripped hcond)
  rw [State.regB, State.shortTrip_reg hcond hma _ (evtStatus_lscPage_bounds ch).1]
  exact State.trip_event 1 hst

theorem State.shortTrip_window : ((b.shortTrip ch ma).lbank (ch / 32)).scWindow = some (b.clk.lt + 250000) := by
  rw [State.shortTrip_conducting hcond hma, State.noteShort_window]

end

theorem shortCircuitTrip_conducting (t : Nat) (ch : Fin 128) (ma : Int) :
    Effect t (.shortCircuitTrip t ch ma)
      (fun b => (b.chan ch).conducting = true ∧ (chTripMa ch : Int) ≤ ma.natAbs)
      (fun b n => (n.chan ch).st = .tripped ∧ (n.chan ch).cause = 1 ∧ (n.chan ch).tripTime = b.clk.lt
        ∧ (n.chan ch).out = {} ∧ (n.chan ch).scTrips = recentTrips b.clk.lt (b.chan ch).scTrips ++ [b.clk.lt]
        ∧ (n.chan ch).lockout
          = ((b.chan ch).lockout || decide (8 ≤ (recentTrips b.clk.lt (b.chan ch).scTrips).length + 1))
        ∧ (n.lbank (ch / 32)).scWindow = some (b.clk.lt + 250000)
        ∧ n.regF (R.LSC_TRIP_COUNT ch) 15 0 = satAdd 16 (b.regF (R.LSC_TRIP_COUNT ch) 15 0) 1
        ∧ n.regB (R.EVT_STATUS (lscPage ch)) (ch % 8) = true) :=
  Effect.of_load_event (f := fun b => b.shortTrip ch ma) (fun _ => rfl) fun b n ⟨hcond, hma⟩ hload hreg => by
    obtain ⟨hst, hcause, htime, hout, htrips, hlock⟩ := State.shortTrip_chan hcond hma
    rw [State.chan_of_load hload, State.lbank_of_load hload, State.regF, State.regB,
      hreg _ (not_dropRegs (lscTripCount_bounds ch).2), hreg _ (not_dropRegs (evtStatus_lscPage_bounds ch).2)]
    exact ⟨hst, hcause, htime, hout, htrips, hlock, State.shortTrip_window hcond hma, State.shortTrip_count hcond hma,
      State.shortTrip_event hcond hma⟩

theorem scWindowEnd_due (t : Nat) (bank : Fin 4) :
    Effect t (.scWindowEnd t bank) (fun b => (b.lbank bank).scWindow.any (fun e => e ≤ b.clk.lt) = true)
      (fun b n => n.lbank bank = { b.lbank bank with scWindow := none }) :=
  Effect.of_load_event (f := fun b => b.scWindowEnd bank) (fun _ => rfl) fun b n hdue hload _ => by
    obtain ⟨e, hwindow, hend⟩ := (Option.any_eq_true _ _).mp hdue
    have hrun : b.scWindowEnd bank = b.setLbank bank { b.lbank bank with scWindow := none } := by
      unfold State.scWindowEnd
      rw [hwindow]
      exact if_pos (of_decide_eq_true hend)
    rw [State.lbank_of_load hload, hrun, State.lbank_setLbank_self]

theorem scTripAged_recent (t : Nat) (ch : Fin 128) :
    Effect t (.scTripAged t ch) (fun _ => True)
      (fun b n => n.chan ch = { b.chan ch with scTrips := recentTrips b.clk.lt (b.chan ch).scTrips }) :=
  Effect.of_load_event (f := fun b => b.scTripAged ch) (fun _ => rfl) fun b _ _ hload _ =>
    (State.chan_of_load hload ch).trans (State.chan_setChan_self b ch _)

/-- Settles O3, clause by clause from the three commands above. -/
theorem shortCircuit : Obligations.ShortCircuit := by
  unfold Obligations.ShortCircuit
  exact ⟨shortCircuitTrip_conducting, scWindowEnd_due, scTripAged_recent⟩


/-! ## Inrush (R66 to R68) -/

section
variable {s : State} {c : Nat} {ma : Int} (hst : (s.chan c).st = .inrush) (hma : s.inrIlimMa c ≤ ma.natAbs)
variable (hlim : (s.chan c).burstAt + s.inrLimNs c ≤ s.clk.lt)
include hst hma hlim

theorem State.limitTrip_inWindow (hwin : s.inWindow c = true) : s.limitTrip c ma =
    s.setChan c { (s.chan c).open_ .retryWait s.clk.lt with
      exempt := satAdd 8 (s.chan c).exempt 1, burstAt := s.clk.lt } := by
  simp [State.limitTrip, hst, hma, hlim, hwin]

theorem State.limitTrip_aboveBudget (hwin : s.inWindow c = false) (hbudget : s.inrBudget c < (s.chan c).used + 1) :
    s.limitTrip c ma = s.trip c 4 := by
  simp [State.limitTrip, hst, hma, hlim, hwin, hbudget]

theorem State.limitTrip_counted (hwin : s.inWindow c = false) (hbudget : ¬ s.inrBudget c < (s.chan c).used + 1) :
    s.limitTrip c ma = s.setChan c { (s.chan c).open_ .retryWait s.clk.lt with
      used := (s.chan c).used + 1, burstAt := s.clk.lt } := by
  simp [State.limitTrip, hst, hma, hlim, hwin, hbudget]

end

/-- Whatever the safe command is, the channel that takes it is in LEASE_SAFE (R100). -/
theorem Chan.takeSafe_st (x : Chan) (cmd : Cmd) (lt : Nat) : (x.takeSafe cmd lt).st = .leaseSafe := by
  have hclosing (p : Bool) (y : Chan) (hy : y.st = .leaseSafe) : (if p then y.countClosing lt else y).st = .leaseSafe := by
    split <;> exact hy
  unfold Chan.takeSafe
  dsimp only
  apply hclosing
  split
  · rfl
  · rfl
  · split <;> rfl

theorem State.enterLeaseSafe_chan (s : State) (c : Nat) (cmd : Cmd) :
    ((s.enterLeaseSafe c cmd).chan c).st = .leaseSafe ∧ ((s.enterLeaseSafe c cmd).chan c).cause = 7 := by
  obtain ⟨_, _, _, _, _, hmove⟩ := s.moveChan_chan c
    { ((s.chan c).takeSafe cmd s.clk.lt).stamp (s.sameCycle (s.chan c)) s.clk.lt 7 with
      acc := (((s.chan c).takeSafe cmd s.clk.lt).stamp (s.sameCycle (s.chan c)) s.clk.lt 7).acc.addCause 7 }
  unfold State.enterLeaseSafe
  dsimp only
  rw [hmove]
  exact ⟨(s.chan c).takeSafe_st cmd s.clk.lt, rfl⟩

section
variable {s : State} {c : Nat} {ma : Int} (hst : (s.chan c).st = .inrush)
variable (hend : (s.chan c).burstAt + 976562 ≤ s.clk.lt) (hma : ma.natAbs < s.inrIlimMa c)
include hst hend hma

theorem State.inrushEnd_leased (hlease : (s.chan c).lease ≠ .expired) : s.inrushEnd c ma = s.setChan c { s.chan c with
    st := if (s.effCmd c).1.mode = .pwm then .pwm else .on, out := ⟨.on, 0, 0⟩ } := by
  cases hmode : (s.effCmd c).1.mode <;> simp [State.inrushEnd, hst, hend, hma, hlease, hmode]

theorem State.inrushEnd_expired (hlease : (s.chan c).lease = .expired) :
    s.inrushEnd c ma = s.enterLeaseSafe c (s.effCmd c).1 := by
  simp [State.inrushEnd, hst, hend, hma, hlease]

end

theorem currentLimitTrip_counted (t : Nat) (ch : Fin 128) (ma : Int) :
    Effect t (.currentLimitTrip t ch ma)
      (fun b => (b.chan ch).st = .inrush ∧ b.inrIlimMa ch ≤ ma.natAbs
        ∧ (b.chan ch).burstAt + b.inrLimNs ch ≤ b.clk.lt ∧ b.inWindow ch = false)
      (fun b n => if b.inrBudget ch < (b.chan ch).used + 1 then (n.chan ch).st = .tripped ∧ (n.chan ch).cause = 4
        else (n.chan ch).st = .retryWait ∧ (n.chan ch).used = (b.chan ch).used + 1 ∧ (n.chan ch).burstAt = b.clk.lt
          ∧ (n.chan ch).out = {}) :=
  Effect.of_load_event (f := fun b => b.limitTrip ch ma) (fun _ => rfl) fun b n ⟨hst, hma, hlim, hwin⟩ hload _ => by
    rw [State.chan_of_load hload]
    split
    next hbudget =>
      rw [State.limitTrip_aboveBudget hst hma hlim hwin hbudget]
      obtain ⟨htst, htcause, -⟩ := State.trip_chan (s := b) (c := ch) 4 (by simp [hst])
      exact ⟨htst, htcause⟩
    next hbudget =>
      rw [State.limitTrip_counted hst hma hlim hwin hbudget, State.chan_setChan_self]
      exact ⟨rfl, rfl, rfl, rfl⟩

theorem currentLimitTrip_inWindow (t : Nat) (ch : Fin 128) (ma : Int) :
    Effect t (.currentLimitTrip t ch ma)
      (fun b => (b.chan ch).st = .inrush ∧ b.inrIlimMa ch ≤ ma.natAbs
        ∧ (b.chan ch).burstAt + b.inrLimNs ch ≤ b.clk.lt ∧ b.inWindow ch = true)
      (fun b n => (n.chan ch).st = .retryWait ∧ (n.chan ch).used = (b.chan ch).used
        ∧ (n.chan ch).exempt = satAdd 8 (b.chan ch).exempt 1) :=
  Effect.of_load_event (f := fun b => b.limitTrip ch ma) (fun _ => rfl) fun b n ⟨hst, hma, hlim, hwin⟩ hload _ => by
    rw [State.chan_of_load hload, State.limitTrip_inWindow hst hma hlim hwin, State.chan_setChan_self]
    exact ⟨rfl, rfl, rfl⟩

theorem retryWaitEnd_due (t : Nat) (ch : Fin 128) :
    Effect t (.retryWaitEnd t ch)
      (fun b => (b.chan ch).st = .retryWait ∧ (b.chan ch).burstAt + b.inrOffNs ch ≤ b.clk.lt)
      (fun b n => n.chan ch = { b.chan ch with st := .inrush, burstAt := b.clk.lt, out := ⟨.on, 0, 0⟩ }) :=
  Effect.of_load_event (f := fun b => b.retryEnd ch) (fun _ => rfl) fun b n ⟨hst, hoff⟩ hload _ => by
    have hrun : b.retryEnd ch =
        b.setChan ch { b.chan ch with st := .inrush, burstAt := b.clk.lt, out := ⟨.on, 0, 0⟩ } := by
      simp [State.retryEnd, hst, hoff]
    rw [State.chan_of_load hload, hrun, State.chan_setChan_self]

theorem inrushEnd_leased (t : Nat) (ch : Fin 128) (ma : Int) :
    Effect t (.inrushEnd t ch ma)
      (fun b => (b.chan ch).st = .inrush ∧ (b.chan ch).burstAt + 976562 ≤ b.clk.lt ∧ ma.natAbs < b.inrIlimMa ch
        ∧ (b.chan ch).lease ≠ .expired)
      (fun b n => (n.chan ch).st = (if (b.effCmd ch).1.mode = .pwm then .pwm else .on)
        ∧ (n.chan ch).out = ⟨.on, 0, 0⟩) :=
  Effect.of_load_event (f := fun b => b.inrushEnd ch ma) (fun _ => rfl) fun b n ⟨hst, hend, hma, hlease⟩ hload _ => by
    rw [State.chan_of_load hload, State.inrushEnd_leased hst hend hma hlease, State.chan_setChan_self]
    exact ⟨rfl, rfl⟩

theorem inrushEnd_expired (t : Nat) (ch : Fin 128) (ma : Int) :
    Effect t (.inrushEnd t ch ma)
      (fun b => (b.chan ch).st = .inrush ∧ (b.chan ch).burstAt + 976562 ≤ b.clk.lt ∧ ma.natAbs < b.inrIlimMa ch
        ∧ (b.chan ch).lease = .expired)
      (fun _ n => (n.chan ch).st = .leaseSafe ∧ (n.chan ch).cause = 7) :=
  Effect.of_load_event (f := fun b => b.inrushEnd ch ma) (fun _ => rfl) fun b n ⟨hst, hend, hma, hlease⟩ hload _ => by
    rw [State.chan_of_load hload, State.inrushEnd_expired hst hend hma hlease]
    exact b.enterLeaseSafe_chan ch (b.effCmd ch).1

/-- Settles O5, by the ways a burst at ILIM goes on and the ends of a pause and of an inrush. -/
theorem inrushBursts : Obligations.InrushBursts := by
  unfold Obligations.InrushBursts
  exact ⟨currentLimitTrip_counted, currentLimitTrip_inWindow, retryWaitEnd_due, inrushEnd_leased, inrushEnd_expired⟩


/-! ## The off-state check (R72)

A check goes over the channels in order and marks each that takes part. That a channel is marked makes no interrogation
of its bank the next one: the channel whose interrogation is next takes no part, and stays the next. -/

/-- The channel takes part in an off-state check that begins now. -/
def State.takesOffCheck (s : State) (c : Nat) : Bool :=
  (s.chan c).st == .off && s.cfgB (R.LSC_PROT c) 12 && (s.lbank (c / 32)).interrog != some c && !s.tagNext c

def State.startOffCheck (s : State) (c : Nat) : State :=
  if s.takesOffCheck c then s.setChan c { s.chan c with olCheck := true } else s

/-- The state with other channels. -/
def State.setChans (s : State) (m : KMap Chan) : State := { s with load := { s.load with chans := m } }

/-- `m` is `s` with the off-state check begun in the channels below `n`. -/
def State.OffChecked (s : State) (n : Nat) (m : State) : Prop :=
  m = s.setChans m.load.chans ∧
    ∀ c, m.chan c = if c < n ∧ s.takesOffCheck c = true then { s.chan c with olCheck := true } else s.chan c

section
variable {s m : State} {n : Nat} (h : s.OffChecked n m)
include h

theorem State.OffChecked.lbank (b : Nat) : m.lbank b = s.lbank b := by
  obtain ⟨hsame, -⟩ := h
  rw [hsame]
  rfl

theorem State.OffChecked.cfgB (a k : Nat) : m.cfgB a k = s.cfgB a k := by
  obtain ⟨hsame, -⟩ := h
  rw [hsame]
  rfl

theorem State.OffChecked.tagReady (c : Nat) :
    m.tagReady c = (s.tagReady c && !(decide (c < n) && s.takesOffCheck c)) := by
  obtain ⟨hsame, hchan⟩ := h
  have hon : m.load.clockOn = s.load.clockOn := by rw [hsame]; rfl
  have hreg : m.regB (R.LSC_ID_CFG c) 1 = s.regB (R.LSC_ID_CFG c) 1 := by rw [hsame]; rfl
  unfold State.tagReady
  dsimp only
  rw [hchan, hon, hreg]
  by_cases hmark : c < n ∧ s.takesOffCheck c = true
  · simp [hmark]
  · rw [if_neg hmark]
    have hfree : (decide (c < n) && s.takesOffCheck c) = false := by simpa using hmark
    simp [hfree]

/-- In a bank that interrogates nothing, the check marks no ready channel before it has passed a lower ready one. -/
theorem State.OffChecked.any_tagReady (b k : Nat) (hk : k ≤ 32) (hidle : (s.lbank b).interrog = none) :
    (List.range k).any (fun i => m.tagReady (b * 32 + i)) = (List.range k).any (fun i => s.tagReady (b * 32 + i)) := by
  induction k with
  | zero => rfl
  | succ k ih =>
    rw [List.range_succ, List.any_append, List.any_append, ih (by omega)]
    cases hlower : (List.range k).any (fun i => s.tagReady (b * 32 + i)) with
    | true => rfl
    | false =>
      have hkeep : m.tagReady (b * 32 + k) = s.tagReady (b * 32 + k) := by
        rw [h.tagReady]
        cases hready : s.tagReady (b * 32 + k) with
        | false => rfl
        | true =>
          have hdiv : (b * 32 + k) / 32 = b := by omega
          have hmod : (b * 32 + k) % 32 = k := by omega
          have hnext : s.tagNext (b * 32 + k) = true := by
            unfold State.tagNext
            rw [hdiv, hmod, hidle, hready, hlower]
            rfl
          have hskips : s.takesOffCheck (b * 32 + k) = false := by
            rw [State.takesOffCheck, hnext]
            exact Bool.and_false _
          rw [hskips, Bool.and_false]
          rfl
      simp only [List.any_cons, List.any_nil, hkeep]

theorem State.OffChecked.tagNext : m.tagNext n = s.tagNext n := by
  unfold State.tagNext
  rw [h.lbank, h.tagReady]
  cases hidle : (s.lbank (n / 32)).interrog with
  | none => rw [h.any_tagReady _ _ (by omega) hidle]; simp
  | some c => rfl

theorem State.OffChecked.takesOffCheck : m.takesOffCheck n = s.takesOffCheck n := by
  have hchan : m.chan n = s.chan n := (h.2 n).trans (if_neg (by omega))
  unfold State.takesOffCheck
  rw [hchan, h.cfgB, h.lbank, h.tagNext]

theorem State.OffChecked.succ : s.OffChecked (n + 1) (m.startOffCheck n) := by
  have hchan : m.chan n = s.chan n := (h.2 n).trans (if_neg (by omega))
  unfold State.startOffCheck
  rw [h.takesOffCheck, hchan]
  obtain ⟨hsame, hchans⟩ := h
  split
  next htakes =>
    refine ⟨by rw [hsame]; rfl, fun c => ?_⟩
    by_cases hc : c = n
    · subst hc
      rw [State.chan_setChan_self, if_pos ⟨Nat.lt_succ_self c, htakes⟩]
    · rw [State.chan_setChan_ne _ _ _ _ hc, hchans]
      simp only [show c < n + 1 ↔ c < n by omega]
  next hskips =>
    refine ⟨hsame, fun c => (hchans c).trans ?_⟩
    by_cases hc : c = n
    · subst hc
      simp [hskips]
    · simp only [show c < n + 1 ↔ c < n by omega]

end

theorem State.foldl_startOffCheck (s : State) (n : Nat) : s.OffChecked n ((List.range n).foldl State.startOffCheck s) := by
  induction n with
  | zero => exact ⟨rfl, fun c => (if_neg (by omega)).symm⟩
  | succ n ih =>
    rw [List.range_succ, List.foldl_append, List.foldl_cons, List.foldl_nil]
    exact ih.succ

theorem State.olCheckStart_due {s : State} (hon : s.load.clockOn = true) (hsteps : s.load.steps ≠ 0)
    (hslot : s.load.steps % 1024 = 0) :
    ∃ m, s.OffChecked 128 m ∧ s.olCheckStart = { m with load := { m.load with olAt := m.clk.lt } } :=
  ⟨(List.range 128).foldl State.startOffCheck s, s.foldl_startOffCheck 128, by
    unfold State.olCheckStart
    rw [if_pos (by simp [hon, hsteps, hslot])]
    generalize List.range 128 = l
    rfl⟩

/-- The output of a channel reads 3.5 V or more. -/
def State.readsOpen (s : State) (c : Nat) : Bool := 350 ≤ signed 16 (s.regF (R.LSC_VOUT c) 15 0)

/-- The off-state check of one channel ends. -/
def State.endOffCheck (s : State) (c : Nat) : State :=
  let ch := s.chan c
  if ch.olCheck then
    let onset := s.readsOpen c && !ch.olOff
    let s' := s.setChan c { ch with
      olCheck := false, olOff := s.readsOpen c
      tagPending := ch.tagPending || (ch.olOff && !s.readsOpen c && s.regB (R.LSC_ID_CFG c) 1)
      acc := { ch.acc with olOnsets := ch.acc.olOnsets + onset.toNat } }
    s'.raiseIf onset (lscPage c) 8
  else s

theorem State.olCheckEnd_due {s : State} (hon : s.load.clockOn = true) (hend : s.load.olAt + 2000000 ≤ s.clk.lt) :
    s.olCheckEnd = (List.range 128).foldl State.endOffCheck s := by
  unfold State.olCheckEnd
  rw [if_neg (by simp [hon, hend])]
  rfl

theorem State.endOffCheck_vout (s : State) (c : Nat) (d : Fin 128) :
    (s.endOffCheck d).reg (R.LSC_VOUT c) = s.reg (R.LSC_VOUT c) := by
  unfold State.endOffCheck
  dsimp only
  split
  · exact State.raiseIf_reg_ne _ _ _ _ _ (lscVout_ne_evtStatus c d)
  · rfl

theorem State.endOffCheck_chan_ne (s : State) (c d : Nat) (h : c ≠ d) : (s.endOffCheck d).chan c = s.chan c := by
  unfold State.endOffCheck
  dsimp only
  split
  · rw [State.raiseIf_chan, State.chan_setChan_ne _ _ _ _ h]
  · rfl

theorem State.endOffCheck_chan (s : State) (c : Nat) (h : (s.chan c).olCheck = true) :
    ((s.endOffCheck c).chan c).olCheck = false ∧ ((s.endOffCheck c).chan c).olOff = s.readsOpen c := by
  unfold State.endOffCheck
  dsimp only
  rw [if_pos h, State.raiseIf_chan, State.chan_setChan_self]
  exact ⟨rfl, rfl⟩

theorem State.endOffCheck_unchecked (s : State) (c : Nat) (h : ¬ (s.chan c).olCheck = true) : s.endOffCheck c = s := by
  unfold State.endOffCheck
  exact if_neg h

/-- `m` is a state after `s` in which the off-state check has ended in the channels below `n`. -/
def State.OffCheckEnded (s : State) (n : Nat) (m : State) : Prop :=
  (∀ c, m.reg (R.LSC_VOUT c) = s.reg (R.LSC_VOUT c)) ∧
    ∀ c, if c < n ∧ (s.chan c).olCheck = true then (m.chan c).olCheck = false ∧ (m.chan c).olOff = s.readsOpen c
      else m.chan c = s.chan c

theorem State.OffCheckEnded.succ {s m : State} {n : Nat} (h : s.OffCheckEnded n m) (hn : n < 128) :
    s.OffCheckEnded (n + 1) (m.endOffCheck n) := by
  obtain ⟨hvout, hchan⟩ := h
  refine ⟨fun c => (m.endOffCheck_vout c ⟨n, hn⟩).trans (hvout c), fun c => ?_⟩
  have hc := hchan c
  by_cases hcn : c = n
  · subst hcn
    rw [if_neg (by omega)] at hc
    have hopen : m.readsOpen c = s.readsOpen c := by
      unfold State.readsOpen State.regF
      rw [hvout]
    rw [← hc, ← hopen]
    split
    next hmark => exact m.endOffCheck_chan c hmark.2
    next hmark => rw [m.endOffCheck_unchecked c (fun hcheck => hmark ⟨Nat.lt_succ_self c, hcheck⟩)]
  · rw [m.endOffCheck_chan_ne c n hcn]
    simpa only [show c < n + 1 ↔ c < n by omega] using hc

theorem State.foldl_endOffCheck (s : State) (n : Nat) (hn : n ≤ 128) :
    s.OffCheckEnded n ((List.range n).foldl State.endOffCheck s) := by
  induction n with
  | zero => exact ⟨fun _ => rfl, fun c => by rw [if_neg (by omega)]; rfl⟩
  | succ n ih =>
    rw [List.range_succ, List.foldl_append, List.foldl_cons, List.foldl_nil]
    exact (ih (by omega)).succ (by omega)

theorem olOffCheckStart_due (t : Nat) :
    Effect t (.olOffCheckStart t)
      (fun b => b.load.clockOn = true ∧ b.load.steps ≠ 0 ∧ b.load.steps % 1024 = 0)
      (fun b n => ∀ c : Fin 128, n.chan c = if (b.chan c).st = .off ∧ b.cfgB (R.LSC_PROT c) 12 = true ∧
        (b.lbank (c / 32)).interrog ≠ some c.val ∧ b.tagNext c = false then { b.chan c with olCheck := true }
        else b.chan c) :=
  Effect.of_load_event (f := State.olCheckStart) (fun _ => rfl) fun b n ⟨hon, hsteps, hslot⟩ hload _ c => by
    obtain ⟨m, ⟨-, hchan⟩, hrun⟩ := State.olCheckStart_due hon hsteps hslot
    rw [State.chan_of_load hload, hrun]
    refine (hchan c).trans ?_
    simp [State.takesOffCheck, c.isLt, and_assoc]

theorem olOffCheckEnd_due (t : Nat) :
    Effect t (.olOffCheckEnd t) (fun b => b.load.clockOn = true ∧ b.load.olAt + 2000000 ≤ b.clk.lt)
      (fun b n => ∀ c : Fin 128, if (b.chan c).olCheck = true then (n.chan c).olCheck = false
        ∧ ((n.chan c).olOff = true ↔ 350 ≤ signed 16 (b.regF (R.LSC_VOUT c) 15 0)) else n.chan c = b.chan c) :=
  Effect.of_load_event (f := State.olCheckEnd) (fun _ => rfl) fun b n ⟨hon, hend⟩ hload _ c => by
    obtain ⟨-, hchan⟩ := b.foldl_endOffCheck 128 (Nat.le_refl 128)
    have hc := hchan c
    simp only [c.isLt, true_and] at hc
    rw [State.chan_of_load hload, State.olCheckEnd_due hon hend]
    split at hc
    next hcheck =>
      rw [if_pos hcheck, hc.2]
      exact ⟨hc.1, decide_eq_true_iff⟩
    next hcheck =>
      rw [if_neg hcheck]
      exact hc

/-! ## Back-feed (R74, R75) -/

theorem backfedEntry_off (t : Nat) (ch : Fin 128) (vout : Int) :
    Effect t (.backfedEntry t ch vout) (fun b => (b.chan ch).st = .off ∧ 800 ≤ vout)
      (fun b n => (n.chan ch).st = .backfed ∧ (n.chan ch).cause = (b.chan ch).cause ∧ (n.chan ch).out = (b.chan ch).out
        ∧ n.regB (R.EVT_STATUS (lscPage ch)) 11 = true) :=
  Effect.of_load_event (f := fun b => b.backfedIn ch vout) (fun _ => rfl) fun b n ⟨hst, hvout⟩ hload hreg => by
    have hrun : b.backfedIn ch vout = (b.moveChan ch { b.chan ch with st := .backfed }).raise (lscPage ch) 11 := by
      simp [State.backfedIn, hst, hvout]
    obtain ⟨_, _, _, _, _, hmove⟩ := b.moveChan_chan ch { b.chan ch with st := .backfed }
    rw [State.chan_of_load hload, State.regB, hreg _ (not_dropRegs (evtStatus_lscPage_bounds ch).2), hrun,
      State.raise_chan, hmove]
    exact ⟨rfl, rfl, rfl, State.raise_sets _ _ 11 (by decide)⟩

theorem backfedExit_low (t : Nat) (ch : Fin 128) (vout : Int) :
    Effect t (.backfedExit t ch vout) (fun b => (b.chan ch).st = .backfed ∧ vout < 600)
      (fun b n => n.chan ch = { b.chan ch with st := .off }) :=
  Effect.of_load_event (f := fun b => b.backfedOut ch vout) (fun _ => rfl) fun b n ⟨hst, hvout⟩ hload _ => by
    have hrun : b.backfedOut ch vout = b.setChan ch { b.chan ch with st := .off } := by
      simp [State.backfedOut, hst, hvout]
    rw [State.chan_of_load hload, hrun, State.chan_setChan_self]

/-! ## Close permission (R76) -/

/-- A closing that is permitted waits no longer; the commands and the configuration stay. -/
def State.stopWaiting (s : State) (c : Nat) : State := s.setChan c { s.chan c with closeWait := false }

@[simp] theorem State.stopWaiting_chan (s : State) (c : Nat) :
    (s.stopWaiting c).chan c = { s.chan c with closeWait := false } := State.chan_setChan_self s c _

@[simp] theorem State.stopWaiting_inrEn (s : State) (c d : Nat) : (s.stopWaiting c).inrEn d = s.inrEn d := rfl

@[simp] theorem State.stopWaiting_effCmd (s : State) (c : Nat) : (s.stopWaiting c).effCmd c = s.effCmd c := by
  have hchan := s.stopWaiting_chan c
  unfold State.effCmd State.gwCmd
  dsimp only
  rw [hchan]
  rfl

@[simp] theorem State.stopWaiting_wantsOn (s : State) (c : Nat) : (s.stopWaiting c).wantsOn c = s.wantsOn c := by
  unfold State.wantsOn
  rw [State.stopWaiting_chan, State.stopWaiting_effCmd]

/-- A channel in CLOSE_WAIT closes for its command when it is to conduct and no period boundary is to come first. -/
theorem State.closePermitted_closes {s : State} {c : Nat} {vout : Int} {mv : Nat} (hwait : (s.chan c).closeWait = true)
    (hvout : vout * 10 ≤ (mv : Int) + 1000) (hon : s.wantsOn c = true) (hpwm : (s.chan c).st ≠ .pwm)
    (hsafe : (s.chan c).st = .leaseSafe → (s.chan c).safePending = false)
    (hcmd : s.inrEn c = true ∨ (s.effCmd c).1.mode ≠ .pwm) :
    s.closePermitted c vout mv = (s.stopWaiting c).closeFor c (s.effCmd c).1 ((s.chan c).lease == .expired) := by
  have hrun : s.closePermitted c vout mv =
      if (s.stopWaiting c).wantsOn c && !((s.chan c).st == .pwm || ((s.chan c).st == .leaseSafe && (s.chan c).safePending) ||
        (((s.chan c).st == .off || (s.chan c).st == .backfed) && !((s.chan c).lease == .expired) &&
          (s.effCmd c).1.mode == .pwm && !(s.stopWaiting c).inrEn c))
      then (s.stopWaiting c).closeFor c (s.effCmd c).1 ((s.chan c).lease == .expired) else s.stopWaiting c :=
    if_pos (by simp [hwait, hvout])
  rw [hrun, State.stopWaiting_wantsOn, State.stopWaiting_inrEn, hon]
  refine if_pos ?_
  have hpending : ((s.chan c).st == .leaseSafe && (s.chan c).safePending) = false := by
    cases hst : (s.chan c).st == .leaseSafe with
    | false => rfl
    | true => exact hsafe (by simpa using hst)
  rcases hcmd with hinr | hmode
  · simp [hpwm, hpending, hinr]
  · simp [hpwm, hpending, hmode]

/-- Without inrush, a channel that is to be ON takes that state. -/
theorem State.closeFor_on {s : State} {c : Nat} {cmd : Cmd} (hinr : s.inrEn c = false) (hmode : cmd.mode = .on) :
    ((s.closeFor c cmd false).chan c).st = .on ∧ ((s.closeFor c cmd false).chan c).closeWait = false := by
  obtain ⟨_, _, _, _, _, hmove⟩ := s.moveChan_chan c
    (({ s.chan c with closeWait := false, safePending := false, pulses := [], pulseOn := false
                      st := .on, out := cmd } : Chan).countClosing s.clk.lt)
  have hrun : s.closeFor c cmd false = s.moveChan c
      (({ s.chan c with closeWait := false, safePending := false, pulses := [], pulseOn := false
                        st := .on, out := cmd } : Chan).countClosing s.clk.lt) := by
    simp [State.closeFor, hinr, hmode]
  rw [hrun, hmove]
  exact ⟨rfl, rfl⟩

theorem State.enterInrush_chan (s : State) (c : Nat) : ((s.enterInrush c).chan c).st = .inrush
    ∧ ((s.enterInrush c).chan c).used = 0 ∧ ((s.enterInrush c).chan c).burstAt = s.clk.lt
    ∧ ((s.enterInrush c).chan c).closeWait = false := by
  obtain ⟨_, _, _, _, _, hmove⟩ := s.moveChan_chan c
    (({ s.chan c with st := .inrush, used := 0, exempt := 0, burstAt := s.clk.lt, out := ⟨.on, 0, 0⟩
                      closeWait := false, safePending := false, pulses := [], pulseOn := false } : Chan).countClosing
      s.clk.lt)
  unfold State.enterInrush
  dsimp only
  rw [hmove]
  exact ⟨rfl, rfl, rfl, rfl⟩

theorem State.closeFor_inrush {s : State} {c : Nat} (cmd : Cmd) (expired : Bool) (hinr : s.inrEn c = true) :
    s.closeFor c cmd expired = s.enterInrush c := by
  unfold State.closeFor
  exact if_pos hinr

theorem closePermitted_on (t : Nat) (ch : Fin 128) (vout : Int) (mv : Nat) :
    Effect t (.closePermitted t ch vout mv)
      (fun b => (b.chan ch).closeWait = true ∧ vout * 10 ≤ (mv : Int) + 1000 ∧ (b.effCmd ch).1.mode = .on
        ∧ b.inrEn ch = false ∧ (b.chan ch).lease ≠ .expired ∧ (b.chan ch).st ≠ .pwm
        ∧ ((b.chan ch).st = .leaseSafe → (b.chan ch).safePending = false))
      (fun _ n => (n.chan ch).st = .on ∧ (n.chan ch).closeWait = false) :=
  Effect.of_load_event (f := fun b => b.closePermitted ch vout mv) (fun _ => rfl)
    fun b n ⟨hwait, hvout, hmode, hinr, hlease, hpwm, hsafe⟩ hload _ => by
    have hon : b.wantsOn ch = true := by simp [State.wantsOn, hlease, Cmd.conducts, hmode]
    have hleased : ((b.chan ch).lease == .expired) = false := by simpa using hlease
    rw [State.chan_of_load hload, State.closePermitted_closes hwait hvout hon hpwm hsafe (.inr (by simp [hmode])), hleased]
    exact State.closeFor_on hinr hmode

theorem closePermitted_inrush (t : Nat) (ch : Fin 128) (vout : Int) (mv : Nat) :
    Effect t (.closePermitted t ch vout mv)
      (fun b => (b.chan ch).closeWait = true ∧ vout * 10 ≤ (mv : Int) + 1000 ∧ b.wantsOn ch = true
        ∧ (b.chan ch).st = .off ∧ b.inrEn ch = true)
      (fun b n => (n.chan ch).st = .inrush ∧ (n.chan ch).used = 0 ∧ (n.chan ch).burstAt = b.clk.lt
        ∧ (n.chan ch).closeWait = false) :=
  Effect.of_load_event (f := fun b => b.closePermitted ch vout mv) (fun _ => rfl)
    fun b n ⟨hwait, hvout, hon, hst, hinr⟩ hload _ => by
    rw [State.chan_of_load hload, State.closePermitted_closes hwait hvout hon (by simp [hst]) (by simp [hst]) (.inl hinr),
      State.closeFor_inrush (s := b.stopWaiting ch) _ _ hinr]
    exact (b.stopWaiting ch).enterInrush_chan ch

theorem closePermitted_waits (t : Nat) (ch : Fin 128) (vout : Int) (mv : Nat) :
    Effect t (.closePermitted t ch vout mv) (fun _ => (mv : Int) + 1000 < vout * 10)
      (fun b n => n.chan ch = b.chan ch) :=
  Effect.of_load_event (f := fun b => b.closePermitted ch vout mv) (fun _ => rfl) fun b n hvout hload _ => by
    have hrun : b.closePermitted ch vout mv = b := if_neg (by simp [hvout])
    rw [State.chan_of_load hload, hrun]

/-! ## Acknowledgement (R61, R82) -/

theorem State.tripAck_resp (s : State) (c : Nat) : (s.tripAck c).resp = s.resp := by
  unfold State.tripAck
  dsimp only
  split
  · split <;> rfl
  · rfl

theorem State.unlock_resp (s : State) (c part key : Nat) : (s.unlock c part key).resp = s.resp := by
  unfold State.unlock
  split <;> rfl

theorem tripAck_tripped (a : Acc) (ch : Fin 128) :
    WriteEffect a (R.LSC_TRIP_ACK ch) (.tripAck a ch) (fun b => (b.chan ch).st = .tripped)
      (fun b n => n.chan ch = if b.ackOk ch then { b.chan ch with st := .off, ackRefused := false }
        else { b.chan ch with ackRefused := true }) :=
  WriteEffect.of_chan_write (f := fun b => b.tripAck ch) (fun _ => rfl) (fun s => s.tripAck_resp ch)
    fun b n hst hload => by
    have hrun : b.done.tripAck ch = if b.ackOk ch then b.done.setChan ch { b.chan ch with st := .off, ackRefused := false }
        else b.done.setChan ch { b.chan ch with ackRefused := true } := if_pos (beq_iff_eq.mpr hst)
    rw [State.chan_of_load hload, hrun]
    split <;> exact State.chan_setChan_self _ _ _

theorem unlock_key (a : Acc) (ch : Fin 128) (key : Byte) :
    WriteEffect a (R.LSC_TRIP_ACK ch) (.unlock a ch key) (fun _ => True)
      (fun b n => n.chan ch = if State.accPart a = 0 ∧ key = 0x5A then { b.chan ch with lockout := false, scTrips := [] }
        else { b.chan ch with ackRefused := true }) :=
  WriteEffect.of_chan_write (f := fun b => b.unlock ch (State.accPart a) key.toNat) (fun _ => rfl)
    (fun s => s.unlock_resp ch _ _) fun b n _ hload => by
    have hgranted : unlockGranted (State.accPart a) key.toNat = true ↔ State.accPart a = 0 ∧ key = 0x5A := by
      simp [unlockGranted, BitVec.toNat_eq]
    rw [State.chan_of_load hload]
    unfold State.unlock
    simp only [hgranted]
    split <;> exact State.chan_setChan_self _ _ _

/-- Settles O7, clause by clause: off-state check, back-feed, close permission, acknowledgement. -/
theorem openLoadAndBackfeed : Obligations.OpenLoadAndBackfeed := by
  unfold Obligations.OpenLoadAndBackfeed
  exact ⟨olOffCheckStart_due, olOffCheckEnd_due, backfedEntry_off, backfedExit_low, closePermitted_on,
    closePermitted_inrush, closePermitted_waits, tripAck_tripped, unlock_key⟩

end Sys2Proof.Machine

namespace Sys2Proof.Machine

/-! ## How a command of the sensing inputs ends

What a command does to the inputs stands in the state it ends in, and what it does to registers too, but for those in
which an offer to the gateway that is dropped shows. -/

theorem Effect.of_input_event {t : Nat} {c : Instr} {f : State → State} {pre : State → Prop}
    {post : State → State → Prop} (hx : ∀ s, exec c s = eventAt t f s)
    (hp : ∀ b n : State, pre b → n.inputs = (f b).inputs → (∀ x ∉ dropRegs, n.reg x = (f b).reg x) → post b n) :
    Effect t c pre post :=
  Effect.of_event hx fun _ b hb => hp b _ hb ((f b).offerChans_inputs b) fun _ hreg => State.offerChans_reg hreg (f b) b

@[simp] theorem State.gwOfferValue_inputs (s : State) (kind num v : Nat) : (s.gwOfferValue kind num v).inputs = s.inputs :=
  s.gwOffer_inputs _

theorem State.gwOfferValue_reg (s : State) (kind num v : Nat) {x : Nat} (hx : x ∉ dropRegs) :
    (s.gwOfferValue kind num v).reg x = s.reg x :=
  s.gwOffer_reg hx _

section
variable {s n : State} (h : n.inputs = s.inputs) (k : Nat)
include h

theorem State.ain_of_inputs : n.ain k = s.ain k := by unfold State.ain; rw [h]
theorem State.din_of_inputs : n.din k = s.din k := by unfold State.din; rw [h]
theorem State.fin_of_inputs : n.fin k = s.fin k := by unfold State.fin; rw [h]
theorem State.ssup_of_inputs : n.ssup k = s.ssup k := by unfold State.ssup; rw [h]
theorem State.win_of_inputs : n.win k = s.win k := by unfold State.win; rw [h]

end

@[simp] theorem State.ain_setAin_self (s : State) (k : Nat) (x : Ain) : (s.setAin k x).ain k = x :=
  KMap.get_put_self s.inputs.ain {} k x

@[simp] theorem State.din_setDin_self (s : State) (k : Nat) (x : Din) : (s.setDin k x).din k = x :=
  KMap.get_put_self s.inputs.din {} k x

@[simp] theorem State.fin_setFin_self (s : State) (k : Nat) (x : Fin') : (s.setFin k x).fin k = x :=
  KMap.get_put_self s.inputs.fin {} k x

@[simp] theorem State.ssup_setSsup_self (s : State) (k : Nat) (x : Ssup) : (s.setSsup k x).ssup k = x :=
  KMap.get_put_self s.inputs.ssup {} k x

@[simp] theorem State.win_setWin_self (s : State) (k : Nat) (x : Win) : (s.setWin k x).win k = x :=
  KMap.get_put_self s.inputs.win {} k x

/-! ## Where the registers of the sensing inputs lie (R128, R139)

The INP pages hold registers that no other block of the module writes. -/

/-- The addresses of the INP pages. -/
def inpAddr (x : Nat) : Prop := 0x40038000 ≤ x ∧ x < 0x4003C000

theorem inpAddr_not_dropRegs {x : Nat} (h : inpAddr x) : x ∉ dropRegs := by
  have hdrop : dropRegs = [0x400B0054, 0x400B0010] := by decide
  obtain ⟨hlo, hhi⟩ := h
  simp only [hdrop, List.mem_cons, List.not_mem_nil, or_false]
  omega

theorem evtStatus_inpPage (j : Fin 4) : R.EVT_STATUS (inpPage j) = 0x40038010 + 0x1000 * j.val := by
  revert j
  decide

theorem inpAddr_evtStatus (j : Fin 4) : inpAddr (R.EVT_STATUS (inpPage j)) := by
  rw [evtStatus_inpPage]
  unfold inpAddr
  omega

theorem not_inpAddr_evtStatus_canPage (c : Fin 16) : ¬ inpAddr (R.EVT_STATUS (canPage c)) := by
  have hpage : ∀ c : Fin 16, R.EVT_STATUS (canPage c) < 0x40038000 ∨ 0x4003C000 ≤ R.EVT_STATUS (canPage c) := by decide
  intro ⟨hlo, hhi⟩
  have := hpage c
  omega

theorem not_inpAddr_evtStatus_qmgrPage : ¬ inpAddr (R.EVT_STATUS qmgrPage) := by
  unfold inpAddr
  decide

theorem not_inpAddr_evtStatus_pwrPage : ¬ inpAddr (R.EVT_STATUS pwrPage) := by
  unfold inpAddr
  decide

/-! ## What leaves the sensing inputs alone -/

/-- The inputs and the registers of the INP pages are the same in two states. -/
structure State.KeepsInputs (s n : State) : Prop where
  inputs : n.inputs = s.inputs
  reg : ∀ x, inpAddr x → n.reg x = s.reg x

namespace State.KeepsInputs

theorem refl (s : State) : s.KeepsInputs s := ⟨rfl, fun _ _ => rfl⟩

theorem trans {a b c : State} (h : a.KeepsInputs b) (h' : b.KeepsInputs c) : a.KeepsInputs c :=
  ⟨h'.inputs.trans h.inputs, fun x hx => (h'.reg x hx).trans (h.reg x hx)⟩

theorem of_regs {s n : State} (hi : n.inputs = s.inputs) (hr : n.regs = s.regs) : s.KeepsInputs n :=
  ⟨hi, fun x _ => State.reg_of_regs hr x⟩

theorem foldl {α : Type} {f : State → α → State} (h : ∀ (s : State) x, s.KeepsInputs (f s x)) (l : List α) (s : State) :
    s.KeepsInputs (l.foldl f s) := by
  induction l generalizing s with
  | nil => exact refl s
  | cons a t ih => exact (h s a).trans (ih _)

theorem ite {s a b : State} {p : Prop} [Decidable p] (ha : s.KeepsInputs a) (hb : s.KeepsInputs b) :
    s.KeepsInputs (if p then a else b) := by
  split
  · exact ha
  · exact hb

theorem when {s : State} {f : State → State} (p : Bool) (h : ∀ s : State, s.KeepsInputs (f s)) :
    s.KeepsInputs (s.when p f) :=
  ite (h s) (refl s)

section
variable (s : State) {x : Nat} (hx : ¬ inpAddr x)
include hx

theorem setReg (w : Word) : s.KeepsInputs (s.setReg x w) :=
  ⟨rfl, fun y hy => s.reg_setReg_ne x y w fun e => hx (e ▸ hy)⟩

theorem putF (hi lo v : Nat) : s.KeepsInputs (s.putF x hi lo v) := setReg s hx _
theorem addF (hi lo v : Nat) : s.KeepsInputs (s.addF x hi lo v) := setReg s hx _

end

section
variable (s : State) {i : Nat} (hi : ¬ inpAddr (R.EVT_STATUS i))
include hi

theorem raise (k : Nat) : s.KeepsInputs (s.raise i k) :=
  ⟨s.raise_inputs i k, fun x hx => s.raise_reg_ne i k x fun e => hi (e ▸ hx)⟩

theorem raiseIf (p : Bool) (k : Nat) : s.KeepsInputs (s.raiseIf p i k) := ite (raise s hi k) (refl s)

end

/-! ### The cell pool (R210 to R217, R224) -/

theorem writeBytes (s : State) (a : Nat) (l : List Byte) : s.KeepsInputs (s.writeBytes a l) := by
  induction l generalizing s a with
  | nil => exact refl s
  | cons b t ih => exact (of_regs rfl rfl : s.KeepsInputs (s.setByte a b)).trans (ih _ _)

theorem storeCell (s : State) (i off : Nat) (l : List Byte) : s.KeepsInputs (s.storeCell i off l) :=
  ite (writeBytes s _ l) (refl s)

theorem freeCells (s : State) (l : List Nat) : s.KeepsInputs (s.freeCells l) := by
  refine foldl (fun _ _ => ?_) l s
  exact of_regs rfl rfl

theorem noteFree (s : State) : s.KeepsInputs s.noteFree :=
  ite (putF s (x := R.QMGR_FREE_MIN) (by unfold inpAddr; decide) _ _ _) (refl s)

theorem noteLow (s old : State) : s.KeepsInputs (s.noteLow old) :=
  (raiseIf s not_inpAddr_evtStatus_qmgrPage _ _).trans (raiseIf _ not_inpAddr_evtStatus_qmgrPage _ _)

theorem takeFree (s : State) : s.KeepsInputs s.takeFree.2 := of_regs rfl rfl

theorem setQueue (s : State) (q : Nat) (x : Queue) : s.KeepsInputs (s.setQueue q x) := of_regs rfl rfl

theorem takeCell {s n : State} {ext : Bool} {i : Nat} (h : s.takeCell ext = some (i, n)) : s.KeepsInputs n := by
  unfold State.takeCell at h
  split at h
  · exact absurd h (by simp)
  · obtain ⟨-, rfl⟩ := Prod.mk.inj (Option.some.inj h)
    refine .trans (b := State.setPbank _ _ _) ?_ ((noteFree _).trans (noteLow _ s))
    cases ext <;> exact of_regs rfl rfl

theorem dropOpen (s : State) (q w : Nat) (r : WrResult) (gap : Nat) : s.KeepsInputs (s.dropOpen q w r gap) :=
  (freeCells s _).trans (setQueue _ _ _)

theorem dropMsg (s : State) (q w : Nat) (r : WrResult) : s.KeepsInputs (s.dropMsg q w r) :=
  (dropOpen s q w r 1).trans (addF _ (by unfold inpAddr; decide) _ _ _)

theorem appendWord (s : State) (q w part : Nat) (colour : Option Bool) (bytes : List Byte) :
    s.KeepsInputs (s.appendWord q w part colour bytes) := by
  unfold State.appendWord
  extract_lets full t0 s' p
  have hopen : s.KeepsInputs s' := by
    simp only [s']
    split
    · exact refl s
    · exact ite ((setQueue s _ _).trans (dropOpen _ q w _ _)) (setQueue s _ _)
  refine hopen.trans (ite (refl _) (ite (dropOpen _ q w _ _) (ite ?_ ((storeCell _ _ _ _).trans (setQueue _ _ _)))))
  split
  · exact dropMsg _ q w _
  · split
    · exact dropMsg _ q w _
    · next hcell => exact (takeCell hcell).trans ((storeCell _ _ _ _).trans (setQueue _ _ _))

theorem appendBytes (s : State) (q w part : Nat) (colour : Option Bool) (l : List Byte) :
    s.KeepsInputs (s.appendBytes q w part colour l) :=
  foldl (fun s x => appendWord s q w part colour (padTo 4 x)) _ s

theorem releaseFrame (s : State) (f : Nat) (hold : Bool) : s.KeepsInputs (s.releaseFrame f hold) := by
  unfold State.releaseFrame
  split
  · exact refl s
  · exact ite ((freeCells s _).trans (of_regs rfl rfl)) (ite (refl s) ((freeCells s _).trans (of_regs rfl rfl)))

theorem packetCells (s : State) (p : Packet) : s.KeepsInputs (s.packetCells p) := by
  unfold State.packetCells
  split
  · exact freeCells s _
  · exact releaseFrame s _ _

theorem txsLeaves (s : State) (c q : Nat) (p : Packet) (rest : List Packet) : s.KeepsInputs (s.txsLeaves c q p rest) := by
  unfold State.txsLeaves
  refine .trans ?_ (packetCells _ p)
  exact of_regs rfl rfl

theorem txsDrop (s : State) (c n : Nat) : s.KeepsInputs (s.txsDrop c n) := by
  induction n generalizing s with
  | zero => exact refl s
  | succ n ih =>
    unfold State.txsDrop
    split
    · exact refl s
    · exact ite ((txsLeaves s c _ _ _).trans (ih _)) (refl s)

theorem txsSweep (s : State) : s.KeepsInputs s.txsSweep :=
  foldl (fun s c => by
    split
    · exact refl s
    · exact txsDrop s c _) _ s

theorem commitPacket (s : State) (q w last : Nat) : s.KeepsInputs (s.commitPacket q w last) := by
  unfold State.commitPacket
  dsimp only
  split
  · exact setQueue s q _
  · exact ite (setQueue s q _) (ite ((dropOpen s q w _ _).trans (setQueue _ q _))
      ((setQueue s q _).trans ((setQueue _ q _).trans (txsSweep _))))

theorem writePacket (s : State) (q w part : Nat) (colour : Option Bool) (l : List Byte) :
    s.KeepsInputs (s.writePacket q w part colour l).1 := by
  unfold State.writePacket
  split
  · exact refl s
  · exact (appendBytes s q w part colour l).trans (commitPacket _ q w _)

/-! ### Message buffers (R149, R150, R152, R157) -/

section
variable (s : State) (c : Fin 16) (m : Nat)

theorem setMb (x : Mb) : s.KeepsInputs (s.setMb c m x) := of_regs rfl rfl

theorem mbFinal (code : MbCode) : s.KeepsInputs (s.mbFinal c m code) := by
  unfold State.mbFinal
  extract_lets b s1 chan s2 s3
  have hend : s.KeepsInputs s3 :=
    .trans (b := s2) (of_regs rfl rfl) (raiseIf _ (not_inpAddr_evtStatus_canPage c) _ _)
  split
  · exact hend
  · exact hend.trans (setMb _ c m _)

theorem failLate : s.KeepsInputs (s.failLate c m) := (setMb s c m _).trans (mbFinal _ c m _)

theorem mbReplaced (launch : Option (Nat × Bool)) : s.KeepsInputs (s.mbReplaced c m launch) := by
  unfold State.mbReplaced
  refine ite (refl s) (ite (mbFinal s c m _) (ite (refl s) ?_))
  split
  · exact setMb s c m _
  · exact ite (failLate s c m) (setMb s c m _)

theorem mbRequest : s.KeepsInputs (s.mbRequest c m) := by
  unfold State.mbRequest
  refine ite (refl s) ((setMb s c m _).trans (ite (mbFinal _ c m _) ?_))
  split
  · exact setMb _ c m _
  · exact ite (failLate _ c m) (setMb _ c m _)

theorem mbWrite {n : State} {f : KMap Word → KMap Word} {req : Bool} (h : s.mbWrite c m f req = some n) :
    s.KeepsInputs n := by
  unfold State.mbWrite at h
  dsimp only at h
  split at h
  · exact absurd h (by simp)
  · split at h <;> cases h
    · exact setMb s c m _
    · exact (setMb s c m _).trans (mbReplaced _ c m _)
    · exact (setMb s c m _).trans (when req fun s => mbRequest s c m)

end

/-! ### Messages and waking (R341 to R347) -/

theorem zspCan (s : State) (body : List Byte) : s.KeepsInputs (s.zspCan body) := by
  have hc : fld (s.reg R.PWR_ZSP_CAN) 27 24 < 16 := Nat.mod_lt _ (by decide)
  unfold State.zspCan
  extract_lets w c id
  refine ite (refl s) ?_
  cases hwrite : s.mbWrite c (fld w 14 8) (classicWords id body) true with
  | none => exact refl s
  | some n => exact mbWrite s ⟨c, hc⟩ (fld w 14 8) hwrite

theorem zspEth (s : State) (body : List Byte) : s.KeepsInputs (s.zspEth body) :=
  ite (refl s) ((takeFree s).trans (writePacket _ _ _ _ _ _))

theorem zspSend (s : State) (body : List Byte) : s.KeepsInputs (s.zspSend body) :=
  (when _ fun s => zspCan s body).trans (when _ fun s => zspEth s body)

theorem zspAnswer (s : State) (reason : Nat) : s.KeepsInputs (s.zspAnswer reason) :=
  (zspSend s _).trans (ite (of_regs rfl rfl) (of_regs rfl rfl))

theorem zspCheck (s : State) : s.KeepsInputs s.zspCheck := ite (zspAnswer s _) (refl s)

theorem startExit (s : State) : s.KeepsInputs s.startExit :=
  ite (of_regs rfl rfl) (ite (of_regs rfl rfl) (refl s))

theorem zspWake (s : State) (cause orig : WakeCause) (index : Nat) : s.KeepsInputs (s.zspWake cause orig index) := by
  unfold State.zspWake
  extract_lets z lt s1 s2 pair s3 s4
  have hctrl : s.KeepsInputs s2 := .trans (b := s1) (of_regs rfl rfl) (putF _ (by unfold inpAddr; decide) _ _ _)
  have hpair : s2.KeepsInputs s3 := ite (refl _) (of_regs rfl rfl)
  have hlin : s3.KeepsInputs s4 := by
    refine foldl (fun _ _ => ?_) _ _
    exact of_regs rfl rfl
  exact hctrl.trans (hpair.trans (hlin.trans ((startExit _).trans (raise _ not_inpAddr_evtStatus_pwrPage 3))))

theorem wakeRequest (s : State) (cause : WakeCause) (index : Nat) : s.KeepsInputs (s.wakeRequest cause index) := by
  unfold State.wakeRequest
  extract_lets z s1 s2
  have hstart : s.KeepsInputs s2 := .trans (b := s1) (of_regs rfl rfl) (startExit _)
  have hlatch (x : Zsp) : s2.KeepsInputs ((s2.setZsp x).raise pwrPage 4) :=
    .trans (b := s2.setZsp x) (of_regs rfl rfl) (raise _ not_inpAddr_evtStatus_pwrPage 4)
  refine hstart.trans ?_
  cases z.state with
  | awake => exact refl _
  | notReady => exact refl _
  | ready => exact zspCheck _
  | committed => exact ite (refl _) (hlatch _)
  | asleep => exact ite (refl _) (ite (hlatch _) (zspWake _ cause .none index))

end State.KeepsInputs

end Sys2Proof.Machine

namespace Sys2Proof.Machine

/-! ## Analog inputs (R129 to R131) -/

/-- The registers in which supplies are measured. -/
def ssupMeasRegs : List Nat := (List.finRange 8).map (fun k => R.SSUP_MEAS k.val)

theorem inpAddr_ssupMeas {k : Nat} (h : k < 8) : inpAddr (R.SSUP_MEAS k) := by
  unfold inpAddr R.SSUP_MEAS
  omega

theorem ssupMeas_ne_evtStatus (k : Nat) (j : Fin 4) : R.SSUP_MEAS k ≠ R.EVT_STATUS (inpPage j) := by
  rw [evtStatus_inpPage]
  unfold R.SSUP_MEAS
  omega

theorem ainCfg_not_measured (k : Nat) : R.AIN_CFG k ∉ ssupMeasRegs := by
  simp only [ssupMeasRegs, List.mem_map, not_exists, not_and]
  intro m _
  unfold R.AIN_CFG R.SSUP_MEAS
  omega

theorem ainLim_not_measured (k : Nat) : R.AIN_LIM k ∉ ssupMeasRegs := by
  simp only [ssupMeasRegs, List.mem_map, not_exists, not_and]
  intro m _
  unfold R.AIN_LIM R.SSUP_MEAS
  omega

/-- Supplies measured with a sample show in their own registers alone (R127). -/
theorem State.noteSupplies_same (s : State) (l : List SupplyMeas) : ∃ regs, s.noteSupplies l = { s with regs := regs }
    ∧ ∀ x ∉ ssupMeasRegs, (s.noteSupplies l).reg x = s.reg x := by
  unfold State.noteSupplies
  induction l generalizing s with
  | nil => exact ⟨_, rfl, fun _ _ => rfl⟩
  | cons m t ih =>
    obtain ⟨regs, hsame, hreg⟩ := ih (s.setReg (R.SSUP_MEAS m.n) (word (m.mv % 65536 + m.i % 65536 * 65536)))
    refine ⟨regs, hsame, fun x hx => (hreg x hx).trans (s.reg_setReg_ne _ x _ ?_)⟩
    rintro rfl
    exact hx (List.mem_map.mpr ⟨m.n, List.mem_finRange _, rfl⟩)

section
variable (s : State) (l : List SupplyMeas) (k : Nat)

theorem State.noteSupplies_inputs : (s.noteSupplies l).inputs = s.inputs := by
  obtain ⟨_, hsame, -⟩ := s.noteSupplies_same l
  rw [hsame]

@[simp] theorem State.noteSupplies_ain : (s.noteSupplies l).ain k = s.ain k :=
  State.ain_of_inputs (s.noteSupplies_inputs l) k

@[simp] theorem State.noteSupplies_clk : (s.noteSupplies l).clk = s.clk := by
  obtain ⟨_, hsame, -⟩ := s.noteSupplies_same l
  rw [hsame]

@[simp] theorem State.noteSupplies_inputsRun : (s.noteSupplies l).inputsRun = s.inputsRun := by
  obtain ⟨_, hsame, -⟩ := s.noteSupplies_same l
  rw [hsame]
  rfl

@[simp] theorem State.noteSupplies_ainCfg (hi lo : Nat) :
    (s.noteSupplies l).regF (R.AIN_CFG k) hi lo = s.regF (R.AIN_CFG k) hi lo := by
  obtain ⟨_, -, hreg⟩ := s.noteSupplies_same l
  rw [State.regF, hreg _ (ainCfg_not_measured k), State.regF]

@[simp] theorem State.noteSupplies_ainLim (hi lo : Nat) :
    (s.noteSupplies l).regF (R.AIN_LIM k) hi lo = s.regF (R.AIN_LIM k) hi lo := by
  obtain ⟨_, -, hreg⟩ := s.noteSupplies_same l
  rw [State.regF, hreg _ (ainLim_not_measured k), State.regF]

@[simp] theorem State.noteSupplies_ainMode : (s.noteSupplies l).ainMode k = s.ainMode k := by
  simp [State.ainMode]

@[simp] theorem State.noteSupplies_ainSupply : (s.noteSupplies l).ainSupply k = s.ainSupply k := by
  simp [State.ainSupply]

end

/-- The supply that a ratiometric input names is one of the eight. -/
theorem State.ainSupply_lt {s : State} {k : Fin 64} {x : Nat} (h : s.ainSupply k = some x) : x < 8 := by
  unfold State.ainSupply at h
  dsimp only at h
  split at h
  next hratio =>
    have hsource : s.regF (R.AIN_CFG k) 13 12 = 1 ∨ s.regF (R.AIN_CFG k) 13 12 = 2 := by
      simpa using (Bool.and_eq_true_iff.mp hratio).2
    have hx := Option.some.inj h
    omega
  next => exact absurd h (by simp)

/-- The count of an input after a conversion (R130). -/
def State.ainCount (s : State) (k r : Nat) : Nat :=
  if (s.ain k).fresh then r * 256 else filterStep (s.ain k).y r (s.regF (R.AIN_CFG k) 10 8)

/-- A new value below the lower limit, and one above the upper limit, with their hysteresis (R131). -/
def State.ainBelow (s : State) (k v : Nat) : Bool :=
  if v < s.regF (R.AIN_LIM k) 15 0 then true
  else if s.regF (R.AIN_LIM k) 15 0 + s.regF (R.AIN_CFG k) 23 16 ≤ v then false else (s.ain k).below

def State.ainAbove (s : State) (k v : Nat) : Bool :=
  if s.regF (R.AIN_LIM k) 31 16 < v then true
  else if v + s.regF (R.AIN_CFG k) 23 16 ≤ s.regF (R.AIN_LIM k) 31 16 then false else (s.ain k).above

theorem State.ainWindow_ain (s : State) (k v : Nat) : (s.ainWindow k v).ain k = { s.ain k with
    value := v, below := s.ainBelow k v, above := s.ainAbove k v } :=
  (State.ain_of_inputs (State.raiseIf_inputs ..) k).trans (s.ain_setAin_self k _)

theorem State.ainLoop_ain (s : State) (k v : Nat) : ∃ overload fault bad good, (s.ainLoop k v).ain k =
    { s.ain k with overload := overload, loopFault := fault, badRun := bad, goodRun := good } :=
  ⟨_, _, _, _, (State.ain_of_inputs (State.raiseIf_inputs ..) k).trans (s.ain_setAin_self k _)⟩

/-- Only a free value is taken for a value. -/
theorem State.ainValue_same (s : State) (k r : Nat) : ∃ free, (s.ainValue k r).2 = { s with free := free } := by
  unfold State.ainValue
  dsimp only [State.takeFree]
  split
  · split
    · exact ⟨_, rfl⟩
    · split <;> exact ⟨_, rfl⟩
  · exact ⟨_, rfl⟩
  · exact ⟨_, rfl⟩

/-- What follows a conversion to the value `v`: the window, the loop check of a current, and the offer (R131, R140). -/
def State.ainJudge (s : State) (k v : Nat) : State :=
  ((s.ainWindow k v).when ((s.ainWindow k v).ainMode k == 3) (fun s => s.ainLoop k v)).gwOfferValue 3 (2048 + k) v

theorem State.ainJudge_ain (s : State) (k v : Nat) : ∃ overload fault bad good, (s.ainJudge k v).ain k = { s.ain k with
    value := v, below := s.ainBelow k v, above := s.ainAbove k v
    overload := overload, loopFault := fault, badRun := bad, goodRun := good } := by
  have hwindow := s.ainWindow_ain k v
  unfold State.ainJudge State.when
  rw [State.ain_of_inputs (State.gwOfferValue_inputs ..)]
  split
  · obtain ⟨overload, fault, bad, good, hloop⟩ := (s.ainWindow k v).ainLoop_ain k v
    rw [hwindow] at hloop
    exact ⟨overload, fault, bad, good, hloop⟩
  · exact ⟨_, _, _, _, hwindow⟩

/-- Of the registers, it changes the event status of its page and those of an offer that is dropped. -/
theorem State.ainJudge_reg (s : State) (k v : Nat) {x : Nat} (hdrop : x ∉ dropRegs)
    (hevt : x ≠ R.EVT_STATUS (inpPage (k / 16))) : (s.ainJudge k v).reg x = s.reg x := by
  have hwindow : (s.ainWindow k v).reg x = s.reg x := State.raiseIf_reg_ne _ _ _ _ _ hevt
  unfold State.ainJudge State.when
  rw [State.gwOfferValue_reg _ _ _ _ hdrop]
  split
  · exact (State.raiseIf_reg_ne _ _ _ _ _ hevt).trans hwindow
  · exact hwindow

/-- What a conversion with count `y` and value `v` leaves of an analog input. -/
structure State.AinTook (s : State) (k y v : Nat) (x : Ain) : Prop where
  y : x.y = y
  value : x.value = v
  fresh : x.fresh = false
  stale : x.stale = false
  below : x.below = s.ainBelow k v
  above : x.above = s.ainAbove k v

/-- An input converts: it is on, the fabric runs, its burden is connected, and its next period has begun. -/
def State.ainConverts (s : State) (k : Nat) : Prop :=
  s.ainMode k ≠ 0 ∧ s.inputsRun = true ∧ (s.ain k).burdenOff = none ∧ (s.ain k).due ≤ s.clk.lt

/-- An input with the sample of a conversion in it, and its next period set. -/
def State.ainTaken (s : State) (k r : Nat) : Ain :=
  { s.ain k with
    y := s.ainCount k r, fresh := false, stale := false, timer := some ((s.ain k).timer.getD s.clk.lt)
    due := nextPeriod ((s.ain k).timer.getD s.clk.lt) (s.ainPeriod k) s.clk.lt }

section
variable {s : State} {k : Nat} (r : Nat) (h : s.ainConverts k)
include h

theorem State.ainSample_converts : s.ainSample k r =
    ((s.ainValue k (s.ainCount k r / 256)).2.setAin k (s.ainTaken k r)).ainJudge k
      (s.ainValue k (s.ainCount k r / 256)).1 := by
  obtain ⟨hmode, hrun, hburden, hdue⟩ := h
  exact if_neg (by simp [hmode, hrun, hburden, hdue])

theorem State.ainSample_took : s.AinTook k (s.ainCount k r) (s.ainValue k (s.ainCount k r / 256)).1
    ((s.ainSample k r).ain k) := by
  obtain ⟨free, hsame⟩ := s.ainValue_same k (s.ainCount k r / 256)
  obtain ⟨_, _, _, _, hjudge⟩ := (State.setAin { s with free := free } k (s.ainTaken k r)).ainJudge_ain k
    (s.ainValue k (s.ainCount k r / 256)).1
  rw [State.ainSample_converts r h, hsame, hjudge, State.ain_setAin_self]
  refine ⟨rfl, rfl, rfl, rfl, ?_, ?_⟩
  · simp only [State.ainBelow, State.ain_setAin_self]
    rfl
  · simp only [State.ainAbove, State.ain_setAin_self]
    rfl

theorem State.ainSample_reg {x : Nat} (hdrop : x ∉ dropRegs) (hevt : x ≠ R.EVT_STATUS (inpPage (k / 16))) :
    (s.ainSample k r).reg x = s.reg x := by
  obtain ⟨free, hsame⟩ := s.ainValue_same k (s.ainCount k r / 256)
  rw [State.ainSample_converts r h, hsame]
  exact State.ainJudge_reg _ k _ hdrop hevt

end

/-- A conversion, from the count and the value it gives. -/
theorem Effect.of_ainSample {t : Nat} {k : Fin 64} {raw : Fin 16384} {supplies : List SupplyMeas} {pre : State → Prop}
    {post : State → State → Prop} (hc : ∀ b, pre b → b.ainConverts k)
    (hp : ∀ b n : State, pre b →
      b.AinTook k (b.ainCount k raw) ((b.noteSupplies supplies).ainValue k (b.ainCount k raw / 256)).1 (n.ain k) →
      (∀ x < 8, n.reg (R.SSUP_MEAS x) = (b.noteSupplies supplies).reg (R.SSUP_MEAS x)) → post b n) :
    Effect t (.ainSample t k raw supplies) pre post :=
  Effect.of_input_event (f := fun b => (b.noteSupplies supplies).ainSample k raw) (fun _ => rfl)
    fun b n hb hinputs hreg => by
    have hconv : (b.noteSupplies supplies).ainConverts k := by simpa [State.ainConverts] using hc b hb
    have htook := State.ainSample_took raw hconv
    rw [← State.ain_of_inputs hinputs k] at htook
    have hcount : (b.noteSupplies supplies).ainCount k raw = b.ainCount k raw := by simp [State.ainCount]
    rw [hcount] at htook
    refine hp b n hb ?_ fun x hx => ?_
    · exact ⟨htook.y, htook.value, htook.fresh, htook.stale, by simpa [State.ainBelow] using htook.below,
        by simpa [State.ainAbove] using htook.above⟩
    · rw [hreg _ (inpAddr_not_dropRegs (inpAddr_ssupMeas hx))]
      exact State.ainSample_reg raw hconv (inpAddr_not_dropRegs (inpAddr_ssupMeas hx))
        (ssupMeas_ne_evtStatus x ⟨k / 16, by omega⟩)

theorem ainSample_filtered (t : Nat) (k : Fin 64) (raw : Fin 16384) (supplies : List SupplyMeas) :
    Effect t (.ainSample t k raw supplies)
      (fun b => b.ainMode k ≠ 0 ∧ b.inputsRun = true ∧ (b.ain k).burdenOff = none ∧ (b.ain k).due ≤ b.clk.lt)
      (fun b n => (n.ain k).y
          = (if (b.ain k).fresh then raw.val * 256 else filterStep (b.ain k).y raw (b.regF (R.AIN_CFG k) 10 8))
        ∧ (n.ain k).fresh = false ∧ (n.ain k).stale = false
        ∧ (n.ain k).below = (if (n.ain k).value < b.regF (R.AIN_LIM k) 15 0 then true
          else if b.regF (R.AIN_LIM k) 15 0 + b.regF (R.AIN_CFG k) 23 16 ≤ (n.ain k).value then false
          else (b.ain k).below)
        ∧ (n.ain k).above = (if b.regF (R.AIN_LIM k) 31 16 < (n.ain k).value then true
          else if (n.ain k).value + b.regF (R.AIN_CFG k) 23 16 ≤ b.regF (R.AIN_LIM k) 31 16 then false
          else (b.ain k).above)) :=
  Effect.of_ainSample (fun _ hb => hb) fun _ _ _ htook _ => by
    rw [htook.value]
    exact ⟨htook.y, htook.fresh, htook.stale, htook.below, htook.above⟩

theorem State.ainValue_voltage {s : State} {k : Nat} (hmode : s.ainMode k = 1) (hsupply : s.ainSupply k = none) (r : Nat) :
    (s.ainValue k r).1 = r * 32000 / 16384 := by
  simp [State.ainValue, hmode, hsupply]

theorem State.ainValue_ratio {s : State} {k x : Nat} (hmode : s.ainMode k = 1) (hsupply : s.ainSupply k = some x)
    (hmv : s.regF (R.SSUP_MEAS x) 15 0 ≠ 0) (r : Nat) :
    (s.ainValue k r).1 = min 10000 (10000 * r * 32000 / (16384 * s.regF (R.SSUP_MEAS x) 15 0)) := by
  simp [State.ainValue, hmode, hsupply, hmv]

theorem State.ainValue_resistance {s : State} {k : Nat} (hmode : s.ainMode k = 2) (r : Nat) :
    (s.ainValue k r).1 = if 4950 * 16384 ≤ r * 5000 then 65535 else min 65534 (2490 * r / (16384 - r)) := by
  simp [State.ainValue, hmode]

theorem State.ainValue_current {s : State} {k : Nat} (hmode : s.ainMode k = 3) (r : Nat) :
    (s.ainValue k r).1 = r * 40000 / 16384 := by
  simp [State.ainValue, hmode]

theorem ainSample_voltage (t : Nat) (k : Fin 64) (raw : Fin 16384) (supplies : List SupplyMeas) :
    Effect t (.ainSample t k raw supplies)
      (fun b => b.ainMode k = 1 ∧ b.ainSupply k = none ∧ b.inputsRun = true ∧ (b.ain k).burdenOff = none
        ∧ (b.ain k).due ≤ b.clk.lt)
      (fun _ n => (n.ain k).value = (n.ain k).y / 256 * 32000 / 16384) :=
  Effect.of_ainSample (fun _ ⟨hmode, _, hconv⟩ => ⟨by simp [hmode], hconv⟩) fun _ _ ⟨hmode, hsupply, _⟩ htook _ => by
    rw [htook.value, htook.y, State.ainValue_voltage (by simpa using hmode) (by simpa using hsupply)]

theorem ainSample_resistance (t : Nat) (k : Fin 64) (raw : Fin 16384) (supplies : List SupplyMeas) :
    Effect t (.ainSample t k raw supplies)
      (fun b => b.ainMode k = 2 ∧ b.inputsRun = true ∧ (b.ain k).burdenOff = none ∧ (b.ain k).due ≤ b.clk.lt)
      (fun _ n => (n.ain k).value = (if 4950 * 16384 ≤ (n.ain k).y / 256 * 5000 then 65535
        else min 65534 (2490 * ((n.ain k).y / 256) / (16384 - (n.ain k).y / 256)))) :=
  Effect.of_ainSample (fun _ ⟨hmode, hconv⟩ => ⟨by simp [hmode], hconv⟩) fun _ _ ⟨hmode, _⟩ htook _ => by
    rw [htook.value, htook.y, State.ainValue_resistance (by simpa using hmode)]

theorem ainSample_current (t : Nat) (k : Fin 64) (raw : Fin 16384) (supplies : List SupplyMeas) :
    Effect t (.ainSample t k raw supplies)
      (fun b => b.ainMode k = 3 ∧ b.inputsRun = true ∧ (b.ain k).burdenOff = none ∧ (b.ain k).due ≤ b.clk.lt)
      (fun _ n => (n.ain k).value = (n.ain k).y / 256 * 40000 / 16384) :=
  Effect.of_ainSample (fun _ ⟨hmode, hconv⟩ => ⟨by simp [hmode], hconv⟩) fun _ _ ⟨hmode, _⟩ htook _ => by
    rw [htook.value, htook.y, State.ainValue_current (by simpa using hmode)]

theorem ainSample_ratio (t : Nat) (k : Fin 64) (raw : Fin 16384) (supplies : List SupplyMeas) (x : Nat) :
    Effect t (.ainSample t k raw supplies)
      (fun b => b.ainMode k = 1 ∧ b.ainSupply k = some x ∧ b.inputsRun = true ∧ (b.ain k).burdenOff = none
        ∧ (b.ain k).due ≤ b.clk.lt)
      (fun _ n => n.regF (R.SSUP_MEAS x) 15 0 ≠ 0 → (n.ain k).value
        = min 10000 (10000 * ((n.ain k).y / 256) * 32000 / (16384 * n.regF (R.SSUP_MEAS x) 15 0))) :=
  Effect.of_ainSample (fun _ ⟨hmode, _, hconv⟩ => ⟨by simp [hmode], hconv⟩)
    fun _ n ⟨hmode, hsupply, _⟩ htook hmeas hmv => by
    have hreg := hmeas x (State.ainSupply_lt hsupply)
    unfold State.regF at hmv ⊢
    rw [hreg] at hmv ⊢
    rw [htook.value, htook.y]
    exact State.ainValue_ratio (by simpa using hmode) (by simpa using hsupply) hmv _

theorem ainOverload_disconnects (t : Nat) (k : Fin 64) :
    Effect t (.ainOverload t k) (fun b => b.ainMode k = 3 ∧ b.inputsRun = true ∧ (b.ain k).burdenOff = none)
      (fun b n => n.ain k = { b.ain k with burdenOff := some b.clk.lt, overload := true }
        ∧ n.reg (R.EVT_STATUS (33 + k / 16)) = setBit (b.reg (R.EVT_STATUS (33 + k / 16))) 1 true) :=
  Effect.of_input_event (f := fun b => b.ainOverload k) (fun _ => rfl) fun b n ⟨hmode, hrun, hburden⟩ hinputs hreg => by
    have hover : b.ainOverload k = (b.setAin k { b.ain k with burdenOff := some b.clk.lt, overload := true }).raise
        (inpPage (k / 16)) 1 := if_pos (by simp [hmode, hrun, hburden])
    have hevt : inpAddr (R.EVT_STATUS (inpPage (k / 16))) := inpAddr_evtStatus ⟨k / 16, by omega⟩
    refine ⟨?_, ?_⟩
    · rw [State.ain_of_inputs hinputs, hover, State.ain_of_inputs (State.raise_inputs ..), State.ain_setAin_self]
    · refine (hreg _ (inpAddr_not_dropRegs hevt)).trans ?_
      rw [hover, State.raise_reg, if_pos rfl]
      rfl

theorem ainBurdenReconnect_due (t : Nat) (k : Fin 64) :
    Effect t (.ainBurdenReconnect t k)
      (fun b => (b.ain k).burdenOff.any (fun x => x + 1000000000 ≤ b.clk.lt) = true)
      (fun b n => n.ain k = { b.ain k with burdenOff := none }) :=
  Effect.of_input_event (f := fun b => b.ainReconnect k) (fun _ => rfl) fun b n hdue hinputs _ => by
    obtain ⟨x, hoff, hpast⟩ := (Option.any_eq_true _ _).mp hdue
    have hrun : b.ainReconnect k = b.setAin k { b.ain k with burdenOff := none } := by
      unfold State.ainReconnect
      dsimp only
      rw [hoff]
      exact if_pos (of_decide_eq_true hpast)
    rw [State.ain_of_inputs hinputs, hrun, State.ain_setAin_self]


/-! ## Digital inputs (R133, R134) -/

/-- A digital input after a poll has read it, before its state is judged (R133). -/
def State.dinRead (s : State) (k mv : Nat) : Din :=
  { s.din k with
    reading := s.dinReading k mv, timer := some ((s.din k).timer.getD s.clk.lt)
    due := nextPeriod ((s.din k).timer.getD s.clk.lt) (s.dinPeriod k) s.clk.lt }

/-- A change to `v` sets EDGE (R134). -/
def State.dinHit (s : State) (k : Nat) (v : Bool) : Bool :=
  s.regB (if v then R.DIN_RISE_EN (k / 24) else R.DIN_FALL_EN (k / 24)) (k % 24)

theorem State.dinChange_din (s : State) (k : Nat) (v : Bool) : ∃ at_, (s.dinChange k v).din k =
    { s.din k with state := v, count := 0, edge := (s.din k).edge || s.dinHit k v, edgeAt := at_ } := by
  unfold State.dinChange
  extract_lets i j hit d at_ s1 s2 s3
  have hset : s3.din k = { d with state := v, count := 0, edge := d.edge || hit, edgeAt := at_ } := by
    rw [State.din_of_inputs (State.gwOfferValue_inputs s2 _ _ _), State.din_of_inputs (State.raiseIf_inputs s1 _ _ _)]
    exact s.din_setDin_self k _
  have hwake : s3.KeepsInputs (s3.when (hit && s3.regB (R.DIN_WAKE_EN i) j) fun s => s.wakeRequest .digitalInput k) :=
    .when _ fun s => .wakeRequest s .digitalInput k
  exact ⟨at_, (State.din_of_inputs hwake.inputs k).trans hset⟩

section
variable {s : State} {k mv : Nat} (hpolled : s.dinPolled k = true) (hdue : (s.din k).due ≤ s.clk.lt)
include hpolled hdue

theorem State.dinPoll_due : s.dinPoll k mv =
    if (s.din k).load then s.setDin k { s.dinRead k mv with state := s.dinReading k mv, load := false, count := 0 }
    else if s.dinReading k mv = (s.din k).state then s.setDin k { s.dinRead k mv with count := 0 }
    else if max 1 (s.regF (R.DIN_TIMING (k / 24)) 11 8) ≤ (s.din k).count + 1 then
      (s.setDin k { s.dinRead k mv with count := (s.din k).count + 1 }).dinChange k (s.dinReading k mv)
    else s.setDin k { s.dinRead k mv with count := (s.din k).count + 1 } :=
  if_neg (by simp [hpolled, hdue])

theorem State.dinPoll_load (hload : (s.din k).load = true) : (s.dinPoll k mv).din k =
    { s.dinRead k mv with state := s.dinReading k mv, load := false, count := 0 } := by
  rw [State.dinPoll_due hpolled hdue, if_pos hload, State.din_setDin_self]

variable (hload : (s.din k).load = false)
include hload

theorem State.dinPoll_same (hsame : s.dinReading k mv = (s.din k).state) : (s.dinPoll k mv).din k =
    { s.dinRead k mv with count := 0 } := by
  rw [State.dinPoll_due hpolled hdue, if_neg (by simp [hload]), if_pos hsame, State.din_setDin_self]

variable (hdiff : s.dinReading k mv ≠ (s.din k).state)
include hdiff

theorem State.dinPoll_counted (hcount : ¬ max 1 (s.regF (R.DIN_TIMING (k / 24)) 11 8) ≤ (s.din k).count + 1) :
    (s.dinPoll k mv).din k = { s.dinRead k mv with count := (s.din k).count + 1 } := by
  rw [State.dinPoll_due hpolled hdue, if_neg (by simp [hload]), if_neg hdiff, if_neg hcount, State.din_setDin_self]

theorem State.dinPoll_changed (hcount : max 1 (s.regF (R.DIN_TIMING (k / 24)) 11 8) ≤ (s.din k).count + 1) :
    ∃ at_, (s.dinPoll k mv).din k = { s.dinRead k mv with
      state := s.dinReading k mv, count := 0, edge := (s.din k).edge || s.dinHit k (s.dinReading k mv), edgeAt := at_ } := by
  obtain ⟨at_, hchange⟩ := (s.setDin k { s.dinRead k mv with count := (s.din k).count + 1 }).dinChange_din k
    (s.dinReading k mv)
  rw [State.dinPoll_due hpolled hdue, if_neg (by simp [hload]), if_neg hdiff, if_pos hcount]
  refine ⟨at_, hchange.trans ?_⟩
  rw [State.din_setDin_self]
  rfl

end

theorem dinPoll_due (t : Nat) (k : Fin 96) (mv : Nat) :
    Effect t (.dinPoll t k mv) (fun b => b.dinPolled k = true ∧ (b.din k).due ≤ b.clk.lt)
      (fun b n => (n.din k).reading = b.dinReading k mv ∧ (n.din k).load = false
        ∧ (if (b.din k).load = true ∨ b.dinReading k mv = (b.din k).state
            ∨ max 1 (b.regF (R.DIN_TIMING (k / 24)) 11 8) ≤ (b.din k).count + 1
          then (n.din k).state = b.dinReading k mv ∧ (n.din k).count = 0
          else (n.din k).state = (b.din k).state ∧ (n.din k).count = (b.din k).count + 1)
        ∧ (n.din k).edge = ((b.din k).edge || (!(b.din k).load && b.dinReading k mv != (b.din k).state
          && decide (max 1 (b.regF (R.DIN_TIMING (k / 24)) 11 8) ≤ (b.din k).count + 1)
          && b.regB (if b.dinReading k mv then R.DIN_RISE_EN (k / 24) else R.DIN_FALL_EN (k / 24)) (k % 24)))) :=
  Effect.of_input_event (f := fun b => b.dinPoll k mv) (fun _ => rfl) fun b n ⟨hpolled, hdue⟩ hinputs _ => by
    rw [State.din_of_inputs hinputs]
    cases hload : (b.din k).load with
    | true =>
      rw [State.dinPoll_load hpolled hdue hload]
      simp [State.dinRead]
    | false =>
      by_cases hsame : b.dinReading k mv = (b.din k).state
      · rw [State.dinPoll_same hpolled hdue hload hsame]
        simp [State.dinRead, hload, hsame]
      · by_cases hcount : max 1 (b.regF (R.DIN_TIMING (k / 24)) 11 8) ≤ (b.din k).count + 1
        · obtain ⟨at_, hchanged⟩ := State.dinPoll_changed hpolled hdue hload hsame hcount
          rw [hchanged, decide_eq_true hcount, if_pos (.inr (.inr hcount))]
          simp [State.dinRead, State.dinHit, hload, bne_iff_ne.mpr hsame]
        · rw [State.dinPoll_counted hpolled hdue hload hsame hcount, decide_eq_false hcount,
            if_neg (by simp only [hsame, hcount]; simp)]
          simp [State.dinRead, hload]

/-! ## Wake inputs (R138) -/

/-- An edge to `level` is one that the input selects. -/
def State.winHit (s : State) (k : Nat) (level : Bool) : Bool :=
  if level then s.regF (R.WIN_CFG k) 2 1 != 1 else s.regF (R.WIN_CFG k) 2 1 != 0

section
variable {s : State} {k : Fin 4} {level : Bool} (hen : s.regB (R.WIN_CFG k) 0 = true) (hedge : (s.win k).level ≠ level)
include hen hedge

/-- An edge of an enabled input is noted and offered, and one that is selected raises its event and wakes. -/
theorem State.winEdge_enabled : ∃ m : State,
    (m.win k = { s.win k with level := level, woke := (s.win k).woke || s.winHit k level })
      ∧ s.winEdge k level = if s.winHit k level then (m.raise (inpPage k) 5).wakeRequest .wakeInput k else m := by
  have hhit : (level && fld (s.reg (R.WIN_CFG k)) 2 1 != 1 || !level && fld (s.reg (R.WIN_CFG k)) 2 1 != 0) =
      s.winHit k level := by
    cases level <;> simp [State.winHit, State.regF]
  unfold State.regB at hen
  unfold State.winEdge
  dsimp only
  rw [if_neg (by simp [hen, hedge]), hhit]
  exact ⟨_, (State.win_of_inputs (State.gwOfferValue_inputs ..) k).trans (s.win_setWin_self k _), rfl⟩

theorem State.winEdge_win : (s.winEdge k level).win k =
    { s.win k with level := level, woke := (s.win k).woke || s.winHit k level } := by
  obtain ⟨m, hwin, hrun⟩ := State.winEdge_enabled hen hedge
  rw [hrun, ← hwin]
  split
  · exact (State.win_of_inputs (State.KeepsInputs.wakeRequest _ _ _).inputs k).trans
      (State.win_of_inputs (m.raise_inputs _ 5) k)
  · rfl

theorem State.winEdge_event (hhit : s.winHit k level = true) :
    (s.winEdge k level).regB (R.EVT_STATUS (inpPage k)) 5 = true := by
  obtain ⟨m, -, hrun⟩ := State.winEdge_enabled hen hedge
  rw [hrun, if_pos hhit, State.regB, (State.KeepsInputs.wakeRequest _ _ _).reg _ (inpAddr_evtStatus k)]
  exact m.raise_sets _ 5 (by decide)

end

theorem wakeInputEdge_enabled (t : Nat) (k : Fin 4) (level : Bool) :
    Effect t (.wakeInputEdge t k level) (fun b => b.regB (R.WIN_CFG k) 0 = true ∧ (b.win k).level ≠ level)
      (fun b n => (n.win k).level = level
        ∧ (n.win k).woke = ((b.win k).woke
          || (if level then b.regF (R.WIN_CFG k) 2 1 != 1 else b.regF (R.WIN_CFG k) 2 1 != 0))
        ∧ ((if level then b.regF (R.WIN_CFG k) 2 1 != 1 else b.regF (R.WIN_CFG k) 2 1 != 0) = true
          → n.regB (R.EVT_STATUS (33 + k)) 5 = true)) :=
  Effect.of_input_event (f := fun b => b.winEdge k level) (fun _ => rfl) fun b n ⟨hen, hedge⟩ hinputs hreg => by
    rw [State.win_of_inputs hinputs, State.winEdge_win hen hedge]
    refine ⟨rfl, rfl, fun hhit => ?_⟩
    refine (congrArg (bit · 5) (hreg _ (inpAddr_not_dropRegs (inpAddr_evtStatus k)))).trans ?_
    exact State.winEdge_event hen hedge hhit

/-- Settles O12, clause by clause: the conversions of an analog input, its overload, then digital and wake inputs. -/
theorem analogAndDigitalInputs : Obligations.AnalogAndDigitalInputs := by
  unfold Obligations.AnalogAndDigitalInputs
  exact ⟨ainSample_filtered, ainSample_voltage, ainSample_resistance, ainSample_current, ainSample_ratio,
    ainOverload_disconnects, ainBurdenReconnect_due, dinPoll_due, wakeInputEdge_enabled⟩

end Sys2Proof.Machine

namespace Sys2Proof.Machine

/-! ## Frequency inputs (R136) -/

/-- An input that is neither off nor measured over gates only counts. -/
theorem State.finGated_of_mode {s : State} {k : Nat} (h0 : s.finMode k ≠ 0) (h3 : s.finMode k ≠ 3) :
    finGated (s.finMode k) = true := by
  have hlt : s.finMode k < 4 := Nat.mod_lt _ (by decide)
  have hmode : s.finMode k = 1 ∨ s.finMode k = 2 := by omega
  simpa [finGated] using hmode

/-- A frequency input after an edge of its signal, whose high time was `high`. -/
def Fin'.onEdge (f : Fin') (gated : Bool) (lt high : Nat) : Fin' :=
  let g := { f with count := (f.count + 1) % 2 ^ 32, lastEdge := lt, running := true, stalled := f.stalled && !f.running }
  if gated then
    { g with first := some (f.first.getD lt), last := some lt, edges := f.edges + 1
             high := if f.edges = 0 then 0 else f.high + high }
  else g

theorem Fin'.onEdge_always (f : Fin') (gated : Bool) (lt high : Nat) :
    (f.onEdge gated lt high).count = (f.count + 1) % 2 ^ 32 ∧ (f.onEdge gated lt high).lastEdge = lt
      ∧ (f.onEdge gated lt high).freq = f.freq := by
  cases gated <;> exact ⟨rfl, rfl, rfl⟩

theorem State.finEdge_counted {s : State} {k high low pulse : Nat} (hmode : s.finMode k ≠ 0) (hrun : s.inputsRun = true)
    (hpulse : s.regF (R.FIN_CFG k) 28 24 * 1000 ≤ pulse) (hlow : s.regF (R.FIN_CFG k) 28 24 * 1000 ≤ low) :
    s.finEdge k high low pulse = s.setFin k ((s.fin k).onEdge (finGated (s.finMode k)) s.clk.lt high) :=
  if_neg (by simp [hmode, hrun, hpulse, hlow])

theorem State.finEdge_glitch {s : State} {k high low pulse : Nat}
    (hshort : pulse < s.regF (R.FIN_CFG k) 28 24 * 1000 ∨ low < s.regF (R.FIN_CFG k) 28 24 * 1000) :
    s.finEdge k high low pulse = s :=
  if_pos (by rcases hshort with h | h <;> simp [h])

section
variable {s : State} {k : Nat} (hmode : s.finMode k = 1 ∨ s.finMode k = 2) (hrun : s.inputsRun = true)
variable (hdue : (s.fin k).gateAt + s.finGateNs k ≤ s.clk.lt)
include hmode hrun hdue

theorem State.finGate_short (hedges : (s.fin k).edges < 2) : (s.finGate k).fin k = (s.fin k).newGate s.clk.lt := by
  have hgated : finGated (s.finMode k) = true := by simpa [finGated] using hmode
  unfold State.finGate
  dsimp only
  rw [if_neg (by simp [hgated, hrun, hdue]), State.fin_of_inputs (State.gwOfferValue_inputs ..),
    if_pos (by simp [hedges]), State.fin_setFin_self]

theorem State.finGate_measured {first last : Nat} (hedges : 2 ≤ (s.fin k).edges) (hfirst : (s.fin k).first = some first)
    (hlast : (s.fin k).last = some last) (hspan : first < last) :
    (s.finGate k).fin k = { (s.fin k).newGate s.clk.lt with
      freq := min (((s.fin k).edges - 1) * 10 ^ 12 / (last - first)) (2 ^ 32 - 1)
      overrange := decide (50000000 < ((s.fin k).edges - 1) * 10 ^ 12 / (last - first))
      duty := if s.finMode k = 2 then min 1000 ((s.fin k).high * 1000 / (last - first)) else (s.fin k).duty } := by
  have hgated : finGated (s.finMode k) = true := by simpa [finGated] using hmode
  have hfew : ¬ (s.fin k).edges < 2 := by omega
  have hzero : last - first ≠ 0 := by omega
  unfold State.finGate
  dsimp only
  rw [if_neg (by simp [hgated, hrun, hdue]), State.fin_of_inputs (State.gwOfferValue_inputs ..), hfirst, hlast,
    Option.getD_some, Option.getD_some, if_neg (by simp [hfew, hzero]), State.fin_setFin_self]

end

theorem State.finStall_silent {s : State} {k : Nat} (hmode : s.finMode k ≠ 0) (hrun : s.inputsRun = true)
    (hgoing : (s.fin k).stalled = false)
    (hdue : (s.fin k).lastEdge + max 1 (s.regF (R.FIN_CFG k) 23 16) * 10000000 ≤ s.clk.lt) :
    s.finStall k = (s.setFin k { s.fin k with freq := 0, duty := 0, stalled := true, running := false }).raise
      (inpPage (k / 4)) 3 :=
  if_pos (by simp [hmode, hrun, hgoing, hdue])

theorem finEdge_counted (t : Nat) (k : Fin 16) (high low pulse : Nat) :
    Effect t (.finEdge t k high low pulse)
      (fun b => b.finMode k ≠ 0 ∧ b.inputsRun = true ∧ b.regF (R.FIN_CFG k) 28 24 * 1000 ≤ pulse
        ∧ b.regF (R.FIN_CFG k) 28 24 * 1000 ≤ low)
      (fun b n => (n.fin k).count = ((b.fin k).count + 1) % 2 ^ 32 ∧ (n.fin k).lastEdge = b.clk.lt
        ∧ (n.fin k).freq = (b.fin k).freq
        ∧ (b.finMode k ≠ 3 → (n.fin k).last = some b.clk.lt ∧ (n.fin k).edges = (b.fin k).edges + 1)) :=
  Effect.of_input_event (f := fun b => b.finEdge k high low pulse) (fun _ => rfl)
    fun b n ⟨hmode, hrun, hpulse, hlow⟩ hinputs _ => by
    obtain ⟨hcount, hlast, hfreq⟩ := (b.fin k).onEdge_always (finGated (b.finMode k)) b.clk.lt high
    rw [State.fin_of_inputs hinputs, State.finEdge_counted hmode hrun hpulse hlow, State.fin_setFin_self]
    refine ⟨hcount, hlast, hfreq, fun h3 => ?_⟩
    rw [State.finGated_of_mode hmode h3]
    exact ⟨rfl, rfl⟩

theorem finEdge_glitch (t : Nat) (k : Fin 16) (high low pulse : Nat) :
    Effect t (.finEdge t k high low pulse)
      (fun b => pulse < b.regF (R.FIN_CFG k) 28 24 * 1000 ∨ low < b.regF (R.FIN_CFG k) 28 24 * 1000)
      (fun b n => n.fin k = b.fin k) :=
  Effect.of_input_event (f := fun b => b.finEdge k high low pulse) (fun _ => rfl) fun b n hshort hinputs _ => by
    rw [State.fin_of_inputs hinputs, State.finEdge_glitch hshort]

theorem finGateEnd_measured (t : Nat) (k : Fin 16) (first last : Nat) :
    Effect t (.finGateEnd t k)
      (fun b => (b.finMode k = 1 ∨ b.finMode k = 2) ∧ b.inputsRun = true
        ∧ (b.fin k).gateAt + max 1 (b.regF (R.FIN_CFG k) 15 8) * 1000000 ≤ b.clk.lt ∧ 2 ≤ (b.fin k).edges
        ∧ (b.fin k).first = some first ∧ (b.fin k).last = some last ∧ first < last)
      (fun b n => (n.fin k).freq = min (((b.fin k).edges - 1) * 10 ^ 12 / (last - first)) (2 ^ 32 - 1)
        ∧ (b.finMode k = 2 → (n.fin k).duty = min 1000 ((b.fin k).high * 1000 / (last - first)))
        ∧ (n.fin k).edges = 0 ∧ (n.fin k).first = none ∧ (n.fin k).gateAt = b.clk.lt
        ∧ (n.fin k).count = (b.fin k).count) :=
  Effect.of_input_event (f := fun b => b.finGate k) (fun _ => rfl)
    fun b n ⟨hmode, hrun, hdue, hedges, hfirst, hlast, hspan⟩ hinputs _ => by
    rw [State.fin_of_inputs hinputs, State.finGate_measured hmode hrun hdue hedges hfirst hlast hspan]
    exact ⟨rfl, fun hduty => if_pos hduty, rfl, rfl, rfl, rfl⟩

theorem finGateEnd_short (t : Nat) (k : Fin 16) :
    Effect t (.finGateEnd t k)
      (fun b => (b.finMode k = 1 ∨ b.finMode k = 2) ∧ b.inputsRun = true
        ∧ (b.fin k).gateAt + max 1 (b.regF (R.FIN_CFG k) 15 8) * 1000000 ≤ b.clk.lt ∧ (b.fin k).edges < 2)
      (fun b n => n.fin k = { b.fin k with first := none, last := none, edges := 0, high := 0, gateAt := b.clk.lt }) :=
  Effect.of_input_event (f := fun b => b.finGate k) (fun _ => rfl) fun _ _ ⟨hmode, hrun, hdue, hedges⟩ hinputs _ =>
    (State.fin_of_inputs hinputs k).trans (State.finGate_short hmode hrun hdue hedges)

theorem finStall_silent (t : Nat) (k : Fin 16) :
    Effect t (.finStall t k)
      (fun b => b.finMode k ≠ 0 ∧ b.inputsRun = true ∧ (b.fin k).stalled = false
        ∧ (b.fin k).lastEdge + max 1 (b.regF (R.FIN_CFG k) 23 16) * 10000000 ≤ b.clk.lt)
      (fun b n => n.fin k = { b.fin k with freq := 0, duty := 0, stalled := true, running := false }) :=
  Effect.of_input_event (f := fun b => b.finStall k) (fun _ => rfl) fun b n ⟨hmode, hrun, hgoing, hdue⟩ hinputs _ => by
    rw [State.fin_of_inputs hinputs, State.finStall_silent hmode hrun hgoing hdue,
      State.fin_of_inputs (State.raise_inputs ..), State.fin_setFin_self]

/-! ## Sensor supplies (R137) -/

theorem State.ssupFault_ssup {s : State} {k : Nat} (hon : s.ssupOn k = true) (backfed : Bool) :
    (s.ssupFault k backfed).ssup k = { s.ssup k with
      on := false, fault := true, backfed := backfed, overload := !backfed, undervolt := false, since := s.clk.lt } := by
  unfold State.ssupFault
  rw [if_neg (by simp [hon]), State.ssup_of_inputs (State.raise_inputs ..), State.ssup_setSsup_self]

@[simp] theorem State.ssupStart_ssup (s : State) (k : Nat) :
    (s.ssupStart k).ssup k = { s.ssup k with on := true, fault := false } :=
  s.ssup_setSsup_self k _

theorem State.ssupRetry_due {s : State} {k : Nat} (hfault : (s.ssup k).fault = true)
    (hen : s.regB (R.SSUP_CFG k) 0 = true) (hretry : s.regB (R.SSUP_CFG k) 2 = true)
    (hdue : (s.ssup k).since + max 1 (s.regF (R.SSUP_CFG k) 15 8) * 100000000 ≤ s.clk.lt) :
    s.ssupRetry k = s.ssupStart k := by
  unfold State.regB at hen hretry
  unfold State.regF at hdue
  exact if_pos (by simp [hfault, hen, hretry, hdue])

theorem State.ssupRestart_faulted {s : State} {k : Nat} (hfault : (s.ssup k).fault = true)
    (hen : s.regB (R.SSUP_CFG k) 0 = true) (hretry : s.regB (R.SSUP_CFG k) 2 = false) :
    s.ssupRestart k = s.ssupStart k := by
  unfold State.regB at hen hretry
  exact if_pos (by simp [hfault, hen, hretry])

theorem State.ssupRestart_resp (s : State) (k : Nat) : (s.ssupRestart k).resp = s.resp := by
  unfold State.ssupRestart
  dsimp only
  split <;> rfl

theorem ssupOverload_on (t : Nat) (k : Fin 8) :
    Effect t (.ssupOverload t k) (fun b => b.ssupOn k = true) (fun b n => n.ssup k = { b.ssup k with
      on := false, fault := true, backfed := false, overload := true, undervolt := false, since := b.clk.lt }) :=
  Effect.of_input_event (f := fun b => b.ssupFault k false) (fun _ => rfl) fun _ _ hon hinputs _ =>
    (State.ssup_of_inputs hinputs k).trans (State.ssupFault_ssup hon false)

theorem ssupBackfed_on (t : Nat) (k : Fin 8) :
    Effect t (.ssupBackfed t k) (fun b => b.ssupOn k = true) (fun b n => n.ssup k = { b.ssup k with
      on := false, fault := true, backfed := true, overload := false, undervolt := false, since := b.clk.lt }) :=
  Effect.of_input_event (f := fun b => b.ssupFault k true) (fun _ => rfl) fun _ _ hon hinputs _ =>
    (State.ssup_of_inputs hinputs k).trans (State.ssupFault_ssup hon true)

theorem ssupUndervolt_noted (t : Nat) (k : Fin 8) (below : Bool) :
    Effect t (.ssupUndervolt t k below) (fun _ => True)
      (fun b n => n.ssup k = { b.ssup k with undervolt := below && b.ssupOn k }) :=
  Effect.of_input_event (f := fun b => b.setSsup k { b.ssup k with undervolt := below && b.ssupOn k }) (fun _ => rfl)
    fun b _ _ hinputs _ => (State.ssup_of_inputs hinputs k).trans (b.ssup_setSsup_self k _)

theorem ssupRetry_due (t : Nat) (k : Fin 8) :
    Effect t (.ssupRetry t k)
      (fun b => (b.ssup k).fault = true ∧ b.regB (R.SSUP_CFG k) 0 = true ∧ b.regB (R.SSUP_CFG k) 2 = true
        ∧ (b.ssup k).since + max 1 (b.regF (R.SSUP_CFG k) 15 8) * 100000000 ≤ b.clk.lt)
      (fun b n => n.ssup k = { b.ssup k with on := true, fault := false }) :=
  Effect.of_input_event (f := fun b => b.ssupRetry k) (fun _ => rfl) fun b n ⟨hfault, hen, hretry, hdue⟩ hinputs _ => by
    rw [State.ssup_of_inputs hinputs, State.ssupRetry_due hfault hen hretry hdue, State.ssupStart_ssup]

theorem ssupFaultRestart_faulted (a : Acc) (k : Fin 8) :
    WriteEffect a (R.SSUP_STAT k) (.ssupFaultRestart a k)
      (fun b => (b.ssup k).fault = true ∧ b.regB (R.SSUP_CFG k) 0 = true ∧ b.regB (R.SSUP_CFG k) 2 = false)
      (fun b n => n.ssup k = { b.ssup k with on := true, fault := false }) :=
  WriteEffect.of_write (f := fun b => b.ssupRestart k) (fun _ => rfl) fun _ b ⟨hfault, hen, hretry⟩ => by
    refine ⟨((b.done.ssupRestart k).offerChans_resp b).trans (b.done.ssupRestart_resp k), ?_⟩
    refine (State.ssup_of_inputs ((b.done.ssupRestart k).offerChans_inputs b) k).trans ?_
    rw [State.ssupRestart_faulted (s := b.done) hfault hen hretry]
    exact b.done.ssupStart_ssup k

/-- Settles O13, clause by clause: the edges, gates and stall of a frequency input, then the supplies. -/
theorem frequencyAndSupplies : Obligations.FrequencyAndSupplies := by
  unfold Obligations.FrequencyAndSupplies
  exact ⟨finEdge_counted, finEdge_glitch, finGateEnd_measured, finGateEnd_short, finStall_silent, ssupOverload_on,
    ssupBackfed_on, ssupUndervolt_noted, ssupRetry_due, ssupFaultRestart_faulted⟩

end Sys2Proof.Machine
